-- ==== Sys2Proof/Word.lean ====
section
/-! DEFINITION. The words of the part: bytes on the agent lines and in the image, 16-bit counts and
checksums, 32-bit corridor seconds, arrival serials and module serial numbers. Quantities the spec
only counts or compares (indices, seconds remaining, severities) are `Nat`; weather values are
`Int`, as the Conventions say ("Arithmetic in this reference is on integers"). -/

namespace Sys2Proof

/-- A byte of a frame, of message text or of the configuration image. -/
abbrev Byte := BitVec 8

/-- A 16-bit value: a segment revision (R36), a CRC-16 (R150, R172). -/
abbrev Half := BitVec 16

/-- A 32-bit value: corridor seconds (R17), an arrival serial (R138), a module's serial number. -/
abbrev Word := BitVec 32

/-- A raw code of a sensing element, 0–4095 (R110, R111: no other code can be carried). -/
abbrev RawCode := BitVec 12

/-- `clamp v lo hi` of the Conventions: the value kept between the two bounds. -/
def clampInt (v lo hi : Int) : Int := max lo (min v hi)

end Sys2Proof
end

