-- ==== Sys2Proof/Config.lean ====
section
/-! DEFINITION. The configuration image as data (chapters 01–12, gathered by R184), and the two
values the spec leaves open, as constants without a body. The checks on an image, the clamps at
load and the built-in safe image are in `Machine/Image.lean`. -/

namespace Sys2Proof

/-- The four agent sources (R19), in the order of R181. -/
inductive AgentSource where
  | avs | enf | roc | cab
deriving DecidableEq, Repr, Inhabited

/-- What a lost link does to its source's demands (R20). -/
inductive LossAction where
  | retain | withdraw
deriving DecidableEq, Repr, Inhabited

/-- The four line speeds of R20. -/
inductive LineSpeed where
  | b9600 | b19200 | b38400 | b57600
deriving DecidableEq, Repr, Inhabited

/-- What the image gives a bound agent port (R20). -/
structure PortBinding where
  source : AgentSource
  speed  : LineSpeed
  /-- L, the presence lower bound in seconds; 0 means no lower bound. -/
  lower  : Nat
  /-- U, the presence upper bound in seconds. -/
  upper  : Nat
  loss   : LossAction
deriving DecidableEq, Repr, Inhabited

/-- A segment's entry: restart-hold flag and weather set (R1, R4, R5). -/
structure SegmentEntry where
  restartHold : Bool
  ts : Option Nat
  td : Option Nat
  p  : Option Nat
  s  : Option Nat
  w  : Option Nat
deriving DecidableEq, Repr, Inhabited

/-- A gate's entry (R2, R184): both absent for a gate that is not fitted. -/
structure GateEntry where
  segment : Option Nat
  station : Option Nat
deriving DecidableEq, Repr, Inhabited

/-- A zone's entry (R3, R87). -/
structure ZoneEntry where
  threatened : List Nat
  failClosed : Bool
deriving DecidableEq, Repr, Inhabited

/-- A trip line's entry (R88): the station and its input, absent for a line that is not fitted,
and the zone. R88 makes the station and the zone of such a line absent and is silent on its input: that
the input is absent with the station, and is sent as 0xFF, is the model's choice (log 38). -/
structure LineEntry where
  place : Option (Nat × Nat)
  zone  : Option Nat
deriving DecidableEq, Repr, Inhabited

/-- The five channel types (R108). -/
inductive ChannelType where
  | surfaceTemp | dewPoint | precip | snowDepth | windGust
deriving DecidableEq, Repr, Inhabited

/-- The three fault actions (R115). -/
inductive FaultAction where
  | hold | fallback | worst
deriving DecidableEq, Repr, Inhabited

/-- The fixed fields of a channel (R108): its head and input, absent for a channel that is not fitted,
and the fields every channel has. -/
structure ChannelEntry where
  place      : Option (Nat × Nat)
  type       : ChannelType
  gain       : Nat
  offset     : Int
  low        : Int
  high       : Int
  staleLimit : Nat
  action     : FaultAction
  fallback   : Int
deriving DecidableEq, Repr, Inhabited

/-- The flash patterns (R136). -/
inductive Flash where
  | dark | alternate | unison
deriving DecidableEq, Repr, Inhabited

/-- An entry of the condition map or of the wind map (R132). -/
structure MapEntry where
  slot     : Nat
  severity : Nat
  flash    : Flash
deriving DecidableEq, Repr, Inhabited

/-- The direction of a logical sign (R7). -/
inductive Direction where
  | uphill | downhill
deriving DecidableEq, Repr, Inhabited

/-- The image's fields of a logical sign's placement entry (R7). -/
structure SignEntry where
  segment        : Nat
  direction      : Direction
  primary        : Option Nat
  standby        : Option Nat
  beacon         : Option Nat
  defaultMessage : Option Nat
deriving DecidableEq, Repr, Inhabited

/-- The configured type of a drop (R162). -/
inductive StationType where
  | sign | gate | trip | beacon | unused
deriving DecidableEq, Repr, Inhabited

/-- A message: the sixty characters of lines 0–2 and the pictogram code (R155). -/
structure Message where
  text  : List Byte
  picto : Nat
deriving DecidableEq, Repr, Inhabited

/-- The configuration of the part, as far as the chapters give it content (R184). -/
structure Image where
  ports          : List (Option PortBinding)
  segments       : List SegmentEntry
  gates          : List GateEntry
  travelLimit    : Nat
  retryInterval  : Nat
  retryLimit     : Nat
  zones          : List ZoneEntry
  lines          : List LineEntry
  watchThreshold : Nat
  debounce       : Nat
  channels       : List ChannelEntry
  samplePeriod   : Nat
  thresholds     : List Nat
  hysteresis     : Nat
  confirmation   : Nat
  evalPeriod     : Nat
  condMap        : List MapEntry
  windMap        : List MapEntry
  signs          : List SignEntry
  stationTypes   : List StationType
  stored         : List Message
  closingSlot    : Nat
  closedSlot     : Nat
  openingSlot    : Nat
  level3Slot     : Nat
  level4Slot     : Nat
  level5Slot     : Nat
  avalancheSlot  : Nat
  controlSlot    : Nat
  preWarning     : Nat
  minDwell       : Nat
  holdDuration   : Nat
  flashPeriod    : Nat
  flashOnTime    : Nat
deriving DecidableEq, Repr, Inhabited

/-- How the 8188 configuration bytes spell an image. The spec names the parts of the image (R184)
and gives no byte layout, so this is a constant without a body: `none` where a coded field holds
none of the values its rule lists (R20, R108, R132, R162). DESIGN CHOICE, safe (assumption 5). -/
opaque Config.parseImage : List Byte → Option Image

/-- The byte that stands at an offset of configuration memory after a start-up abandoned a write
(R188: "whatever the memory holds"): the first argument numbers the abandoned writes. A constant
without a body. DESIGN CHOICE, safe (assumption 6). -/
opaque Config.tornByte : Nat → Nat → Byte

end Sys2Proof
end

