-- ==== Sys2Proof/Syntax.lean ====
section
/-! DEFINITION. The commands of the part: one constructor of `Instr` for each row of
spec/opcode_table.json. A row that an agent sends as a frame (CLAIM, POST, …) is the TAKING of that
command from its port's intake queue (R42, R173), so it names the port; its own operands stand in
the frame (R175). A row that one block delivers to another carries the delivery's content. -/

namespace Sys2Proof

/-- A boom position a gate station reports (R70). -/
inductive Position where
  | up | down | between
deriving DecidableEq, Repr, Inhabited

/-- The condition of one input of a TRIP station (R90). -/
inductive Condition where
  | quiet | alarm | openCircuit
deriving DecidableEq, Repr, Inhabited

/-- The items of a gate station's report (R70): position, obstruction sensor, manual lever. -/
structure GateReport where
  position : Position
  blocked  : Bool
  lever    : Bool
deriving DecidableEq, Repr, Inhabited

/-- The conditions of the four inputs of a TRIP station (R90). -/
structure TripReport where
  c0 : Condition
  c1 : Condition
  c2 : Condition
  c3 : Condition
deriving DecidableEq, Repr, Inhabited

/-- What a module says of itself in its identification report, by its type (R164). -/
inductive ModuleReport where
  | sign
  | gate (r : GateReport)
  | trip (r : TripReport)
  | beacon
deriving DecidableEq, Repr, Inhabited

/-- The answer of an ACTIVE station to its poll, by its type (R165). -/
inductive PollAnswer where
  | sign (checksum : Half)
  | gate (r : GateReport)
  | trip (r : TripReport)
  | beacon
deriving DecidableEq, Repr, Inhabited

/-- The topics of the internal demands (R136), in the order of R181. -/
inductive Topic where
  | closure | zone | cond | wind
deriving DecidableEq, Repr, Inhabited

/-- What an internal placement or replacement gives a sign (R145). -/
structure DemandContent where
  slot     : Nat
  severity : Nat
  flash    : Flash
deriving DecidableEq, Repr, Inhabited

/-- The commands: every row of the table of operations and events. -/
inductive Instr where
  /-- START_UP (R189). -/
  | startUp
  /-- STARTUP_SEQUENCE_BEGIN (R163). -/
  | startupSequenceBegin
  /-- SECOND_BOUNDARY (R17). -/
  | secondBoundary
  /-- KEY_LINE_CHANGE (R23). -/
  | keyLineChange (active : Bool)
  /-- FRAME_ARRIVAL (R172, R173): bytes of the line, taken one after the other. -/
  | frameArrival (port : Nat) (bytes : List Byte)
  /-- INTER_BYTE_GAP_DISCARD (R172): the byte that came late. -/
  | interByteGapDiscard (port : Nat) (late : Byte)
  /-- UNKNOWN_KIND (R174). -/
  | unknownKind (port : Nat)
  /-- REPLY_SENT (R176). -/
  | replySent (port : Nat)
  /-- NOTICE_SENT (R177). -/
  | noticeSent (port : Nat)
  /-- PRESENCE (R25). -/
  | presence (port : Nat)
  /-- LOWER_BOUND_EXPIRY (R25). -/
  | lowerBoundExpiry (port : Nat)
  /-- WINDOW_EXPIRY (R26). -/
  | windowExpiry (port : Nat)
  /-- LINK_LOSS_REMOVAL (R29). -/
  | linkLossRemoval (source : AgentSource)
  /-- STATUS (R180). -/
  | status (port : Nat)
  /-- SUBSCRIBE (R178). -/
  | subscribe (port : Nat)
  /-- PORT_CLEAR (R179). -/
  | portClear (port : Nat)
  /-- SET_TIME (R18). -/
  | setTime (port : Nat)
  /-- HOLD (R31). -/
  | hold (port : Nat)
  /-- UNHOLD (R32). -/
  | unhold (port : Nat)
  /-- HOLD_EXPIRY (R33). -/
  | holdExpiry (seg : Nat)
  /-- CLAIM (R46). -/
  | claim (port : Nat)
  /-- RELEASE (R48). -/
  | release (port : Nat)
  /-- FORCE_RELEASE (R49). -/
  | forceRelease (port : Nat)
  /-- RESTART_CONFIRM (R50). -/
  | restartConfirm (port : Nat)
  /-- DETECTOR_EVENT (R51). -/
  | detectorEvent (seg zone : Nat)
  /-- ZONE_CLEARANCE_EVENT (R52). -/
  | zoneClearanceEvent (seg zone : Nat) (lockEnds : Bool)
  /-- LOCK_START_EVENT (R64). -/
  | lockStartEvent (seg : Nat)
  /-- DWELL_EXPIRY (R58). -/
  | dwellExpiry (seg : Nat)
  /-- GATE_REPORT_TO_SEGMENT (R65). -/
  | gateReportToSegment (gate : Nat)
  /-- LOWER_REQUEST (R72). -/
  | lowerRequest (gate : Nat)
  /-- RAISE_REQUEST (R73). -/
  | raiseRequest (gate : Nat)
  /-- GATE_REPORT (R70). -/
  | gateReport (gate : Nat) (report : GateReport)
  /-- TRAVEL_TIMEOUT (R74). -/
  | travelTimeout (gate : Nat)
  /-- RETRY_INTERVAL_EXPIRY (R76). -/
  | retryIntervalExpiry (gate : Nat)
  /-- STARTUP_LIMIT (R84). -/
  | startupLimit
  /-- GATE_STATION_LOST (R82). -/
  | gateStationLost (gate : Nat)
  /-- GATE_STATION_RETURN (R83). -/
  | gateStationReturn (gate : Nat) (report : GateReport)
  /-- GATE_FAULT_CLEAR (R85). -/
  | gateFaultClear (port : Nat)
  /-- TRIP_REPORT (R90). -/
  | tripReport (station : Nat) (report : TripReport)
  /-- TRIP_STATION_LOST (R91). -/
  | tripStationLost (station : Nat)
  /-- TRIP_STATION_RETURN (R92). -/
  | tripStationReturn (station : Nat) (report : TripReport)
  /-- SET_LEVEL (R96). -/
  | setLevel (port : Nat)
  /-- BEGIN_SWEEP (R97). -/
  | beginSweep (port : Nat)
  /-- ZONE_CLEAR (R98). -/
  | zoneClear (port : Nat)
  /-- PERMIT_REQUEST (R100). -/
  | permitRequest (port : Nat)
  /-- PERMIT_END (R102). -/
  | permitEnd (port : Nat)
  /-- PERMIT_EXPIRY (R102). -/
  | permitExpiry (zone : Nat)
  /-- SAMPLE_PERIOD_EXPIRY (R110). -/
  | samplePeriodExpiry
  /-- HEAD_POLL_REPLY (R111): the codes of inputs 0–3. -/
  | headPollReply (head : Nat) (c0 c1 c2 c3 : RawCode)
  /-- HEAD_REPLY_LIMIT (R110). -/
  | headReplyLimit
  /-- IMMEDIATE_SAMPLE_REPLY (R121). -/
  | immediateSampleReply (code : RawCode)
  /-- STALE_LIMIT (R114). -/
  | staleLimit (channel : Nat)
  /-- READING (R120). -/
  | reading (port : Nat)
  /-- DISCARD_TIMER_EXPIRY (R122). -/
  | discardTimerExpiry
  /-- FORCE_CHANNEL (R117). -/
  | forceChannel (port : Nat)
  /-- UNFORCE (R118). -/
  | unforce (port : Nat)
  /-- EVALUATION_EVENT (R125). -/
  | evaluationEvent
  /-- POST (R140). -/
  | post (port : Nat)
  /-- WITHDRAW (R142). -/
  | withdraw (port : Nat)
  /-- WITHDRAW_ALL (R143). -/
  | withdrawAll (port : Nat)
  /-- DEMAND_EXPIRY (R144). -/
  | demandExpiry (sign : Nat) (source : AgentSource) (tag : Nat)
  /-- INTERNAL_DELIVERY (R145): a placement or replacement with its content, or a withdrawal. -/
  | internalDelivery (sign : Nat) (topic : Topic) (content : Option DemandContent)
  /-- PLACEHOLDER_CHANGE (R149). -/
  | placeholderChange (sign : Nat)
  /-- RE_RENDER_TIMER_EXPIRY (R149). -/
  | reRenderTimerExpiry (sign : Nat)
  /-- CHECKSUM (R150). -/
  | checksum (station : Nat) (value : Half)
  /-- FACE_CHECK_FAILURE (R166). -/
  | faceCheckFailure (station : Nat)
  /-- RETARGET (R152): the sign, its previous active target and its new one (R11). -/
  | retarget (sign : Nat) (previous new : Option Nat)
  /-- PLACEMENT_DEPARTURE (R9). -/
  | placementDeparture (station : Nat)
  /-- PLACEMENT_ENTRY (R10). -/
  | placementEntry (station : Nat)
  /-- REMAP (R13). -/
  | remap (port : Nat)
  /-- BEACON_STATION_ENTRY (R153). -/
  | beaconStationEntry (station : Nat)
  /-- BEACON_STATION_DEPARTURE (R153). -/
  | beaconStationDeparture (station : Nat)
  /-- BEACON_FLASH_TIMING (R153): the next boundary within the flash period is reached. -/
  | beaconFlashTiming
  /-- CURSOR (R158). -/
  | cursor (port : Nat)
  /-- WRITE_TEXT (R159). -/
  | writeText (port : Nat)
  /-- LIBRARY_CLEAR (R160). -/
  | libraryClear (port : Nat)
  /-- PRESENCE_CONTACT_CLOSES (R163). -/
  | presenceContactCloses (station : Nat)
  /-- PRESENCE_CONTACT_OPENS (R163). -/
  | presenceContactOpens (station : Nat)
  /-- POWER_SETTLE_EXPIRY (R164). -/
  | powerSettleExpiry (station : Nat)
  /-- IDENT_REQUEST (R164). -/
  | identRequest (station : Nat)
  /-- IDENTIFICATION_REPORT (R164). -/
  | identificationReport (station : Nat) (content : ModuleReport) (serial : Word)
  /-- IDENT_TIMEOUT (R164). -/
  | identTimeout (station : Nat)
  /-- POLL_ROUND (R165). -/
  | pollRound
  /-- POLL_ANSWERED (R165). -/
  | pollAnswered (station : Nat) (answer : PollAnswer)
  /-- POLL_UNANSWERED (R165). -/
  | pollUnanswered (station : Nat)
  /-- LOST_STATION_REPLY (R165). -/
  | lostStationReply (station : Nat)
  /-- OVER_CURRENT_TRIP (R166). -/
  | overCurrentTrip (station : Nat)
  /-- ATTENTION_BUTTON (R168). -/
  | attentionButton (station : Nat)
  /-- REFUSAL_BLINK_END (R168). -/
  | refusalBlinkEnd (station : Nat)
  /-- QUIESCING_EXCHANGE_ANSWERED (R168). -/
  | quiescingExchangeAnswered (station : Nat)
  /-- QUIESCING_EXCHANGE_UNANSWERED (R168). -/
  | quiescingExchangeUnanswered (station : Nat)
  /-- STATION_OFF (R169). -/
  | stationOff (port : Nat)
  /-- STATION_RESTART (R170). -/
  | stationRestart (port : Nat)
  /-- IMAGE_WRITE (R187). -/
  | imageWrite (port : Nat)
  /-- IMAGE_COMMIT (R188). -/
  | imageCommit (port : Nat)
  /-- COMMIT_COMPLETION (R188). -/
  | commitCompletion
  /-- START_BYTE_BEGINS_FRAME (R172). -/
  | startByteBeginsFrame (port : Nat)
deriving DecidableEq, Repr, Inhabited

end Sys2Proof
end

