-- ==== Sys2Proof/WellFormed.lean ====
section
/-! DEFINITION. Which commands name objects the part has: every index lies in the range its chapter
gives (R1, R2, R3, R7, R20, R88, R108, R162), and an internal demand names a stored slot and a
severity of R136. The operands an agent sends in a frame are judged by the argument check of
R174, not here. -/

namespace Sys2Proof

/-- Agent ports P0–P3. -/
def portOk (p : Nat) : Bool := p < 4
/-- Segments 0–11 (R1). -/
def segOk (i : Nat) : Bool := i < 12
/-- Gates 0–7 (R69). -/
def gateOk (g : Nat) : Bool := g < 8
/-- Zones 0–9 (R87). -/
def zoneOk (z : Nat) : Bool := z < 10
/-- Trip lines 0–23 (R89). -/
def lineOk (l : Nat) : Bool := l < 24
/-- Sensor heads 0–7 (R108). -/
def headOk (h : Nat) : Bool := h < 8
/-- Channels 0–23 (R108). -/
def channelOk (c : Nat) : Bool := c < 24
/-- Logical signs 0–23 (R7). -/
def signOk (i : Nat) : Bool := i < 24
/-- Station addresses 0–31 (R162). -/
def stationOk (x : Nat) : Bool := x < 32
/-- Tags 0–3 (R136). -/
def tagOk (t : Nat) : Bool := t < 4

/-- An internal demand names a stored slot 0–95 and a severity 0–7 (R136). -/
def DemandContent.ok (c : DemandContent) : Bool := c.slot < 96 && c.severity < 8

/-- An absent index, or one in range. -/
def optOk (ok : Nat → Bool) : Option Nat → Bool
  | none => true
  | some x => ok x

/-- A command whose operands name objects the part has. -/
def Instr.wellFormed : Instr → Bool
  | .startUp | .startupSequenceBegin | .secondBoundary | .keyLineChange _ => true
  | .frameArrival p _ | .interByteGapDiscard p _ | .unknownKind p | .replySent p | .noticeSent p
  | .presence p | .lowerBoundExpiry p | .windowExpiry p | .status p | .subscribe p | .portClear p
  | .setTime p | .hold p | .unhold p | .claim p | .release p | .forceRelease p
  | .restartConfirm p | .gateFaultClear p | .setLevel p | .beginSweep p | .zoneClear p
  | .permitRequest p | .permitEnd p | .reading p | .forceChannel p | .unforce p | .post p
  | .withdraw p | .withdrawAll p | .remap p | .cursor p | .writeText p | .libraryClear p
  | .stationOff p | .stationRestart p | .imageWrite p | .imageCommit p
  | .startByteBeginsFrame p => portOk p
  | .linkLossRemoval _ => true
  | .holdExpiry i | .lockStartEvent i | .dwellExpiry i => segOk i
  | .detectorEvent i z | .zoneClearanceEvent i z _ => segOk i && zoneOk z
  | .gateReportToSegment g | .lowerRequest g | .raiseRequest g | .gateReport g _
  | .travelTimeout g | .retryIntervalExpiry g | .gateStationLost g | .gateStationReturn g _ =>
    gateOk g
  | .startupLimit => true
  | .permitExpiry z => zoneOk z
  | .headPollReply h _ _ _ _ => headOk h
  | .samplePeriodExpiry | .headReplyLimit | .immediateSampleReply _ | .discardTimerExpiry
  | .evaluationEvent | .beaconFlashTiming | .pollRound | .commitCompletion => true
  | .staleLimit c => channelOk c
  | .demandExpiry i _ t => signOk i && tagOk t
  | .internalDelivery i _ none => signOk i
  | .internalDelivery i _ (some c) => signOk i && c.ok
  | .placeholderChange i | .reRenderTimerExpiry i => signOk i
  | .retarget i previous new => signOk i && optOk stationOk previous && optOk stationOk new
  | .tripReport x _ | .tripStationLost x | .tripStationReturn x _ | .checksum x _
  | .faceCheckFailure x | .placementDeparture x | .placementEntry x | .beaconStationEntry x
  | .beaconStationDeparture x | .presenceContactCloses x | .presenceContactOpens x
  | .powerSettleExpiry x | .identRequest x | .identificationReport x _ _ | .identTimeout x
  | .pollAnswered x _ | .pollUnanswered x | .lostStationReply x | .overCurrentTrip x
  | .attentionButton x | .refusalBlinkEnd x | .quiescingExchangeAnswered x
  | .quiescingExchangeUnanswered x => stationOk x

end Sys2Proof
end

