-- ==== Sys2Proof/Decode.lean ====
section
/-! DEFINITION. The command a word of the table's bits spells. The table gives bits to no row. -/

namespace Sys2Proof

/-- No row of the table has bits, so no word spells a command (log 27). -/
def decodeTableWord (_nbits _w : Nat) : Option Instr := none

end Sys2Proof
end

