-- ==== Sys2Proof/Machine/Crc.lean ====
section
/-! DEFINITION. The two checksums: CRC-16 of agent frames and sign faces (R150, R172) and CRC-32 of
the image (R184), and the byte orders of multi-byte fields. -/

namespace Sys2Proof.Machine

open Sys2Proof

/-- One bit of the CRC-16 register: polynomial 0x1021, most significant bit first (R172). -/
def crc16Bit (c : Half) : Half :=
  if c.msb then (c <<< 1) ^^^ 0x1021#16 else c <<< 1

/-- One byte into the CRC-16 register (R172). -/
def crc16Byte (c : Half) (b : Byte) : Half :=
  crc16Bit (crc16Bit (crc16Bit (crc16Bit (crc16Bit (crc16Bit (crc16Bit (crc16Bit
    (c ^^^ (b.zeroExtend 16 <<< 8)))))))))

/-- The CRC-16 of a run of bytes: initial value 0xFFFF, no final inversion (R150, R172). -/
def crc16 (bs : List Byte) : Half := bs.foldl crc16Byte 0xFFFF#16

/-- One bit of the CRC-32 register. The bits of each byte are taken least significant first, so
the register is held reflected: 0xEDB88320 is 0x04C11DB7 with its bits in the other order.
PRESUMED, unsafe (log 9). -/
def crc32Bit (c : Word) : Word :=
  if c.getLsbD 0 then (c >>> 1) ^^^ 0xEDB88320#32 else c >>> 1

/-- One byte into the CRC-32 register (R184). -/
def crc32Byte (c : Word) (b : Byte) : Word :=
  crc32Bit (crc32Bit (crc32Bit (crc32Bit (crc32Bit (crc32Bit (crc32Bit (crc32Bit
    (c ^^^ b.zeroExtend 32))))))))

/-- The CRC-32 of a run of bytes: initial value 0xFFFFFFFF, inverted at the end (R184). -/
def crc32 (bs : List Byte) : Word := ~~~(bs.foldl crc32Byte 0xFFFFFFFF#32)

/-- A number as one byte, as R181 carries indices, counts and small values. -/
def byteOf (n : Nat) : Byte := BitVec.ofNat 8 n

/-- Two bytes, high byte first (R181). -/
def be16 (w : Half) : List Byte := [w.extractLsb' 8 8, w.extractLsb' 0 8]

/-- Four bytes, high byte first (R181). -/
def be32 (w : Word) : List Byte :=
  [w.extractLsb' 24 8, w.extractLsb' 16 8, w.extractLsb' 8 8, w.extractLsb' 0 8]

/-- Two bytes read as a number, high byte first (R174, R175). -/
def readBe16 (hi lo : Byte) : Nat := hi.toNat * 256 + lo.toNat

/-- Four bytes read as a number, high byte first (R175). -/
def readBe32 (a b c d : Byte) : Nat :=
  ((a.toNat * 256 + b.toNat) * 256 + c.toNat) * 256 + d.toNat

/-- Two bytes read as a two's complement value, high byte first (R175). -/
def readInt16 (hi lo : Byte) : Int :=
  if hi.toNat < 128 then (readBe16 hi lo : Int) else (readBe16 hi lo : Int) - 65536

end Sys2Proof.Machine
end

