-- ==== Sys2Proof/Machine/Image.lean ====
section
/-! DEFINITION. The image in effect: the checks of the loader on an image (R6, R20, R88, R108, R129,
R132, R155, R184, R185), the clamps at load (R132), the built-in safe image (R186), and what the
loader derives from an image (R1, R87, R109). -/

namespace Sys2Proof.Machine

open Sys2Proof

/-! ## Message text -/

/-- The space, 0x20 (R155). -/
def space : Byte := 0x20#8

/-- Characters as bytes. -/
def asciiOf (s : String) : List Byte := s.toList.map fun c => byteOfChar c
where
  byteOfChar (c : Char) : Byte := BitVec.ofNat 8 c.toNat

/-- A line of twenty characters, cut or filled with spaces at the right (R147). -/
def fitLine (l : List Byte) : List Byte := (l ++ List.replicate 20 space).take 20

/-- A message of three given lines, without a pictogram. -/
def messageOf (l0 l1 l2 : String) : Message :=
  { text := fitLine (asciiOf l0) ++ fitLine (asciiOf l1) ++ fitLine (asciiOf l2), picto := 0 }

/-- The blank message: sixty spaces and pictogram code 0 (R147). -/
def blankMessage : Message := { text := List.replicate 60 space, picto := 0 }

/-! ## Reading an image -/

/-- The entry of a segment. -/
def imageSegment (img : Image) (i : Nat) : SegmentEntry := img.segments.getD i default
/-- The entry of a gate. -/
def imageGate (img : Image) (g : Nat) : GateEntry := img.gates.getD g default
/-- The entry of a zone. -/
def imageZone (img : Image) (z : Nat) : ZoneEntry := img.zones.getD z default
/-- The entry of a trip line. -/
def imageLine (img : Image) (l : Nat) : LineEntry := img.lines.getD l default
/-- The fixed fields of a channel, fitted or not (R108). -/
def imageFixed (img : Image) (c : Nat) : ChannelEntry := img.channels.getD c default
/-- The entry of a fitted channel; none when its head and input are absent (R108). -/
def imageChannel (img : Image) (c : Nat) : Option ChannelEntry :=
  if (imageFixed img c).place.isSome then some (imageFixed img c) else none
/-- The head of a fitted channel (R108). -/
def channelHead (e : ChannelEntry) : Nat := (e.place.map (·.1)).getD 0
/-- The input of a fitted channel (R108). -/
def channelInput (e : ChannelEntry) : Nat := (e.place.map (·.2)).getD 0
/-- The image's entry of a logical sign. -/
def imageSign (img : Image) (i : Nat) : SignEntry := img.signs.getD i default
/-- The binding of a port; none when it is unbound (R20). -/
def imagePort (img : Image) (p : Nat) : Option PortBinding := img.ports.getD p none
/-- The configured type of a drop (R162). -/
def imageType (img : Image) (x : Nat) : StationType := img.stationTypes.getD x .unused
/-- A stored slot 0–95 (R155). -/
def imageSlot (img : Image) (n : Nat) : Message := img.stored.getD n blankMessage

/-- A segment's gate list, ascending (R1). -/
def gateList (img : Image) (i : Nat) : List Nat :=
  (List.range 8).filter fun g => (imageGate img g).segment == some i

/-- A segment's sign list, ascending (R1). -/
def signList (img : Image) (i : Nat) : List Nat :=
  (List.range 24).filter fun n => (imageSign img n).segment == i

/-- A segment's threatening-zone list, ascending (R1). -/
def zoneList (img : Image) (i : Nat) : List Nat :=
  (List.range 10).filter fun z => (imageZone img z).threatened.contains i

/-- A zone's trip lines, ascending (R87). -/
def lineList (img : Image) (z : Nat) : List Nat :=
  (List.range 24).filter fun l => (imageLine img l).zone == some z

/-- The fitted lines on a station, in ascending input order (R90). -/
def stationLines (img : Image) (x : Nat) : List Nat :=
  (List.range 4).flatMap fun inp =>
    (List.range 24).filter fun l => (imageLine img l).place == some (x, inp)

/-- A head's fitted channels, in ascending input order (R109). -/
def headChannels (img : Image) (h : Nat) : List Nat :=
  (List.range 4).flatMap fun inp =>
    (List.range 24).filter fun c => match imageChannel img c with
      | some e => e.place == some (h, inp)
      | none => false

/-- A head is fitted when a fitted channel names it (R108). -/
def headFitted (img : Image) (h : Nat) : Bool := !(headChannels img h).isEmpty

/-- The gate a station drives, if any (R2). -/
def gateOfStation (img : Image) (x : Nat) : Option Nat :=
  (List.range 8).find? fun g => (imageGate img g).station == some x

/-- The sign whose beacon station this is, if any (R7). -/
def signOfBeacon (img : Image) (x : Nat) : Option Nat :=
  (List.range 24).find? fun n => (imageSign img n).beacon == some x

/-- A segment is evaluated when its weather set fills the Ts role (R124). -/
def evaluated (img : Image) (i : Nat) : Bool := (imageSegment img i).ts.isSome

/-- An evaluated segment whose weather set fills the W role (R124). -/
def windEvaluated (img : Image) (i : Nat) : Bool := evaluated img i && (imageSegment img i).w.isSome

/-- The port bound to a source, if any (R20). -/
def portOf (img : Image) (src : AgentSource) : Option Nat :=
  (List.range 4).find? fun p => match imagePort img p with
    | some b => b.source == src
    | none => false

/-! ## Ranges of types -/

/-- The low end of a channel type's range (R108). -/
def typeLow : ChannelType → Int
  | .surfaceTemp | .dewPoint => -400
  | .precip | .snowDepth | .windGust => 0

/-- The high end of a channel type's range (R108). -/
def typeHigh : ChannelType → Int
  | .surfaceTemp | .dewPoint => 600
  | .precip => 1000
  | .snowDepth => 2000
  | .windGust => 600

/-- The WORST value of a channel type (R115). -/
def typeWorst : ChannelType → Int
  | .surfaceTemp => -400
  | .dewPoint => 600
  | .precip => 1000
  | .snowDepth => 2000
  | .windGust => 600

/-! ## The loader's checks -/

/-- A value within bounds, both included. -/
def within (v lo hi : Nat) : Bool := lo ≤ v && v ≤ hi

/-- No element of the list occurs twice. -/
def noRepeat [BEq α] : List α → Bool
  | [] => true
  | x :: xs => !xs.contains x && noRepeat xs

/-- The tables have the sizes of chapters 01–12. -/
def sizesOk (img : Image) : Bool :=
  img.ports.length == 4 && img.segments.length == 12 && img.gates.length == 8 &&
  img.zones.length == 10 && img.lines.length == 24 && img.channels.length == 24 &&
  img.thresholds.length == 4 && img.condMap.length == 4 && img.windMap.length == 2 &&
  img.signs.length == 24 && img.stationTypes.length == 32 && img.stored.length == 96

/-- Port bindings (R20). -/
def portsOk (img : Image) : Bool :=
  noRepeat (img.ports.filterMap fun b => b.map (·.source)) &&
  img.ports.all fun b => match b with
    | none => true
    | some b => b.lower ≤ 30 && within b.upper 5 600 && (b.lower == 0 || b.lower < b.upper)

/-- The gate table (R2, R6, R184). -/
def gatesOk (img : Image) : Bool :=
  (img.gates.all fun g => g.segment.isSome == g.station.isSome) &&
  (img.gates.all fun g => optOk segOk g.segment && optOk stationOk g.station) &&
  ((List.range 12).all fun i => (gateList img i).length ≤ 2) &&
  noRepeat (img.gates.filterMap (·.station)) &&
  (img.gates.all fun g => match g.station with
    | none => true
    | some x => imageType img x == .gate)

/-- The zone table (R3, R6). -/
def zonesOk (img : Image) : Bool :=
  img.zones.all fun z =>
    within z.threatened.length 1 4 && noRepeat z.threatened && z.threatened.all segOk

/-- The trip-line table and the zone values (R88). -/
def linesOk (img : Image) : Bool :=
  (img.lines.all fun l => match l.place with
    | none => l.zone.isNone
    | some (x, inp) =>
      stationOk x && inp < 4 && imageType img x == .trip &&
      match l.zone with
      | some z => zoneOk z
      | none => false) &&
  noRepeat (img.lines.filterMap (·.place)) &&
  ((List.range 10).all fun z => (lineList img z).length ≤ 6) &&
  within img.watchThreshold 1 5 && within img.debounce 1 4 &&
  [img.level3Slot, img.level4Slot, img.level5Slot, img.avalancheSlot, img.controlSlot].all (· < 96)

/-- A fitted channel's fields (R108). -/
def channelEntryOk (e : ChannelEntry) : Bool :=
  headOk (channelHead e) && channelInput e < 4 && e.gain ≤ 4095 && (-2000 ≤ e.offset) && (e.offset ≤ 2000) &&
  within e.staleLimit 30 1800 && (typeLow e.type ≤ e.low) && (e.low ≤ e.high) &&
  (e.high ≤ typeHigh e.type) && (typeLow e.type ≤ e.fallback) && (e.fallback ≤ typeHigh e.type)

/-- The channel table and the sample period; the check of R108 is on fitted channels only, and the
fields of a channel that is not fitted are not judged (the model's choice, log 34). -/
def channelsOk (img : Image) : Bool :=
  (img.channels.all fun e => e.place.isNone || channelEntryOk e) &&
  noRepeat (img.channels.filterMap (·.place)) &&
  within img.samplePeriod 10 120

/-- A role's channel is fitted and of the role's type (R4, R6); an absent role is consistent. -/
def roleOk (img : Image) (t : ChannelType) : Option Nat → Bool
  | none => true
  | some c => channelOk c && match imageChannel img c with
    | some e => e.type == t
    | none => false

/-- The weather sets (R4, R6). -/
def weatherSetsOk (img : Image) : Bool :=
  img.segments.all fun g =>
    roleOk img .surfaceTemp g.ts && roleOk img .dewPoint g.td && roleOk img .precip g.p &&
    roleOk img .snowDepth g.s && roleOk img .windGust g.w

/-- A strictly rising list. -/
def rising : List Nat → Bool
  | [] => true
  | [_] => true
  | a :: b :: r => a < b && rising (b :: r)

/-- The evaluator's values and maps (R129, R132). -/
def evaluatorOk (img : Image) : Bool :=
  img.thresholds.all (· ≤ 1000) && rising img.thresholds && img.hysteresis ≤ 100 &&
  within img.confirmation 1 15 && within img.evalPeriod 10 300 &&
  (img.condMap ++ img.windMap).all (·.slot < 96)

/-- A station index that is absent or names a drop of the given type. -/
def optType (img : Image) (t : StationType) : Option Nat → Bool
  | none => true
  | some x => stationOk x && imageType img x == t

/-- The placement table (R6). -/
def signsOk (img : Image) : Bool :=
  (img.signs.all fun e =>
    segOk e.segment && optType img .sign e.primary && optType img .sign e.standby &&
    (e.standby.isNone || e.standby != e.primary) && optType img .beacon e.beacon &&
    optOk (· < 96) e.defaultMessage) &&
  noRepeat (img.signs.filterMap (·.primary)) && noRepeat (img.signs.filterMap (·.beacon))

/-- The stored slots (R155) and the closure message slots (R66, R136). -/
def storedOk (img : Image) : Bool :=
  (img.stored.all fun m =>
    m.text.length == 60 && m.text.all (fun b => within b.toNat 0x20 0x5F) && m.picto < 64) &&
  [img.closingSlot, img.closedSlot, img.openingSlot].all (· < 96)

/-- The remaining timings (R31, R57, R69, R153). -/
def timingsOk (img : Image) : Bool :=
  within img.travelLimit 10 180 && within img.retryInterval 10 120 && within img.retryLimit 1 5 &&
  within img.preWarning 30 900 && within img.minDwell 5 60 && within img.holdDuration 10 300 &&
  within img.flashPeriod 400 2000 && within img.flashOnTime 10 90

/-- Every consistency condition of R185. -/
def imageAccepted (img : Image) : Bool :=
  sizesOk img && portsOk img && gatesOk img && zonesOk img && linesOk img && channelsOk img &&
  weatherSetsOk img && evaluatorOk img && signsOk img && storedOk img && timingsOk img

/-- A map severity of 0 is taken as 1, one above 5 as 5 (R132). -/
def clampEntry (e : MapEntry) : MapEntry := { e with severity := max 1 (min 5 e.severity) }

/-- The image with the clamps made at load (R132, R185). -/
def clampImage (img : Image) : Image :=
  { img with condMap := img.condMap.map clampEntry, windMap := img.windMap.map clampEntry }

/-! ## The built-in safe image -/

/-- The stored slots of the safe image that are not blank (R186). -/
def safeSlots : List Message :=
  [ messageOf "PASS CLOSING" "PREPARE TO STOP" "",
    messageOf "PASS CLOSED" "" "SINCE ^H",
    messageOf "PASS OPENING" "" "",
    messageOf "AVALANCHE RISK ^L" "" "",
    messageOf "AVALANCHE RISK ^L" "DO NOT STOP" "",
    messageOf "AVALANCHE RISK ^L" "DO NOT STOP" "",
    messageOf "AVALANCHE" "ROAD CLOSED" "",
    messageOf "AVALANCHE CONTROL" "ROAD CLOSED" "",
    messageOf "ICE RISK" "SURFACE ^T" "",
    messageOf "SLIPPERY ROAD" "SURFACE ^T" "",
    messageOf "ICY ROAD" "SURFACE ^T" "",
    messageOf "SEVERE ICE" "SURFACE ^T" "",
    messageOf "GUSTS" "" "",
    messageOf "STRONG GUSTS" "" "" ]

/-- A channel of the safe image: not fitted (R186). The fields that R108 gives every channel and R186
does not value here are the model's choice (log 34). -/
def unfittedChannel : ChannelEntry :=
  { place := none, type := .surfaceTemp, gain := 0, offset := 0, low := 0, high := 0, staleLimit := 30,
    action := .hold, fallback := 0 }

/-- The built-in safe image (R186). -/
def safeImage : Image where
  ports := [none, none, none,
    some { source := .cab, speed := .b9600, lower := 0, upper := 600, loss := .retain }]
  segments := List.replicate 12
    { restartHold := true, ts := none, td := none, p := none, s := none, w := none }
  gates := List.replicate 8 { segment := none, station := none }
  travelLimit := 45
  retryInterval := 20
  retryLimit := 3
  zones := (List.range 10).map fun k => { threatened := [k], failClosed := false }
  lines := List.replicate 24 { place := none, zone := none }
  watchThreshold := 3
  debounce := 2
  channels := List.replicate 24 unfittedChannel
  samplePeriod := 30
  thresholds := [100, 250, 450, 700]
  hysteresis := 30
  confirmation := 3
  evalPeriod := 60
  condMap := [{ slot := 8, severity := 2, flash := .dark }, { slot := 9, severity := 3, flash := .dark },
    { slot := 10, severity := 4, flash := .dark }, { slot := 11, severity := 5, flash := .dark }]
  windMap := [{ slot := 12, severity := 3, flash := .dark }, { slot := 13, severity := 4, flash := .dark }]
  signs := (List.range 24).map fun k =>
    { segment := k / 2, direction := if k % 2 = 0 then .uphill else .downhill,
      primary := none, standby := none, beacon := none, defaultMessage := none }
  stationTypes := List.replicate 32 .unused
  stored := safeSlots ++ List.replicate 82 blankMessage
  closingSlot := 0
  closedSlot := 1
  openingSlot := 2
  level3Slot := 3
  level4Slot := 4
  level5Slot := 5
  avalancheSlot := 6
  controlSlot := 7
  preWarning := 120
  minDwell := 15
  holdDuration := 60
  flashPeriod := 1000
  flashOnTime := 50

end Sys2Proof.Machine
end

