-- ==== Sys2Proof/Machine/State.lean ====
section
/-! DEFINITION. The state of the part: one field for each block of the spec's table "Organization of
the Part", holding the state named beside that block, and beside them the events on their way
between blocks and the queue of commands. Plain data. `State.reset` is the part right after
start-up with the built-in safe image in effect (R186, R189). -/

namespace Sys2Proof.Machine

open Sys2Proof

/-! ## Corridor clock -/

/-- A time of day (R18). -/
structure TimeOfDay where
  hours   : Nat
  minutes : Nat
  seconds : Nat
deriving DecidableEq, Repr, Inhabited

/-- The corridor clock (R17, R18); no time of day means unset. -/
structure Clock where
  seconds   : Word
  timeOfDay : Option TimeOfDay
deriving DecidableEq, Repr, Inhabited

/-! ## Authority unit -/

/-- The link states of R24. -/
inductive LinkState where
  | unbound | silent | linked | lost
deriving DecidableEq, Repr, Inhabited

/-- A port's link state with its two presence timers (R24). -/
structure PortLink where
  state  : LinkState
  lower  : Option Nat
  window : Option Nat
deriving DecidableEq, Repr, Inhabited

/-- A present hold record (R30). -/
structure Hold where
  holder    : AgentSource
  remaining : Nat
deriving DecidableEq, Repr, Inhabited

/-- The authority unit: key line (R23), links (R24), hold records (R30). -/
structure Authority where
  keyLine : Bool
  links   : List PortLink
  holds   : List (Option Hold)
deriving DecidableEq, Repr, Inhabited

/-! ## Corridor table -/

/-- The segment states of R43. -/
inductive SegState where
  | opened | prewarn | lowering | closed | raising
deriving DecidableEq, Repr, Inhabited

/-- The six claiming sources (R44), in the fixed order of R43. -/
inductive ClaimSource where
  | avs | enf | roc | cab | det | rst
deriving DecidableEq, Repr, Inhabited

/-- A claim record (R44); its source is its place in the claim set. -/
structure Claim where
  reason    : Nat
  placedAt  : Word
  immediate : Bool
  /-- The zone list of a DET claim; empty in every other claim. -/
  zones     : List Nat
deriving DecidableEq, Repr, Inhabited

/-- A claim set: one place for each claiming source (R45). -/
structure ClaimSet where
  avs : Option Claim
  enf : Option Claim
  roc : Option Claim
  cab : Option Claim
  det : Option Claim
  rst : Option Claim
deriving DecidableEq, Repr, Inhabited

/-- A closure stamp (R43): absent, unset, or a time of day. -/
inductive Stamp where
  | absent | unset | taken (t : TimeOfDay)
deriving DecidableEq, Repr, Inhabited

/-- The fields of a segment record that the corridor table holds (R43). -/
structure Segment where
  state         : SegState
  claims        : ClaimSet
  revision      : Half
  dwell         : Option Nat
  barrierFault  : Bool
  reopenPending : Bool
  zoneLock      : Bool
  stamp         : Stamp
deriving DecidableEq, Repr, Inhabited

/-! ## Gate controller -/

/-- The ten gate states, in the order of the table that opens chapter 04. -/
inductive GateState where
  | unknown | opened | lowering | closed | raising | retreat | wait | fault | manual | offline
deriving DecidableEq, Repr, Inhabited

/-- The fault causes of R69. -/
inductive GateFault where
  | travelTimeout | obstructionLimit | stationLost | positionConflict
deriving DecidableEq, Repr, Inhabited

/-- A direction order (R71). -/
inductive Drive where
  | lower | raise
deriving DecidableEq, Repr, Inhabited

/-- A gate record (R69), with the orders given and not yet carried (R71) and what the gate
controller was last told of the station: whether it is ACTIVE, and its lever (log 10). -/
structure Gate where
  state     : GateState
  position  : Option Position
  attempts  : Nat
  timer     : Option Nat
  cause     : Option GateFault
  stopOwed  : Bool
  driveOwed : Option Drive
  stationUp : Bool
  lever     : Bool
deriving DecidableEq, Repr, Inhabited

/-- The gate controller: gate records and the start-up limit (R84). -/
structure GateUnit where
  recs       : List Gate
  startLimit : Option Nat
deriving DecidableEq, Repr, Inhabited

/-! ## Zone monitor -/

/-- The zone states of R87. -/
inductive ZoneState where
  | quiet | watch | tripped | work | sweep
deriving DecidableEq, Repr, Inhabited

/-- A zone record (R87). -/
structure Zone where
  level    : Nat
  state    : ZoneState
  fired    : List Nat
  permit   : Option Nat
  degraded : Bool
deriving DecidableEq, Repr, Inhabited

/-- The line states of R89. -/
inductive LineState where
  | normal | fired | cut | bypassed | unmonitored
deriving DecidableEq, Repr, Inhabited

/-- A trip-line record (R89). -/
structure Line where
  state   : LineState
  pending : Option Condition
  confirm : Nat
deriving DecidableEq, Repr, Inhabited

/-- A deciding zone as last delivered for a segment (R104): which zone, its state, its level. -/
structure Deciding where
  zone  : Nat
  state : ZoneState
  level : Nat
deriving DecidableEq, Repr, Inhabited

/-- The zone monitor. -/
structure ZoneUnit where
  zones : List Zone
  lines : List Line
  shown : List (Option Deciding)
deriving DecidableEq, Repr, Inhabited

/-! ## Weather unit -/

/-- The changing fields of a sensor-head record (R109). -/
structure Head where
  reachable : Bool
  lastReply : Option Word
  pollDue   : Bool
deriving DecidableEq, Repr, Inhabited

/-- The channel statuses of R112. -/
inductive ChannelStatus where
  | fresh | stale | implausible | forced
deriving DecidableEq, Repr, Inhabited

/-- The forced content of R112. -/
inductive Forced where
  | absent | value (v : Int) | failure
deriving DecidableEq, Repr, Inhabited

/-- The changing fields of a channel record (R112); a stale timer of `none` is expired. -/
structure Channel where
  lastGood     : Option Int
  lastGoodTime : Option Word
  stale        : Option Nat
  status       : ChannelStatus
  forced       : Forced
  lastSample   : Option (Int × Nat)
deriving DecidableEq, Repr, Inhabited

/-- The form of a reading request (R119). -/
inductive Form where
  | calibrated | raw
deriving DecidableEq, Repr, Inhabited

/-- A reading request (R119). -/
structure Request where
  channel : Nat
  form    : Form
deriving DecidableEq, Repr, Inhabited

/-- The reading status of R119, with the value when it is OK. -/
inductive ReadResult where
  | ok (value : Int) | noReply
deriving DecidableEq, Repr, Inhabited

/-- The deferred reading slot (R119). -/
inductive Slot where
  | empty
  | pending (r : Request)
  | ready (r : Request) (result : ReadResult) (time : Word) (discard : Nat)
deriving DecidableEq, Repr, Inhabited

/-- An exchange on the station link (R110). -/
inductive LinkExchange where
  | poll (head : Nat)
  | immediate (head input : Nat)
deriving DecidableEq, Repr, Inhabited

/-- The weather unit. -/
structure Weather where
  heads       : List Head
  channels    : List Channel
  exchange    : Option LinkExchange
  waiting     : Option (Nat × Nat)
  slot        : Slot
  sampleTimer : Nat
deriving DecidableEq, Repr, Inhabited

/-! ## Condition evaluator -/

/-- A class filter's class and counts (R124). -/
structure Filter where
  cls  : Nat
  up   : Nat
  down : Nat
deriving DecidableEq, Repr, Inhabited

/-- The evaluation record of a segment (R124). -/
structure Evaluation where
  score : Nat
  cond  : Filter
  wind  : Filter
deriving DecidableEq, Repr, Inhabited

/-- The condition evaluator. -/
structure Evaluator where
  recs  : List Evaluation
  timer : Nat
deriving DecidableEq, Repr, Inhabited

/-! ## Sign arbiter -/

/-- A demand key (R136). -/
inductive DemandKey where
  | agent (source : AgentSource) (tag : Nat)
  | internal (topic : Topic)
deriving DecidableEq, Repr, Inhabited

/-- A demand (R136). -/
structure Demand where
  key      : DemandKey
  slot     : Nat
  severity : Nat
  flash    : Flash
  expiry   : Option Nat
  arrival  : Word
deriving DecidableEq, Repr, Inhabited

/-- The output states of R146. -/
inductive OutState where
  | shown | pending | dark
deriving DecidableEq, Repr, Inhabited

/-- A sign output record (R146), with the beacon (R153) and the active target as the sign arbiter
was last told it (R152, log 10). A face is a message's sixty characters and pictogram. -/
structure SignOut where
  face         : Message
  checksum     : Half
  carried      : Bool
  output       : OutState
  mismatches   : Nat
  timer        : Option Nat
  owed         : Bool
  target       : Option Nat
  beacon       : Flash
  beaconDriven : Bool
  beaconOwed   : Bool
  lamp1        : Bool
  lamp2        : Bool
deriving DecidableEq, Repr, Inhabited

/-- The sign arbiter: stacks from the top (R137), arrival counter (R138), outputs, and the time
elapsed within the flash period in milliseconds (R153, log 23). -/
structure Arbiter where
  demands : List (List Demand)
  arrival : Word
  outputs : List SignOut
  elapsed : Nat
deriving DecidableEq, Repr, Inhabited

/-! ## Message library -/

/-- A user slot (R156). -/
structure UserSlot where
  text    : List Byte
  picto   : Nat
  defined : Bool
  refs    : Nat
deriving DecidableEq, Repr, Inhabited

/-- A port's cursor (R157). -/
structure Cursor where
  slot   : Option Nat
  line   : Nat
  column : Nat
  locked : Bool
deriving DecidableEq, Repr, Inhabited

/-- The message library: user slots 96–127 and the cursors of P0–P3. -/
structure Library where
  slots   : List UserSlot
  cursors : List Cursor
deriving DecidableEq, Repr, Inhabited

/-! ## Placement table -/

/-- The placement table's changing fields (R7), and which panel stations it was last told are
ACTIVE (R9, R10, log 10). -/
structure Placement where
  primaries : List (Option Nat)
  targets   : List (Option Nat)
  up        : List Bool
deriving DecidableEq, Repr, Inhabited

/-! ## Field station manager -/

/-- The station states of R162. -/
inductive StationState where
  | absent | powering | identifying | active | lost | quiescing | off | faulted
deriving DecidableEq, Repr, Inhabited

/-- The fault causes of R162. -/
inductive StationFault where
  | powerFault | typeMismatch | identTimeout | faceCheck
deriving DecidableEq, Repr, Inhabited

/-- The attention indicator (R162). -/
inductive Indicator where
  | dark | steady | blink
deriving DecidableEq, Repr, Inhabited

/-- A station record (R162), with what R165 and R168 keep of its exchanges and its mark for
blanking (R12). -/
structure Station where
  state         : StationState
  cause         : Option StationFault
  missed        : Nat
  power         : Bool
  indicator     : Indicator
  serial        : Option Word
  contactClosed : Bool
  quiesceTries  : Nat
  lostWait      : Nat
  identDue      : Bool
  blankOwed     : Bool
deriving DecidableEq, Repr, Inhabited

/-- The kind of an exchange on the field bus (R165). -/
inductive BusKind where
  | poll | quiesce | ident
deriving DecidableEq, Repr, Inhabited

/-- What a poll or a quiescing exchange carries to its station (R165, R168): `darken` darkens both
lamps of a BEACON station. -/
inductive Carriage where
  | nothing
  | stop (gate : Nat)
  | drive (gate : Nat)
  | face (sign : Nat)
  | blank
  | pattern (sign : Nat)
  | darken
deriving DecidableEq, Repr, Inhabited

/-- The exchange in progress on the field bus (R165). -/
structure BusExchange where
  station : Nat
  kind    : BusKind
  carries : Carriage
deriving DecidableEq, Repr, Inhabited

/-- The field station manager. -/
structure Field where
  stations  : List Station
  exchange  : Option BusExchange
  round     : List Nat
  roundsDue : Nat
  startSeq  : List Nat
deriving DecidableEq, Repr, Inhabited

/-! ## Agent port interface -/

/-- The result codes of R176. -/
inductive Result where
  | done | deferred | busy | held | stale | full | denied | badarg | unknown | state | inUse
  | early | line
deriving DecidableEq, Repr, Inhabited

/-- An owed reply (R176): byte 0, the result code and the result data; `executed` tells the reply
of an executed command from a BUSY of R173. -/
structure Reply where
  kind     : Byte
  code     : Result
  data     : List Byte
  executed : Bool
deriving DecidableEq, Repr, Inhabited

/-- The causes of SEGMENT notices (R55, R134), in the order of R181. -/
inductive SegCause where
  | claim | release | forceRelease | restartConfirm | detector | zoneCleared | zoneLock
  | dwellExpiry | gatesDown | gatesUp | holdTaken | holdReleased | holdExpired | holdLost
  | condClass | windClass
deriving DecidableEq, Repr, Inhabited

/-- The causes of ZONE notices (R107). -/
inductive ZoneCause where
  | level | trip | line | sweep | cleared | permit | permitRenewed | permitEnd | permitExpiry
deriving DecidableEq, Repr, Inhabited

/-- The causes of GATE notices (R86). -/
inductive GateCause where
  | order | reached | travelTimeout | obstruction | retreated | retry | obstructionLimit
  | positionConflict | leverEngaged | leverReleased | manualMove | stationLost | stationOffline
  | stationReturn | startupLimit | faultClear | positionSettled
deriving DecidableEq, Repr, Inhabited

/-- The causes of STATION notices (R171). -/
inductive StationCause where
  | presenceClosed | presenceOpened | settled | identified | typeMismatch | identTimeout
  | noReply | reply | powerFault | faceCheck | attention | attentionRefused | stationOff
  | stationRestart | quiesced
deriving DecidableEq, Repr, Inhabited

/-- The causes of SIGN notices (R139). -/
inductive SignCause where
  | post | withdraw | expiry | linkLoss | closure | zone | cond | wind | retarget | confirmed
  | mismatch | recomposed
deriving DecidableEq, Repr, Inhabited

/-- The causes of CHANNEL notices (R116). -/
inductive ChannelCause where
  | goodSample | implausible | staleLimit | forced | unforced
deriving DecidableEq, Repr, Inhabited

/-- The causes of PORT notices (R25, R28). -/
inductive PortCause where
  | presence | windowExpiry
deriving DecidableEq, Repr, Inhabited

/-- The notice kinds with what each carries (R177, R182): new state, cause, and the data of the
kind. -/
inductive NoticeBody where
  | segment (state : SegState) (cause : SegCause) (revision : Half) (barrier : Bool)
      (newClass : Option Nat)
  | zone (state : ZoneState) (cause : ZoneCause) (level : Nat) (degraded : Bool)
      (line : Option (Nat × LineState)) (bypassed : Option Nat)
  | gate (state : GateState) (cause : GateCause) (position : Option Position)
      (fault : Option GateFault)
  | station (state : StationState) (cause : StationCause) (fault : Option StationFault)
  | sign (state : OutState) (cause : SignCause) (winner : Option DemandKey)
  | channel (status : ChannelStatus) (cause : ChannelCause) (effective : Option Int)
  | port (state : LinkState) (cause : PortCause) (source : Option AgentSource)
deriving DecidableEq, Repr, Inhabited

/-- A notice record (R177). -/
structure Notice where
  index    : Nat
  stamp    : Word
  overflow : Bool
  body     : NoticeBody
deriving DecidableEq, Repr, Inhabited

/-- The receive assembly (R172): hunting, or a frame begun, with its bytes after the start byte
in the order received. -/
inductive Assembly where
  | hunting
  | frame (bytes : List Byte)
deriving DecidableEq, Repr, Inhabited

/-- The agent port interface of one port (R172, R173, R176–R178). Intake frames are held as their
bodies. `lastSent` is the frame the transmit side put on the line last (log 21). -/
structure Port where
  assembly     : Assembly
  crcErrors    : Nat
  intake       : List (List Byte)
  owed         : List Reply
  notices      : List Notice
  overflowOwed : Bool
  subscription : BitVec 7
  lastSent     : List Byte
deriving DecidableEq, Repr, Inhabited

/-! ## Image loader -/

/-- A buffer of 8192 bytes as its cells that are not 0x00, offsets rising (log 7). -/
abbrev Memory := List Host.Cell

/-- The image loader (R184, R185, R187). `torn` numbers the abandoned writes (log 6). -/
structure Loader where
  image   : Image
  safe    : Bool
  memory  : Memory
  marker  : Bool
  staging : Memory
  writing : Bool
  torn    : Nat
deriving DecidableEq, Repr, Inhabited

/-! ## The part -/

/-- The state of the part. -/
structure State where
  clock      : Clock
  auth       : Authority
  ports      : List Port
  segments   : List Segment
  gates      : GateUnit
  zones      : ZoneUnit
  weather    : Weather
  evaluator  : Evaluator
  arbiter    : Arbiter
  library    : Library
  placement  : Placement
  field      : Field
  loader     : Loader
  /-- Events delivered by one block to another and not yet taken, oldest first (log 2). -/
  deliveries : List Instr
  /-- The commands waiting, first in, first out. -/
  pending    : List Instr
deriving DecidableEq, Repr

/-- Why a command stops the model. -/
inductive Fault where
  /-- The command names an object the part does not have (a segment outside 0–11, a port outside
  0–3, and so on): raised by every command that carries an index. Safe (log 22). -/
  | noSuchObject
deriving DecidableEq, Repr

/-- Why a command has no meaning. -/
inductive Refusal where
  /-- Raised by a refused arm of `exec` only: a row without a meaning yet. Safe. -/
  | notModelled (mnemonic : String)
deriving DecidableEq, Repr

/-! ## The part right after start-up -/

/-- A port right after start-up (R172, R173, R177, R178). -/
def Port.reset : Port :=
  { assembly := .hunting, crcErrors := 0, intake := [], owed := [], notices := [],
    overflowOwed := false, subscription := 0, lastSent := [] }

/-- An empty claim set (R45). -/
def ClaimSet.none : ClaimSet :=
  { avs := Option.none, enf := Option.none, roc := Option.none, cab := Option.none,
    det := Option.none, rst := Option.none }

/-- The RST claim of a restart-hold segment (R53). -/
def Claim.restart : Claim := { reason := 0, placedAt := 0, immediate := true, zones := [] }

/-- A gate right after start-up (R69). -/
def Gate.reset : Gate :=
  { state := .unknown, position := none, attempts := 0, timer := none, cause := none,
    stopOwed := false, driveOwed := none, stationUp := false, lever := false }

/-- A trip line right after start-up (R89). -/
def Line.reset : Line := { state := .unmonitored, pending := none, confirm := 0 }

/-- A channel right after start-up (R112). -/
def Channel.reset : Channel :=
  { lastGood := none, lastGoodTime := none, stale := none, status := .stale, forced := .absent,
    lastSample := none }

/-- An evaluation record right after start-up (R124). -/
def Evaluation.reset : Evaluation :=
  { score := 0, cond := { cls := 0, up := 0, down := 0 }, wind := { cls := 0, up := 0, down := 0 } }

/-- A user slot right after start-up (R156). -/
def UserSlot.reset : UserSlot :=
  { text := List.replicate 60 space, picto := 0, defined := false, refs := 0 }

/-- A cursor right after start-up (R157). -/
def Cursor.reset : Cursor := { slot := none, line := 0, column := 0, locked := false }

/-- A drop right after start-up with its presence contact as read (R162). -/
def Station.reset (contactClosed : Bool) : Station :=
  { state := .absent, cause := none, missed := 0, power := false, indicator := .dark,
    serial := none, contactClosed := contactClosed, quiesceTries := 0, lostWait := 0,
    identDue := false, blankOwed := false }

/-- The part right after start-up with the built-in safe image in effect (R186, R189): the
restart-hold segments in PREWARN with their RST claims and the minimum dwell (R53, R68), the
CLOSING demand on every sign with serials 0–23 (R154), P3 SILENT and the other ports UNBOUND (R24).
Configuration memory, presence contacts and key line: logs 7 and 8. -/
def State.reset : State where
  clock := { seconds := 0, timeOfDay := none }
  auth :=
    { keyLine := false,
      links := [{ state := .unbound, lower := none, window := none },
        { state := .unbound, lower := none, window := none },
        { state := .unbound, lower := none, window := none },
        { state := .silent, lower := none, window := none }],
      holds := List.replicate 12 none }
  ports := List.replicate 4 Port.reset
  segments := List.replicate 12
    { state := .prewarn, claims := { ClaimSet.none with rst := some Claim.restart }, revision := 0,
      dwell := some 15, barrierFault := false, reopenPending := false, zoneLock := false,
      stamp := .absent }
  gates := { recs := List.replicate 8 Gate.reset, startLimit := some 120 }
  zones :=
    { zones := List.replicate 10
        { level := 0, state := .quiet, fired := [], permit := none, degraded := false },
      lines := List.replicate 24 Line.reset,
      shown := List.replicate 12 none }
  weather :=
    { heads := List.replicate 8 { reachable := false, lastReply := none, pollDue := false },
      channels := List.replicate 24 Channel.reset, exchange := none, waiting := none,
      slot := .empty, sampleTimer := 30 }
  evaluator := { recs := List.replicate 12 Evaluation.reset, timer := 60 }
  arbiter :=
    { demands := (List.range 24).map fun k =>
        [{ key := .internal .closure, slot := 0, severity := 7, flash := .alternate,
           expiry := none, arrival := BitVec.ofNat 32 k }],
      arrival := 24,
      outputs := List.replicate 24
        { face := messageOf "PASS CLOSING" "PREPARE TO STOP" "", checksum := 0x7159#16,
          carried := false, output := .dark, mismatches := 0, timer := none, owed := false,
          target := none, beacon := .alternate, beaconDriven := false, beaconOwed := false,
          lamp1 := false, lamp2 := false },
      elapsed := 0 }
  library := { slots := List.replicate 32 UserSlot.reset, cursors := List.replicate 4 Cursor.reset }
  placement :=
    { primaries := List.replicate 24 none, targets := List.replicate 24 none,
      up := List.replicate 32 false }
  field :=
    { stations := List.replicate 32 (Station.reset false), exchange := none, round := [],
      roundsDue := 0, startSeq := [] }
  loader :=
    { image := safeImage, safe := true, memory := [], marker := false, staging := [],
      writing := false, torn := 0 }
  deliveries := []
  pending := []

end Sys2Proof.Machine
end

