-- ==== Sys2Proof/Machine/Ops.lean ====
section
/-! DEFINITION. The named operations over the part's records: reading and writing one record of a
table, the two addressed buffers, delivering an event to another block and taking it, producing a
notice (R177), owing a reply (R176), and starting and counting durations (R17). -/

namespace Sys2Proof.Machine

open Sys2Proof

/-! ## The addressed buffers (R184, R187) -/

/-- The byte at an offset; an offset that is not listed reads 0x00 (log 7). -/
def Memory.read : Memory → Nat → Byte
  | [], _ => 0
  | (k, v) :: r, a => if a = k then v else Memory.read r a

/-- Write one byte, keeping the canonical form: offsets rising, no 0x00 listed. -/
def Memory.write : Memory → Nat → Byte → Memory
  | [], a, b => if b = 0 then [] else [(a, b)]
  | (k, v) :: r, a, b =>
    if a < k then (if b = 0 then (k, v) :: r else (a, b) :: (k, v) :: r)
    else if a = k then (if b = 0 then r else (a, b) :: r)
    else (k, v) :: Memory.write r a b

/-- Write a run of bytes at an offset and the following offsets (R187). -/
def Memory.writeRun (m : Memory) (a : Nat) : List Byte → Memory
  | [] => m
  | b :: bs => Memory.writeRun (Memory.write m a b) (a + 1) bs

/-- The bytes at offsets `a`, `a + 1`, … (`n` of them). -/
def Memory.bytes (m : Memory) (a n : Nat) : List Byte := (List.range n).map fun k => m.read (a + k)

/-- A buffer holding `f k` at every offset `k` below `n`. -/
def Memory.ofFn (f : Nat → Byte) (n : Nat) : Memory :=
  (List.range n).filterMap fun k => if f k = 0 then none else some (k, f k)

/-- Every cell lies above the bound, offsets rise strictly, and no cell holds 0x00. -/
def Memory.above : Nat → Memory → Bool
  | _, [] => true
  | lo, (k, v) :: r => lo ≤ k && v != 0 && Memory.above (k + 1) r

/-- The canonical form of a buffer: offsets strictly rising, no cell equal to what an unlisted
offset reads as, every offset in 0–8191 (R184). -/
def Memory.wf (m : Memory) : Bool := Memory.above 0 m && m.all (fun c => c.1 < 8192)

/-! ## Reading a record -/

/-- The image in effect. -/
def State.image (s : State) : Image := s.loader.image
/-- The record of a segment. -/
def State.seg (s : State) (i : Nat) : Segment := s.segments.getD i default
/-- The hold record of a segment. -/
def State.hold (s : State) (i : Nat) : Option Hold := s.auth.holds.getD i none
/-- The link record of a port. -/
def State.portLink (s : State) (p : Nat) : PortLink := s.auth.links.getD p default
/-- The interface record of a port. -/
def State.port (s : State) (p : Nat) : Port := s.ports.getD p default
/-- The record of a gate. -/
def State.gate (s : State) (g : Nat) : Gate := s.gates.recs.getD g default
/-- The record of a zone. -/
def State.zone (s : State) (z : Nat) : Zone := s.zones.zones.getD z default
/-- The record of a trip line. -/
def State.line (s : State) (l : Nat) : Line := s.zones.lines.getD l default
/-- The deciding zone last delivered for a segment (R104). -/
def State.shownZone (s : State) (i : Nat) : Option Deciding := s.zones.shown.getD i none
/-- The record of a sensor head. -/
def State.head (s : State) (h : Nat) : Head := s.weather.heads.getD h default
/-- The record of a channel. -/
def State.channel (s : State) (c : Nat) : Channel := s.weather.channels.getD c default
/-- The evaluation record of a segment. -/
def State.eval (s : State) (i : Nat) : Evaluation := s.evaluator.recs.getD i default
/-- The demand stack of a sign, from the top. -/
def State.stack (s : State) (n : Nat) : List Demand := s.arbiter.demands.getD n []
/-- The output record of a sign. -/
def State.out (s : State) (n : Nat) : SignOut := s.arbiter.outputs.getD n default
/-- The record of a user slot 96–127. -/
def State.userSlot (s : State) (n : Nat) : UserSlot := s.library.slots.getD (n - 96) default
/-- The cursor of a port. -/
def State.cursor (s : State) (p : Nat) : Cursor := s.library.cursors.getD p default
/-- The primary station of a sign, as REMAP may have changed it (R7, R13). -/
def State.primary (s : State) (n : Nat) : Option Nat := s.placement.primaries.getD n none
/-- The active target of a sign (R7). -/
def State.target (s : State) (n : Nat) : Option Nat := s.placement.targets.getD n none
/-- Whether the placement table was last told that the station is ACTIVE. -/
def State.panelUp (s : State) (x : Nat) : Bool := s.placement.up.getD x false
/-- The record of a station. -/
def State.station (s : State) (x : Nat) : Station := s.field.stations.getD x default
/-- The source bound to a port (R20). -/
def State.sourceOf (s : State) (p : Nat) : Option AgentSource := (imagePort s.image p).map (·.source)

/-! ## Writing a record -/

/-- Write a segment record. -/
def State.setSeg (s : State) (i : Nat) (v : Segment) : State := { s with segments := s.segments.set i v }
/-- Write a hold record. -/
def State.setHold (s : State) (i : Nat) (v : Option Hold) : State :=
  { s with auth := { s.auth with holds := s.auth.holds.set i v } }
/-- Write a link record. -/
def State.setLink (s : State) (p : Nat) (v : PortLink) : State :=
  { s with auth := { s.auth with links := s.auth.links.set p v } }
/-- Write a port's interface record. -/
def State.setPort (s : State) (p : Nat) (v : Port) : State := { s with ports := s.ports.set p v }
/-- Write a gate record. -/
def State.setGate (s : State) (g : Nat) (v : Gate) : State :=
  { s with gates := { s.gates with recs := s.gates.recs.set g v } }
/-- Write a zone record. -/
def State.setZone (s : State) (z : Nat) (v : Zone) : State :=
  { s with zones := { s.zones with zones := s.zones.zones.set z v } }
/-- Write a trip-line record. -/
def State.setLine (s : State) (l : Nat) (v : Line) : State :=
  { s with zones := { s.zones with lines := s.zones.lines.set l v } }
/-- Write the deciding zone last delivered for a segment. -/
def State.setShown (s : State) (i : Nat) (v : Option Deciding) : State :=
  { s with zones := { s.zones with shown := s.zones.shown.set i v } }
/-- Write the weather unit's state. -/
def State.setWeather (s : State) (w : Weather) : State := { s with weather := w }
/-- Write a sensor-head record. -/
def State.setHead (s : State) (h : Nat) (v : Head) : State :=
  s.setWeather { s.weather with heads := s.weather.heads.set h v }
/-- Write a channel record. -/
def State.setChannel (s : State) (c : Nat) (v : Channel) : State :=
  s.setWeather { s.weather with channels := s.weather.channels.set c v }
/-- Write an evaluation record. -/
def State.setEval (s : State) (i : Nat) (v : Evaluation) : State :=
  { s with evaluator := { s.evaluator with recs := s.evaluator.recs.set i v } }
/-- Write a demand stack. -/
def State.setStack (s : State) (n : Nat) (v : List Demand) : State :=
  { s with arbiter := { s.arbiter with demands := s.arbiter.demands.set n v } }
/-- Write the arrival counter. -/
def State.setArrival (s : State) (v : Word) : State := { s with arbiter := { s.arbiter with arrival := v } }
/-- Write a sign output record. -/
def State.setOut (s : State) (n : Nat) (v : SignOut) : State :=
  { s with arbiter := { s.arbiter with outputs := s.arbiter.outputs.set n v } }
/-- Write a user slot. -/
def State.setSlot (s : State) (n : Nat) (v : UserSlot) : State :=
  { s with library := { s.library with slots := s.library.slots.set (n - 96) v } }
/-- Write a cursor. -/
def State.setCursor (s : State) (p : Nat) (v : Cursor) : State :=
  { s with library := { s.library with cursors := s.library.cursors.set p v } }
/-- Write the placement table. -/
def State.setPlacement (s : State) (v : Placement) : State := { s with placement := v }
/-- Write the field station manager's state. -/
def State.setField (s : State) (v : Field) : State := { s with field := v }
/-- Write a station record. -/
def State.setStation (s : State) (x : Nat) (v : Station) : State :=
  s.setField { s.field with stations := s.field.stations.set x v }
/-- Write the image loader's state. -/
def State.setLoader (s : State) (v : Loader) : State := { s with loader := v }

/-! ## Events between blocks (log 2) -/

/-- Deliver events: they wait behind those already on their way. -/
def State.deliver (s : State) (l : List Instr) : State := { s with deliveries := s.deliveries ++ l }

/-- Take a delivered event: if it waits, its oldest occurrence leaves. -/
def State.taking (s : State) (c : Instr) : State := { s with deliveries := s.deliveries.erase c }

/-- The sign an internal delivery names. -/
def deliveredSign : Instr → Option Nat
  | .internalDelivery n _ _ => some n
  | _ => none

/-- The internal deliveries of one event, in ascending sign index and, within one sign, in the order
in which the event gives them (R138). -/
def bySign (l : List Instr) : List Instr :=
  (List.range 24).flatMap fun n => l.filter fun c => deliveredSign c == some n

/-- The event is a placeholder change. -/
def isPlaceholder : Instr → Bool
  | .placeholderChange _ => true
  | _ => false

/-- What one event at several records delivers, gathered: the events for the other blocks as the records
gave them, then the internal deliveries in ascending sign index over the whole event (R138), then the
placeholder changes; the order between the three is the model's choice (log 24). -/
def inEventOrder (l : List Instr) : List Instr :=
  (l.filter fun c => (deliveredSign c).isNone && !isPlaceholder c) ++ bySign l ++ l.filter isPlaceholder

/-- `t` follows `s` by one event at several records: what was delivered since `s` stands in the order of
one event. -/
def State.gathered (s t : State) : State :=
  { t with deliveries := s.deliveries ++ inEventOrder (t.deliveries.drop s.deliveries.length) }

/-! ## Notices (R177) -/

/-- The bit of a notice's kind in a subscription set (R178). -/
def NoticeBody.bit : NoticeBody → Nat
  | .segment .. => 0
  | .zone .. => 1
  | .gate .. => 2
  | .station .. => 3
  | .sign .. => 4
  | .channel .. => 5
  | .port .. => 6

/-- Place a notice on a port's queue: on a full queue the oldest is lost and overflow is owed
(R177). -/
def Port.pushNotice (q : Port) (n : Notice) : Port :=
  if q.notices.length < 16 then { q with notices := q.notices ++ [n] }
  else { q with notices := q.notices.drop 1 ++ [n], overflowOwed := true }

/-- Produce a notice on every port whose subscription set includes its kind, but for one excepted
port (R25, R28, R177). -/
def State.notifyBut (s : State) (excepted : Option Nat) (index : Nat) (b : NoticeBody) : State :=
  { s with ports := s.ports.mapIdx fun p q =>
      if q.subscription.getLsbD b.bit && some p != excepted then
        q.pushNotice { index := index, stamp := s.clock.seconds, overflow := false, body := b }
      else q }

/-- Produce a notice on every port whose subscription set includes its kind (R177). -/
def State.notify (s : State) (index : Nat) (b : NoticeBody) : State := s.notifyBut none index b

/-- Owe a reply: it stands behind the replies already owed (R176). -/
def State.owe (s : State) (p : Nat) (r : Reply) : State :=
  s.setPort p { s.port p with owed := (s.port p).owed ++ [r] }

/-! ## The exchange in progress on the field bus (R165) -/

/-- What the exchange in progress carries no longer counts as carried, where `p` says so: a later
order, face or pattern has taken its place (R71, R150, log 16). -/
def State.recarry (s : State) (p : Carriage → Bool) : State :=
  match s.field.exchange with
  | some e => if p e.carries then
      s.setField { s.field with exchange := some { e with carries := .nothing } } else s
  | none => s

/-! ## Durations (R17) -/

/-- A second boundary at a duration: one second less remains; at 0 the expiry is due (log 11). -/
def tick (t : Option Nat) : Option Nat := t.map (· - 1)

/-- The expiry of a duration is due. -/
def due (t : Option Nat) : Bool := t == some 0

/-- The stamp a block takes from the time of day (R18). -/
def Clock.stamp (c : Clock) : Stamp :=
  match c.timeOfDay with
  | none => .unset
  | some t => .taken t

/-! ## Outcomes -/

/-- A command that names an object the part has goes on; another raises `noSuchObject`. -/
def onObject (ok : Bool) (t : State) : Host.Outcome State Fault Refusal :=
  if ok then .next t else .fault .noSuchObject

end Sys2Proof.Machine
end

