-- ==== Sys2Proof/Machine/Flags.lean ====
section
/-! DEFINITION. What the part computes from its records without changing them: completion of gate
motion and the barrier fault (R60, R63), the direction a segment calls for (R78), zone lock, degraded
flag and deciding zone (R93, R97, R103), calibration and effective values (R112, R115), the risk
score and the class filters (R127, R128, R130, R131), the order of a demand stack (R137), the
authority matrix (R22) and the lamps of a beacon (R153). -/

namespace Sys2Proof.Machine

open Sys2Proof

/-! ## Claim sets (R44, R45) -/

/-- The claim of a source. -/
def ClaimSet.get (c : ClaimSet) : ClaimSource → Option Claim
  | .avs => c.avs
  | .enf => c.enf
  | .roc => c.roc
  | .cab => c.cab
  | .det => c.det
  | .rst => c.rst

/-- The set with the claim of one source put, or taken out. -/
def ClaimSet.put (c : ClaimSet) (src : ClaimSource) (v : Option Claim) : ClaimSet :=
  match src with
  | .avs => { c with avs := v }
  | .enf => { c with enf := v }
  | .roc => { c with roc := v }
  | .cab => { c with cab := v }
  | .det => { c with det := v }
  | .rst => { c with rst := v }

/-- The claiming sources in the fixed order of R43. -/
def claimSources : List ClaimSource := [.avs, .enf, .roc, .cab, .det, .rst]

/-- The set holds no claim. -/
def ClaimSet.isEmpty (c : ClaimSet) : Bool := claimSources.all fun src => (c.get src).isNone

/-- The claim source of an agent source (R19). -/
def claimSourceFor : AgentSource → ClaimSource
  | .avs => .avs
  | .enf => .enf
  | .roc => .roc
  | .cab => .cab

/-- What a revision watches in a claim set (R36): which sources claim, with which reason and zone
list. The immediate flag and the placed-at time are not watched. -/
def ClaimSet.watched (c : ClaimSet) : List (Option (Nat × List Nat)) :=
  claimSources.map fun src => (c.get src).map fun k => (k.reason, k.zones)

/-- The segment changed in a way that increments its revision (R36): claim set, state or barrier
fault. -/
def revisionChange (old new : Segment) : Bool :=
  old.claims.watched != new.claims.watched || old.state != new.state ||
  old.barrierFault != new.barrierFault

/-! ## Gates and segments -/

/-- A gate that satisfies the LOWERING completion (R60). -/
def Gate.accountedDown (g : Gate) : Bool :=
  match g.state with
  | .closed | .fault | .offline => true
  | .manual => g.position == some .down
  | _ => false

/-- A gate that satisfies the RAISING completion (R63). -/
def Gate.accountedUp (g : Gate) : Bool :=
  match g.state with
  | .opened => true
  | .offline | .manual => g.position == some .up
  | _ => false

/-- A gate that sets the barrier fault at LOWERING completion (R60). -/
def Gate.breaksBarrier (g : Gate) : Bool :=
  match g.state with
  | .fault => true
  | .offline => g.position != some .down
  | _ => false

/-- A gate in motion (R82, R168). -/
def Gate.moving (g : Gate) : Bool :=
  g.state == .lowering || g.state == .raising || g.state == .retreat

/-- The LOWERING completion of a segment (R60). -/
def loweringDone (s : State) (i : Nat) : Bool :=
  (gateList s.image i).all fun g => (s.gate g).accountedDown

/-- The RAISING completion of a segment (R63). -/
def raisingDone (s : State) (i : Nat) : Bool :=
  (gateList s.image i).all fun g => (s.gate g).accountedUp

/-- The barrier fault decided at LOWERING completion (R60). -/
def barrierDecided (s : State) (i : Nat) : Bool :=
  (gateList s.image i).any fun g => (s.gate g).breaksBarrier

/-- The segment a gate guards, if it is fitted (R2, R184). -/
def segmentOfGate (s : State) (g : Nat) : Option Nat := (imageGate s.image g).segment

/-- The state of the segment a gate guards. -/
def guardedState (s : State) (g : Nat) : Option SegState :=
  (segmentOfGate s g).map fun i => (s.seg i).state

/-- The segment of the gate calls for the gate down: it is in LOWERING or CLOSED (R72, R78). -/
def callsDown (s : State) (g : Nat) : Bool :=
  guardedState s g == some .lowering || guardedState s g == some .closed

/-- The segment of the gate calls for the gate up: it is in RAISING (R73, R78). -/
def callsUp (s : State) (g : Nat) : Bool := guardedState s g == some .raising

/-! ## Zones and lines -/

/-- The zone is in WORK or SWEEP and so locks what it threatens (R64). -/
def Zone.locks (z : Zone) : Bool := z.state == .work || z.state == .sweep

/-- Some zone other than `z` that threatens the segment is in WORK or SWEEP (R97, R99). -/
def lockedByOther (s : State) (z i : Nat) : Bool :=
  (zoneList s.image i).any fun y => y != z && (s.zone y).locks

/-- Some zone that threatens the segment is in WORK or SWEEP (R52, R64). -/
def lockedByZone (s : State) (i : Nat) : Bool := (zoneList s.image i).any fun y => (s.zone y).locks

/-- A line that leaves its zone degraded (R93). -/
def Line.degrades (l : Line) : Bool := l.state == .unmonitored || l.state == .bypassed

/-- The degraded field derived from the zone's lines (R93). -/
def degradedNow (s : State) (z : Nat) : Bool :=
  (lineList s.image z).any fun l => (s.line l).degrades

/-- QUIET or WATCH by the level and the watch threshold (R96, R99). -/
def stateOfLevel (s : State) (level : Nat) : ZoneState :=
  if s.image.watchThreshold ≤ level then .watch else .quiet

/-- A line that refuses ZONE CLEAR without the bypass option (R98). -/
def Line.refusesClear (l : Line) : Bool :=
  l.state == .fired || l.state == .cut || l.state == .unmonitored

/-- The weight of a zone's state in the choice of the deciding zone (R103): TRIPPED before SWEEP
before WORK before WATCH; QUIET never decides. -/
def ZoneState.urgency : ZoneState → Nat
  | .quiet => 0
  | .watch => 1
  | .work => 2
  | .sweep => 3
  | .tripped => 4

/-- The first of two candidates by R103; the first argument has the lower zone index. -/
def moreUrgent (a b : Deciding) : Deciding :=
  if b.state.urgency > a.state.urgency then b
  else if b.state.urgency == a.state.urgency && b.level > a.level then b
  else a

/-- The deciding zone of a segment (R103). -/
def decidingZone (s : State) (i : Nat) : Option Deciding :=
  (zoneList s.image i).foldl (fun best z =>
    let here : Deciding := { zone := z, state := (s.zone z).state, level := (s.zone z).level }
    if here.state == .quiet then best
    else match best with
      | none => some here
      | some b => some (moreUrgent b here)) none

/-- The form of a ZON:ZONE demand by its deciding zone (R105). -/
def zoneContent (img : Image) (d : Deciding) : DemandContent :=
  match d.state with
  | .work => { slot := img.controlSlot, severity := 6, flash := .unison }
  | .tripped | .sweep => { slot := img.avalancheSlot, severity := 6, flash := .alternate }
  | .watch | .quiet =>
    if d.level ≤ 3 then { slot := img.level3Slot, severity := 4, flash := .dark }
    else if d.level = 4 then { slot := img.level4Slot, severity := 5, flash := .dark }
    else { slot := img.level5Slot, severity := 5, flash := .alternate }

/-- The form of a SEQ:CLOSURE demand by the segment state (R66); none in OPEN. -/
def closureContent (img : Image) : SegState → Option DemandContent
  | .opened => none
  | .prewarn | .lowering => some { slot := img.closingSlot, severity := 7, flash := .alternate }
  | .closed => some { slot := img.closedSlot, severity := 7, flash := .unison }
  | .raising => some { slot := img.openingSlot, severity := 7, flash := .dark }

/-- Two segment states have the same form of closure demand (R66). -/
def sameForm : SegState → SegState → Bool
  | .prewarn, .lowering | .lowering, .prewarn => true
  | a, b => a == b

/-! ## Channels -/

/-- A raw code calibrated by gain and offset and clamped to the type's range (R112). -/
def calibrate (e : ChannelEntry) (code : Nat) : Int :=
  clampInt (e.offset + (((code * e.gain + 512) / 1024 : Nat) : Int)) (typeLow e.type) (typeHigh e.type)

/-- A value within the plausibility range, bounds included (R113). -/
def plausible (e : ChannelEntry) (v : Int) : Bool := e.low ≤ v && v ≤ e.high

/-- The value the fault action supplies (R115). -/
def faultValue (e : ChannelEntry) (c : Channel) : Int :=
  match e.action with
  | .hold => c.lastGood.getD e.fallback
  | .fallback => e.fallback
  | .worst => typeWorst e.type

/-- The effective value of a fitted channel (R115). -/
def effectiveOf (e : ChannelEntry) (c : Channel) : Int :=
  match c.status, c.forced with
  | .fresh, _ => c.lastGood.getD e.fallback
  | .forced, .value v => v
  | _, _ => faultValue e c

/-- The effective value of a channel; none when it is not fitted (R115). -/
def effective (s : State) (c : Nat) : Option Int :=
  (imageChannel s.image c).map fun e => effectiveOf e (s.channel c)

/-- The channel shows as a number at ^T (R116): FRESH, or FORCED with a value. -/
def Channel.showsNumber (c : Channel) : Bool :=
  match c.status, c.forced with
  | .fresh, _ => true
  | .forced, .value _ => true
  | _, _ => false

/-! ## The risk score and the class filters -/

/-- The cold term A (R127). -/
def coldTerm (ts : Int) : Int := clampInt (6 * (30 - ts)) 0 360

/-- The frost margin F; 100 where the dew point is absent (R126, R127). -/
def frostMargin (ts : Int) (td : Option Int) : Int :=
  match td with
  | some d => ts - d
  | none => 100

/-- The water term B (R128). -/
def waterTerm (p f : Int) : Int := if 0 < p then min (2 * p) 300 else clampInt (5 * (20 - f)) 0 150

/-- The snow term C (R128). -/
def snowTerm (sn : Int) : Int := min (3 * sn / 2) 400

/-- The warm-road discount B′ (R128). -/
def discounted (a b : Int) : Int := if 0 < a then b else b / 4

/-- The risk score R of the inputs Ts, Td, P and S (R127, R128). -/
def riskScore (ts : Int) (td : Option Int) (p sn : Int) : Int :=
  let a := coldTerm ts
  min (a + discounted a (waterTerm p (frostMargin ts td)) + snowTerm sn) 1000

/-- The threshold of a class 1, 2, … in a rising list (R130). -/
def thresholdOf (ts : List Nat) (k : Nat) : Int := (ts.getD (k - 1) 0 : Nat)

/-- One run of a class filter (R130, R131): thresholds, hysteresis, confirmation count, the value
judged and the filter's class and counts. -/
def runFilter (ts : List Nat) (hyst n : Nat) (v : Int) (f : Filter) : Filter :=
  if f.cls < ts.length && thresholdOf ts (f.cls + 1) ≤ v then
    if n ≤ f.up + 1 then { cls := f.cls + 1, up := 0, down := 0 }
    else { f with up := f.up + 1, down := 0 }
  else if 0 < f.cls && v < thresholdOf ts f.cls - hyst then
    if n ≤ f.down + 1 then { cls := f.cls - 1, up := 0, down := 0 }
    else { f with up := 0, down := f.down + 1 }
  else { f with up := 0, down := 0 }

/-- The thresholds of the wind filter, fixed in the part (R129). -/
def windThresholds : List Nat := [150, 250]

/-- The hysteresis of the wind filter (R129). -/
def windHysteresis : Nat := 20

/-! ## Demand stacks -/

/-- The rank of a demand's source (R19): SEQ 1, AVS 2, ZON 3, ENF 4, ROC 5, CAB 6, EVL 7. -/
def DemandKey.rank : DemandKey → Nat
  | .internal .closure => 1
  | .agent .avs _ => 2
  | .internal .zone => 3
  | .agent .enf _ => 4
  | .agent .roc _ => 5
  | .agent .cab _ => 6
  | .internal .cond | .internal .wind => 7

/-- An agent demand (R136). -/
def DemandKey.isAgent : DemandKey → Bool
  | .agent .. => true
  | .internal _ => false

/-- The key names this agent source, with any tag. -/
def DemandKey.ofSource (src : AgentSource) : DemandKey → Bool
  | .agent x _ => x == src
  | .internal _ => false

/-- The order of a stack (R137): descending severity, ascending rank, ascending arrival serial. -/
def Demand.above (a b : Demand) : Bool :=
  b.severity < a.severity ||
  (a.severity == b.severity &&
    (a.key.rank < b.key.rank || (a.key.rank == b.key.rank && a.arrival.toNat < b.arrival.toNat)))

/-- A demand put in its place in a stack (R137). -/
def insertDemand (d : Demand) : List Demand → List Demand
  | [] => [d]
  | x :: xs => if d.above x then d :: x :: xs else x :: insertDemand d xs

/-- The stack without the demands whose keys satisfy `p`. -/
def withoutKeys (p : DemandKey → Bool) (st : List Demand) : List Demand :=
  st.filter fun d => !p d.key

/-- The winner's key, or none (R137). -/
def winnerKey (st : List Demand) : Option DemandKey := st.head?.map (·.key)

/-- How many agent demands a stack holds (R137). -/
def agentCount (st : List Demand) : Nat := (st.filter fun d => d.key.isAgent).length

/-- The stack holds a demand with the key. -/
def hasKey (k : DemandKey) (st : List Demand) : Bool := st.any fun d => d.key == k

/-- The notice cause of an internal topic's delivery (R139). -/
def topicCause : Topic → SignCause
  | .closure => .closure
  | .zone => .zone
  | .cond => .cond
  | .wind => .wind

/-- The greatest severity a source may post (R22). -/
def maxSeverity : AgentSource → Nat
  | .avs | .enf => 7
  | .roc => 6
  | .cab => 5

/-! ## Beacons (R153) -/

/-- The first half of the flash period, remainder dropped. -/
def flashHalf (img : Image) : Nat := img.flashPeriod / 2

/-- The on-time in milliseconds, remainder dropped. -/
def flashOn (img : Image) : Nat := img.flashPeriod * img.flashOnTime / 100

/-- The two lamps in a pattern at an elapsed time within the period. -/
def lampsOf (img : Image) (elapsed : Nat) : Flash → Bool × Bool
  | .dark => (false, false)
  | .alternate => (elapsed < flashHalf img, !(elapsed < flashHalf img))
  | .unison => (elapsed < flashOn img, elapsed < flashOn img)

/-- The next boundary within the flash period at which a lamp of some pattern may switch; 0 begins
the next period (log 23). -/
def nextBoundary (img : Image) (elapsed : Nat) : Nat :=
  let a := min (flashHalf img) (flashOn img)
  let b := max (flashHalf img) (flashOn img)
  if elapsed < a then a else if elapsed < b then b else 0

/-! ## Placement (R8) -/

/-- A station that is the active target of no sign. -/
def targetless (s : State) (x : Nat) : Bool :=
  (List.range 24).all fun n => s.target n != some x

/-- The sign waits for the station as its standby (R8). -/
def waitsFor (s : State) (x n : Nat) : Bool :=
  (s.target n).isNone && (imageSign s.image n).standby == some x &&
  match s.primary n with
  | none => true
  | some y => !s.panelUp y

/-! ## Stations -/

/-- Drop power in a state (the table that opens chapter 10). -/
def StationState.power : StationState → Bool
  | .powering | .identifying | .active | .lost | .quiescing => true
  | .absent | .off | .faulted => false

/-- The attention indicator in a state (the table that opens chapter 10). -/
def StationState.indicator : StationState → Indicator
  | .powering | .identifying | .active | .lost | .quiescing => .steady
  | .absent | .off => .dark
  | .faulted => .blink

/-- The type a module reports (R164). -/
def moduleType : ModuleReport → StationType
  | .sign => .sign
  | .gate _ => .gate
  | .trip _ => .trip
  | .beacon => .beacon

/-- The type whose stations give such an answer to a poll (R165). -/
def answerType : PollAnswer → StationType
  | .sign _ => .sign
  | .gate _ => .gate
  | .trip _ => .trip
  | .beacon => .beacon

end Sys2Proof.Machine
end

