-- ==== Sys2Proof/Machine/Operands.lean ====
section
/-! DEFINITION. The operands of agent commands: kind bytes (R174 and each command's rule), flags
byte and guard (R174), the arguments of each command in the order and sizes of R175 with their
argument checks, spans and their parts (R15, R16), and the framing of a body (R172). -/

namespace Sys2Proof.Machine

open Sys2Proof

/-! ## Kind bytes -/

/-- The commands an agent sends. -/
inductive CmdKind where
  | presence | status | subscribe | portClear | setTime | hold | unhold | claim | release
  | forceRelease | restartConfirm | gateFaultClear | setLevel | beginSweep | zoneClear
  | permitRequest | permitEnd | post | withdraw | withdrawAll | remap | cursor | writeText
  | libraryClear | reading | forceChannel | unforce | stationOff | stationRestart | imageWrite
  | imageCommit
deriving DecidableEq, Repr, Inhabited

/-- The kind byte of a command (R175). -/
def CmdKind.byte : CmdKind → Byte
  | .presence => 0x01
  | .status => 0x02
  | .subscribe => 0x03
  | .portClear => 0x04
  | .setTime => 0x0C
  | .hold => 0x21
  | .unhold => 0x22
  | .claim => 0x24
  | .release => 0x25
  | .forceRelease => 0x26
  | .restartConfirm => 0x27
  | .gateFaultClear => 0x2C
  | .setLevel => 0x30
  | .beginSweep => 0x31
  | .zoneClear => 0x32
  | .permitRequest => 0x33
  | .permitEnd => 0x34
  | .post => 0x40
  | .withdraw => 0x41
  | .withdrawAll => 0x42
  | .remap => 0x44
  | .cursor => 0x48
  | .writeText => 0x49
  | .libraryClear => 0x4A
  | .reading => 0x50
  | .forceChannel => 0x52
  | .unforce => 0x53
  | .stationOff => 0x58
  | .stationRestart => 0x59
  | .imageWrite => 0x60
  | .imageCommit => 0x61

/-- Every command kind. -/
def allKinds : List CmdKind :=
  [.presence, .status, .subscribe, .portClear, .setTime, .hold, .unhold, .claim, .release,
   .forceRelease, .restartConfirm, .gateFaultClear, .setLevel, .beginSweep, .zoneClear,
   .permitRequest, .permitEnd, .post, .withdraw, .withdrawAll, .remap, .cursor, .writeText,
   .libraryClear, .reading, .forceChannel, .unforce, .stationOff, .stationRestart, .imageWrite,
   .imageCommit]

/-- A kind byte that some command has (R174). -/
def assignedKind (b : Byte) : Bool := allKinds.any fun k => k.byte == b

/-! ## Body, flags and guard -/

/-- The kind byte of a body (R172). -/
def bodyKind (body : List Byte) : Byte := body.getD 0 0

/-- The flags byte of a body; a body of one byte has its flags all clear (R172). -/
def bodyFlags (body : List Byte) : Byte := body.getD 1 0

/-- The urgent flag (R173, R174). -/
def bodyUrgent (body : List Byte) : Bool := (bodyFlags body).getLsbD 0

/-- The probe flag (R40, R174). -/
def bodyProbe (body : List Byte) : Bool := (bodyFlags body).getLsbD 1

/-- The guard-present flag (R174). -/
def bodyGuarded (body : List Byte) : Bool := (bodyFlags body).getLsbD 2

/-- A guard as carried (R38, R174): its segment, whether its form is an expected state, and its two
bytes. -/
structure Guard where
  segment   : Nat
  stateForm : Bool
  high      : Byte
  low       : Byte
deriving DecidableEq, Repr, Inhabited

/-- The guard of a body that carries one and is long enough for it. -/
def bodyGuard (body : List Byte) : Option Guard :=
  if bodyGuarded body then
    match body.drop 2 with
    | hi :: lo :: _ =>
      some { segment := (bodyFlags body).toNat / 16, stateForm := (bodyFlags body).getLsbD 3,
             high := hi, low := lo }
    | _ => none
  else none

/-- The body is long enough for its flags and guard (R174). -/
def bodyHeaderOk (body : List Byte) : Bool := !bodyGuarded body || 4 ≤ body.length

/-- The argument bytes of a body. -/
def bodyArgs (body : List Byte) : List Byte := body.drop (if bodyGuarded body then 4 else 2)

/-- The code of a segment state (R174). -/
def SegState.code : SegState → Nat
  | .opened => 0
  | .prewarn => 1
  | .lowering => 2
  | .closed => 3
  | .raising => 4

/-- The guard may be carried by a command reaching these segments (R38, R174). -/
def Guard.allowed (g : Guard) (reach : List Nat) : Bool :=
  g.segment < 12 && (!g.stateForm || (g.high == 0 && g.low.toNat ≤ 4)) &&
  (reach == [] || reach == [g.segment])

/-- The guard's comparison with its segment as it stands (R39). -/
def Guard.holds (g : Guard) (s : State) : Bool :=
  if g.stateForm then (s.seg g.segment).state.code == g.low.toNat
  else (s.seg g.segment).revision.toNat == readBe16 g.high g.low

/-! ## Framing (R172) -/

/-- The frame of a body: start byte, length, body, CRC-16 over length and body. -/
def frameOf (body : List Byte) : List Byte :=
  let covered := byteOf body.length :: body
  0x7E#8 :: covered ++ be16 (crc16 covered)

/-- The body of a routine command without guard: kind, flags all clear, arguments. -/
def bodyOf (k : CmdKind) (args : List Byte) : List Byte := k.byte :: 0#8 :: args

/-! ## Arguments (R175) -/

/-- No arguments. -/
def argsNone : List Byte → Option Unit
  | [] => some ()
  | _ => none

/-- One byte. -/
def args1 : List Byte → Option Nat
  | [a] => some a.toNat
  | _ => none

/-- Two bytes. -/
def args2 : List Byte → Option (Nat × Nat)
  | [a, b] => some (a.toNat, b.toNat)
  | _ => none

/-- Three bytes. -/
def args3 : List Byte → Option (Nat × Nat × Nat)
  | [a, b, c] => some (a.toNat, b.toNat, c.toNat)
  | _ => none

/-- An option byte: 0 not given, 1 given (R175). -/
def optionByte (b : Byte) : Option Bool :=
  if b = 0 then some false else if b = 1 then some true else none

/-- A counted list of bytes and what follows it. -/
def countedList : List Byte → Option (List Nat × List Byte)
  | [] => none
  | n :: r => if n.toNat ≤ r.length then some ((r.take n.toNat).map (·.toNat), r.drop n.toNat) else none

/-- A list of 1–12 distinct segments (R31, R46). -/
def segmentsOk (l : List Nat) : Bool := within l.length 1 12 && l.all segOk && noRepeat l

/-- HOLD, UNHOLD, RELEASE: a list of segments. -/
def argsSegments (l : List Byte) : Option (List Nat) :=
  match countedList l with
  | some (segs, []) => if segmentsOk segs then some segs else none
  | _ => none

/-- CLAIM: the list, the reason, the immediate option (R46). -/
structure ClaimArgs where
  segs      : List Nat
  reason    : Nat
  immediate : Bool
deriving DecidableEq, Repr, Inhabited

/-- The arguments of CLAIM. -/
def argsClaim (l : List Byte) : Option ClaimArgs :=
  match countedList l with
  | some (segs, [r, o]) =>
    if segmentsOk segs then (optionByte o).map fun im => { segs, reason := r.toNat, immediate := im }
    else none
  | _ => none

/-- One byte that satisfies a range. -/
def argsIndex (ok : Nat → Bool) (l : List Byte) : Option Nat :=
  match args1 l with
  | some a => if ok a then some a else none
  | none => none

/-- The claiming source of a code (R181). -/
def claimSourceOf : Nat → Option ClaimSource
  | 0 => some .avs
  | 1 => some .enf
  | 2 => some .roc
  | 3 => some .cab
  | 4 => some .det
  | 5 => some .rst
  | _ => none

/-- FORCE RELEASE: a segment and a claiming source (R49). -/
def argsForceRelease (l : List Byte) : Option (Nat × ClaimSource) :=
  match args2 l with
  | some (i, c) => if segOk i then (claimSourceOf c).map fun src => (i, src) else none
  | none => none

/-- STATUS: an object kind and an index within the kind's range (R180). -/
def argsStatus (l : List Byte) : Option (Nat × Nat) :=
  match args2 l with
  | some (k, i) =>
    match ([12, 10, 8, 24, 24, 24, 32, 4, 128] : List Nat)[k]? with
    | some n => if i < n then some (k, i) else none
    | none => none
  | none => none

/-- SUBSCRIBE: the subscription set; bit 7 clear (R178). -/
def argsSubscribe : List Byte → Option (BitVec 7)
  | [b] => if b.toNat < 128 then some (b.setWidth 7) else none
  | _ => none

/-- SET TIME: hours, minutes, seconds (R18). -/
def argsTime (l : List Byte) : Option TimeOfDay :=
  match args3 l with
  | some (h, m, sec) =>
    if h < 24 && m < 60 && sec < 60 then some { hours := h, minutes := m, seconds := sec } else none
  | none => none

/-- SET LEVEL: a zone and a level, a level above 5 taken as 5 (R96). -/
def argsLevel (l : List Byte) : Option (Nat × Nat) :=
  match args2 l with
  | some (z, v) => if zoneOk z then some (z, min v 5) else none
  | none => none

/-- ZONE CLEAR: a zone and the bypass option (R98). -/
def argsZoneClear : List Byte → Option (Nat × Bool)
  | [z, o] => if zoneOk z.toNat then (optionByte o).map fun b => (z.toNat, b) else none
  | _ => none

/-- PERMIT REQUEST: a zone and minutes 1–255, above 120 taken as 120 (R100). -/
def argsPermit (l : List Byte) : Option (Nat × Nat) :=
  match args2 l with
  | some (z, m) => if zoneOk z && 0 < m then some (z, min m 120) else none
  | none => none

/-- The flash pattern of a code (R175). -/
def flashOf : Nat → Option Flash
  | 0 => some .dark
  | 1 => some .alternate
  | 2 => some .unison
  | _ => none

/-- A span within signs 0–23 (R15). -/
def spanOk (first count : Nat) : Bool := signOk first && within count 1 24 && first + count ≤ 24

/-- The signs of a span, ascending (R15). -/
def spanSigns (first count : Nat) : List Nat := (List.range count).map (first + ·)

/-- The segments of a span's parts, ascending (R16). -/
def spanSegments (img : Image) (first count : Nat) : List Nat :=
  (List.range 12).filter fun i => (spanSigns first count).any fun n => (imageSign img n).segment == i

/-- POST (R140). -/
structure PostArgs where
  first    : Nat
  count    : Nat
  tag      : Nat
  slot     : Nat
  severity : Nat
  flash    : Flash
  expiry   : Option Nat
deriving DecidableEq, Repr, Inhabited

/-- The expiry of a POST: not given, or a value of four bytes other than 0, above 65535 taken as
65535 (R140). -/
def argsExpiry : List Byte → Option (Option Nat)
  | [o] => if o = 0 then some none else none
  | [o, a, b, c, d] =>
    if o = 1 && readBe32 a b c d != 0 then some (some (min (readBe32 a b c d) 65535)) else none
  | _ => none

/-- The message a POST names may be placed (R140): a stored slot, or a user slot that is defined. -/
def postable (s : State) (n : Nat) : Bool := n < 96 || (n < 128 && (s.userSlot n).defined)

/-- The arguments of POST. -/
def argsPost (s : State) : List Byte → Option PostArgs
  | f :: n :: t :: sl :: sv :: fl :: r =>
    if spanOk f.toNat n.toNat && tagOk t.toNat && postable s sl.toNat && sv.toNat ≤ 7 then
      match flashOf fl.toNat, argsExpiry r with
      | some flash, some expiry =>
        some { first := f.toNat, count := n.toNat, tag := t.toNat, slot := sl.toNat,
               severity := sv.toNat, flash, expiry }
      | _, _ => none
    else none
  | _ => none

/-- WITHDRAW: a span and a tag (R142). -/
def argsWithdraw (l : List Byte) : Option (Nat × Nat × Nat) :=
  match args3 l with
  | some (f, n, t) => if spanOk f n && tagOk t then some (f, n, t) else none
  | none => none

/-- REMAP: a sign and a station configured SIGN (R13). -/
def argsRemap (s : State) (l : List Byte) : Option (Nat × Nat) :=
  match args2 l with
  | some (n, x) => if signOk n && stationOk x && imageType s.image x == .sign then some (n, x) else none
  | none => none

/-- CURSOR (R158). -/
structure CursorArgs where
  slot   : Nat
  line   : Nat
  column : Nat
  picto  : Option Nat
deriving DecidableEq, Repr, Inhabited

/-- A user slot 96–127. -/
def userSlotOk (n : Nat) : Bool := within n 96 127

/-- The arguments of CURSOR. -/
def argsCursor : List Byte → Option CursorArgs
  | [sl, ln, col, o] =>
    if userSlotOk sl.toNat && ln.toNat < 3 && col.toNat < 20 && o == 0 then
      some { slot := sl.toNat, line := ln.toNat, column := col.toNat, picto := none }
    else none
  | [sl, ln, col, o, pc] =>
    if userSlotOk sl.toNat && ln.toNat < 3 && col.toNat < 20 && o == 1 && pc.toNat < 64 then
      some { slot := sl.toNat, line := ln.toNat, column := col.toNat, picto := some pc.toNat }
    else none
  | _ => none

/-- WRITE TEXT: a count 1–60 and that many characters (R159). -/
def argsText : List Byte → Option (List Byte)
  | n :: cs => if within n.toNat 1 60 && cs.length == n.toNat then some cs else none
  | [] => none

/-- READING: a channel and a form (R120). -/
def argsReading (l : List Byte) : Option Request :=
  match args2 l with
  | some (c, 0) => if channelOk c then some { channel := c, form := .calibrated } else none
  | some (c, 1) => if channelOk c then some { channel := c, form := .raw } else none
  | _ => none

/-- FORCE CHANNEL: a channel and either a value or the failure option, not both, not neither
(R117). A value of `none` is the failure option. -/
def argsForce : List Byte → Option (Nat × Option Int)
  | [c, o, f] => if channelOk c.toNat && o == 0 && f == 1 then some (c.toNat, none) else none
  | [c, o, hi, lo, f] =>
    if channelOk c.toNat && o == 1 && f == 0 then some (c.toNat, some (readInt16 hi lo)) else none
  | _ => none

/-- IMAGE WRITE: an offset and 1–128 data bytes within the 8192 (R187). -/
def argsImageWrite : List Byte → Option (Nat × List Byte)
  | hi :: lo :: d =>
    if within d.length 1 128 && readBe16 hi lo + d.length ≤ 8192 then some (readBe16 hi lo, d) else none
  | _ => none

end Sys2Proof.Machine
end

