-- ==== Sys2Proof/Machine/Layout.lean ====
section
/-! DEFINITION. The layouts of chapter 11: field encodings (R181), replies and result codes (R176),
the notice frame (R182) and the status records (R183). Ordinals follow the order in which the
owning rule lists the values (log 17). -/

namespace Sys2Proof.Machine

open Sys2Proof

/-! ## Ordinals of named values (R181) -/

/-- no 0, yes 1. -/
def codeBool (b : Bool) : Byte := if b then 1 else 0

/-- A flag its rule lists as "set or clear" (R44, R87), or a value listed active value first: the
first 0, the second 1 (log 17). -/
def codeFirst (b : Bool) : Byte := if b then 0 else 1

/-- Link states (R24). -/
def LinkState.code : LinkState → Byte
  | .unbound => 0
  | .silent => 1
  | .linked => 2
  | .lost => 3

/-- Gate states (R69). -/
def GateState.code : GateState → Byte
  | .unknown => 0
  | .opened => 1
  | .lowering => 2
  | .closed => 3
  | .raising => 4
  | .retreat => 5
  | .wait => 6
  | .fault => 7
  | .manual => 8
  | .offline => 9

/-- Reported positions (R69). -/
def codePosition : Option Position → Byte
  | some .up => 0
  | some .down => 1
  | some .between => 2
  | none => 0xFF

/-- Gate fault causes (R69). -/
def codeGateFault : Option GateFault → Byte
  | some .travelTimeout => 0
  | some .obstructionLimit => 1
  | some .stationLost => 2
  | some .positionConflict => 3
  | none => 0xFF

/-- Zone states (R87). -/
def ZoneState.code : ZoneState → Byte
  | .quiet => 0
  | .watch => 1
  | .tripped => 2
  | .work => 3
  | .sweep => 4

/-- Line states (R89). -/
def LineState.code : LineState → Byte
  | .normal => 0
  | .fired => 1
  | .cut => 2
  | .bypassed => 3
  | .unmonitored => 4

/-- Pending conditions (R89). -/
def codeCondition : Option Condition → Byte
  | some .quiet => 0
  | some .alarm => 1
  | some .openCircuit => 2
  | none => 0xFF

/-- Channel types (R108). -/
def codeChannelType : ChannelType → Byte
  | .surfaceTemp => 0
  | .dewPoint => 1
  | .precip => 2
  | .snowDepth => 3
  | .windGust => 4

/-- Channel statuses (R112). -/
def ChannelStatus.code : ChannelStatus → Byte
  | .fresh => 0
  | .stale => 1
  | .implausible => 2
  | .forced => 3

/-- Fault actions (R115). -/
def codeFaultAction : FaultAction → Byte
  | .hold => 0
  | .fallback => 1
  | .worst => 2

/-- Forms of a reading request (R175). -/
def Form.code : Form → Byte
  | .calibrated => 0
  | .raw => 1

/-- Flash patterns (R175). -/
def codeFlash : Flash → Byte
  | .dark => 0
  | .alternate => 1
  | .unison => 2

/-- Output states (R146). -/
def OutState.code : OutState → Byte
  | .shown => 0
  | .pending => 1
  | .dark => 2

/-- Directions (R7). -/
def codeDirection : Direction → Byte
  | .uphill => 0
  | .downhill => 1

/-- Configured types (R162). -/
def codeStationType : StationType → Byte
  | .sign => 0
  | .gate => 1
  | .trip => 2
  | .beacon => 3
  | .unused => 4

/-- Station states (R162). -/
def StationState.code : StationState → Byte
  | .absent => 0
  | .powering => 1
  | .identifying => 2
  | .active => 3
  | .lost => 4
  | .quiescing => 5
  | .off => 6
  | .faulted => 7

/-- Station fault causes (R162). -/
def codeStationFault : Option StationFault → Byte
  | some .powerFault => 0
  | some .typeMismatch => 1
  | some .identTimeout => 2
  | some .faceCheck => 3
  | none => 0xFF

/-- Attention indicators (R162). -/
def Indicator.code : Indicator → Byte
  | .dark => 0
  | .steady => 1
  | .blink => 2

/-- Loss actions (R20); 0xFF for an unbound port (log 18). -/
def codeLoss : Option LossAction → Byte
  | some .retain => 0
  | some .withdraw => 1
  | none => 0xFF

/-- Line speeds; an unbound port runs at 9600 baud. -/
def codeSpeed : Option LineSpeed → Byte
  | some .b9600 | none => 0
  | some .b19200 => 1
  | some .b38400 => 2
  | some .b57600 => 3

/-- Agent sources (R181). -/
def codeAgent : Option AgentSource → Byte
  | some .avs => 0
  | some .enf => 1
  | some .roc => 2
  | some .cab => 3
  | none => 0xFF

/-! ## Ordinals of causes, from 1 (R181) -/

/-- SEGMENT causes (R55, R134). -/
def SegCause.code : SegCause → Byte
  | .claim => 1
  | .release => 2
  | .forceRelease => 3
  | .restartConfirm => 4
  | .detector => 5
  | .zoneCleared => 6
  | .zoneLock => 7
  | .dwellExpiry => 8
  | .gatesDown => 9
  | .gatesUp => 10
  | .holdTaken => 11
  | .holdReleased => 12
  | .holdExpired => 13
  | .holdLost => 14
  | .condClass => 15
  | .windClass => 16

/-- ZONE causes (R107). -/
def ZoneCause.code : ZoneCause → Byte
  | .level => 1
  | .trip => 2
  | .line => 3
  | .sweep => 4
  | .cleared => 5
  | .permit => 6
  | .permitRenewed => 7
  | .permitEnd => 8
  | .permitExpiry => 9

/-- GATE causes (R86). -/
def GateCause.code : GateCause → Byte
  | .order => 1
  | .reached => 2
  | .travelTimeout => 3
  | .obstruction => 4
  | .retreated => 5
  | .retry => 6
  | .obstructionLimit => 7
  | .positionConflict => 8
  | .leverEngaged => 9
  | .leverReleased => 10
  | .manualMove => 11
  | .stationLost => 12
  | .stationOffline => 13
  | .stationReturn => 14
  | .startupLimit => 15
  | .faultClear => 16
  | .positionSettled => 17

/-- STATION causes (R171). -/
def StationCause.code : StationCause → Byte
  | .presenceClosed => 1
  | .presenceOpened => 2
  | .settled => 3
  | .identified => 4
  | .typeMismatch => 5
  | .identTimeout => 6
  | .noReply => 7
  | .reply => 8
  | .powerFault => 9
  | .faceCheck => 10
  | .attention => 11
  | .attentionRefused => 12
  | .stationOff => 13
  | .stationRestart => 14
  | .quiesced => 15

/-- SIGN causes (R139). -/
def SignCause.code : SignCause → Byte
  | .post => 1
  | .withdraw => 2
  | .expiry => 3
  | .linkLoss => 4
  | .closure => 5
  | .zone => 6
  | .cond => 7
  | .wind => 8
  | .retarget => 9
  | .confirmed => 10
  | .mismatch => 11
  | .recomposed => 12

/-- CHANNEL causes (R116). -/
def ChannelCause.code : ChannelCause → Byte
  | .goodSample => 1
  | .implausible => 2
  | .staleLimit => 3
  | .forced => 4
  | .unforced => 5

/-- PORT causes. -/
def PortCause.code : PortCause → Byte
  | .presence => 1
  | .windowExpiry => 2

/-! ## Values (R181) -/

/-- An index, or absent. -/
def encIndex : Option Nat → Byte
  | some n => byteOf n
  | none => 0xFF

/-- Two unsigned bytes. -/
def enc16 (n : Nat) : List Byte := be16 (BitVec.ofNat 16 n)

/-- Seconds remaining; 0 means absent. -/
def encRemaining (t : Option Nat) : List Byte := enc16 (t.getD 0)

/-- A weather value, gain or offset. -/
def encWeather : Option Int → List Byte
  | some v => be16 (BitVec.ofInt 16 v)
  | none => [0x7F, 0xFF]

/-- A raw code or the value of a RAW reading. -/
def encRaw : Option Nat → List Byte
  | some c => enc16 c
  | none => [0x7F, 0xFF]

/-- Corridor seconds, with 4 294 967 295 carried as 4 294 967 294. -/
def encStamp : Option Word → List Byte
  | some w => be32 (if w = 0xFFFFFFFF#32 then 0xFFFFFFFE#32 else w)
  | none => be32 0xFFFFFFFF#32

/-- An arrival serial or a serial number. -/
def encSerial : Option Word → List Byte
  | some w => be32 w
  | none => be32 0xFFFFFFFF#32

/-- A demand key, or none. -/
def encKey : Option DemandKey → List Byte
  | some (.agent src tag) => [codeAgent (some src), byteOf tag]
  | some (.internal .closure) => [6, 0]
  | some (.internal .zone) => [7, 1]
  | some (.internal .cond) => [8, 2]
  | some (.internal .wind) => [8, 3]
  | none => [0xFF, 0xFF]

/-- A time of day. -/
def encTimeOfDay : Option TimeOfDay → List Byte
  | some t => [byteOf t.hours, byteOf t.minutes, byteOf t.seconds]
  | none => [0xFE, 0xFE, 0xFE]

/-- A closure stamp. -/
def encClosure : Stamp → List Byte
  | .absent => [0xFF, 0xFF, 0xFF]
  | .unset => encTimeOfDay none
  | .taken t => encTimeOfDay (some t)

/-- A count followed by that many indices. -/
def encList (l : List Nat) : List Byte := byteOf l.length :: l.map byteOf

/-! ## Replies (R176) -/

/-- Result codes. -/
def Result.byte : Result → Byte
  | .done => 0x00
  | .deferred => 0x01
  | .busy => 0x02
  | .held => 0x03
  | .stale => 0x04
  | .full => 0x05
  | .denied => 0x06
  | .badarg => 0x07
  | .unknown => 0x08
  | .state => 0x09
  | .inUse => 0x0A
  | .early => 0x0B
  | .line => 0x0C

/-- Byte 0 of a reply to a frame whose kind byte may be anything: plus 0x80, or 0xFF (R176). -/
def replyKind (kind : Byte) : Byte := if kind.toNat < 0x80 then kind + 0x80 else 0xFF

/-- The body of a reply. -/
def Reply.body (r : Reply) : List Byte := r.kind :: r.code.byte :: r.data

/-! ## Notices (R182) -/

/-- The new state of a notice. -/
def NoticeBody.stateByte : NoticeBody → Byte
  | .segment st .. => byteOf st.code
  | .zone st .. => st.code
  | .gate st .. => st.code
  | .station st .. => st.code
  | .sign st .. => st.code
  | .channel st .. => st.code
  | .port st .. => st.code

/-- The cause of a notice. -/
def NoticeBody.causeByte : NoticeBody → Byte
  | .segment _ c .. => c.code
  | .zone _ c .. => c.code
  | .gate _ c .. => c.code
  | .station _ c .. => c.code
  | .sign _ c .. => c.code
  | .channel _ c .. => c.code
  | .port _ c .. => c.code

/-- The data of a notice's kind. The bypassed count stands in a CLEARED notice only, the class
byte in every SEGMENT notice (log 19). -/
def NoticeBody.data : NoticeBody → List Byte
  | .segment _ _ rev barrier cls => be16 rev ++ [codeBool barrier, encIndex cls]
  | .zone _ _ level degraded line bypassed =>
    byteOf level :: codeBool degraded ::
      ((match line with
        | some (l, st) => [byteOf l, st.code]
        | none => [0xFF, 0xFF]) ++
       (match bypassed with
        | some n => [byteOf n]
        | none => []))
  | .gate _ _ position fault => [codePosition position, codeGateFault fault]
  | .station _ _ fault => [codeStationFault fault]
  | .sign _ _ winner => encKey winner
  | .channel _ _ v => encWeather v
  | .port _ _ src => [codeAgent src]

/-- The body of a notice frame. -/
def Notice.frameBody (n : Notice) : List Byte :=
  0xF0#8 :: byteOf n.body.bit :: codeBool n.overflow :: byteOf n.index :: n.body.stateByte ::
    n.body.causeByte :: (encStamp (some n.stamp) ++ n.body.data)

/-! ## Status records (R183) -/

/-- One place of a claim set: present, reason, placed at, immediate. -/
def statusClaim (c : Option Claim) : List Byte :=
  codeBool c.isSome :: encIndex (c.map (·.reason)) :: (encStamp (c.map (·.placedAt)) ++
    [match c with
     | some k => codeFirst k.immediate
     | none => 0xFF])

/-- The segment record. -/
def statusSegment (s : State) (i : Nat) : List Byte :=
  let g := s.seg i
  let e := s.eval i
  byteOf g.state.code :: be16 g.revision ++
  [codeAgent ((s.hold i).map (·.holder))] ++ encRemaining ((s.hold i).map (·.remaining)) ++
  encRemaining g.dwell ++
  [codeBool g.barrierFault, codeBool g.reopenPending, codeBool g.zoneLock] ++
  encClosure g.stamp ++ [byteOf e.cond.cls, byteOf e.wind.cls] ++ enc16 e.score ++
  [byteOf e.cond.up, byteOf e.cond.down, byteOf e.wind.up, byteOf e.wind.down] ++
  (claimSources.flatMap fun src => statusClaim (g.claims.get src)) ++
  encList (match g.claims.det with
    | some k => k.zones
    | none => [])

/-- The zone record. -/
def statusZone (s : State) (z : Nat) : List Byte :=
  let r := s.zone z
  let e := imageZone s.image z
  [byteOf r.level, r.state.code, codeFirst e.failClosed, codeBool r.degraded] ++
  encRemaining r.permit ++ encList e.threatened ++ encList (lineList s.image z) ++ encList r.fired

/-- The gate record. -/
def statusGate (s : State) (g : Nat) : List Byte :=
  let r := s.gate g
  let e := imageGate s.image g
  [encIndex e.segment, encIndex e.station, r.state.code, codePosition r.position,
   byteOf r.attempts] ++ encRemaining r.timer ++ [codeGateFault r.cause]

/-- The trip-line record. -/
def statusLine (s : State) (l : Nat) : List Byte :=
  let r := s.line l
  let e := imageLine s.image l
  [encIndex (e.place.map (·.1)), encIndex (e.place.map (·.2)), encIndex e.zone, r.state.code,
   codeCondition r.pending, byteOf r.confirm]

/-- The forced content of a channel: its form, then its value. -/
def encForced : Forced → List Byte
  | .absent => 0 :: encWeather none
  | .value v => 1 :: encWeather (some v)
  | .failure => 2 :: encWeather none

/-- The channel record; head, input and the head's fields are absent for a channel that is not fitted. -/
def statusChannel (s : State) (c : Nat) : List Byte :=
  let r := s.channel c
  let e := imageFixed s.image c
  let h := e.place.map fun k => s.head k.1
  [encIndex (e.place.map (·.1)), encIndex (e.place.map (·.2)), codeChannelType e.type,
   r.status.code] ++
  encWeather (some (e.gain : Int)) ++ encWeather (some e.offset) ++
  encWeather (some e.low) ++ encWeather (some e.high) ++
  enc16 e.staleLimit ++ [codeFaultAction e.action] ++
  encWeather (some e.fallback) ++ encWeather r.lastGood ++ encStamp r.lastGoodTime ++
  encRemaining r.stale ++ encForced r.forced ++ encWeather (r.lastSample.map (·.1)) ++
  encRaw (r.lastSample.map (·.2)) ++ encWeather (effective s c) ++
  [match h with
   | some h => codeBool h.reachable
   | none => 0xFF] ++
  encStamp (h.bind (·.lastReply))

/-- One demand of a logical-sign record. -/
def statusDemand (d : Demand) : List Byte :=
  encKey (some d.key) ++ [byteOf d.slot, byteOf d.severity, codeFlash d.flash] ++
  encRemaining d.expiry ++ encSerial (some d.arrival)

/-- The logical-sign record. -/
def statusSign (s : State) (n : Nat) : List Byte :=
  let o := s.out n
  let e := imageSign s.image n
  [byteOf e.segment, codeDirection e.direction, encIndex (s.primary n), encIndex e.standby,
   encIndex e.beacon, encIndex e.defaultMessage, encIndex (s.target n), o.output.code,
   codeBool o.carried, byteOf o.mismatches, codeBool o.owed, codeFlash o.beacon] ++
  o.face.text ++ [byteOf o.face.picto] ++ be16 o.checksum ++ [byteOf (s.stack n).length] ++
  (s.stack n).flatMap statusDemand

/-- The station record. -/
def statusStation (s : State) (x : Nat) : List Byte :=
  let r := s.station x
  [codeStationType (imageType s.image x), r.state.code, codeStationFault r.cause, byteOf r.missed,
   codeFirst r.power, r.indicator.code, codeFirst r.contactClosed] ++ encSerial r.serial

/-- The port record. -/
def statusPort (s : State) (p : Nat) : List Byte :=
  let b := imagePort s.image p
  let k := s.portLink p
  let q := s.port p
  let c := s.cursor p
  [codeAgent (b.map (·.source)), k.state.code] ++ enc16 ((b.map (·.lower)).getD 0) ++
  enc16 ((b.map (·.upper)).getD 0) ++ encRemaining k.lower ++ encRemaining k.window ++
  [codeLoss (b.map (·.loss)), codeSpeed (b.map (·.speed)), codeFirst s.auth.keyLine,
   codeBool s.loader.safe] ++ encStamp (some s.clock.seconds) ++ encTimeOfDay s.clock.timeOfDay ++
  [byteOf q.crcErrors, byteOf q.intake.length, byteOf q.notices.length, codeBool q.overflowOwed,
   q.subscription.setWidth 8, encIndex c.slot, byteOf c.line, byteOf c.column, codeBool c.locked]

/-- The slot record. -/
def statusSlot (s : State) (n : Nat) : List Byte :=
  if n < 96 then
    0 :: (imageSlot s.image n).text ++ [byteOf (imageSlot s.image n).picto, 1, 0xFF]
  else
    1 :: (s.userSlot n).text ++
      [byteOf (s.userSlot n).picto, codeBool (s.userSlot n).defined, byteOf (s.userSlot n).refs]

/-- The record of an object kind and index, with its kind code and index (R180, R183). -/
def statusRecord (s : State) (kind index : Nat) : List Byte :=
  byteOf kind :: byteOf index ::
    match kind with
    | 0 => statusSegment s index
    | 1 => statusZone s index
    | 2 => statusGate s index
    | 3 => statusLine s index
    | 4 => statusChannel s index
    | 5 => statusSign s index
    | 6 => statusStation s index
    | 7 => statusPort s index
    | _ => statusSlot s index

end Sys2Proof.Machine
end

