-- ==== Sys2Proof/Machine/Authority.lean ====
section
/-! DEFINITION. The authority unit (chapter 02): the checks of an agent command in the order of R174,
the probe (R40), the authority matrix (R22), presence (R25), the loss of a link (R26, R28), holds
(R31–R33) and the key line (R23). `takeCommand` is the one operation every agent command goes
through; each block gives it its command's arguments, reach, held segments and action. -/

namespace Sys2Proof.Machine

open Sys2Proof

/-! ## The taking of a command (R42, R173, R174) -/

/-- What the object conditions and the action of a command answer (R174, orders 8 and 9): the
result, its data and the part afterwards. -/
structure Verdict where
  code  : Result
  data  : List Byte
  state : State
deriving DecidableEq, Repr

/-- A refusal: no result data, and nothing changes (R174, R176). -/
def refuse (s : State) (code : Result) : Verdict := { code, data := [], state := s }

/-- What a block gives the authority unit for one command: its arguments as far as the body spells
them (R175), the segments it reaches (R37), the segments the hold check covers (R34), and its
object conditions with its action. -/
structure Command (α : Type) where
  kind  : CmdKind
  parse : State → List Byte → Option α
  reach : State → α → List Nat
  held  : State → α → List Nat
  run   : State → Nat → α → Verdict

/-- The frame that may be taken on a port (R173): the head of its intake queue, once no reply of an
executed command is owed. -/
def nextFrame (s : State) (p : Nat) : Option (List Byte) :=
  if (s.port p).owed.any (·.executed) then none else (s.port p).intake.head?

/-- The head of the intake queue leaves it. -/
def popFrame (s : State) (p : Nat) : State :=
  s.setPort p { s.port p with intake := (s.port p).intake.drop 1 }

/-- The source for which commands of a port act (R19). A port without a source reaches no action but
that of STATUS (R21), where the source is not consulted. -/
def agentOf (s : State) (p : Nat) : AgentSource := (s.sourceOf p).getD .cab

/-- The binding check (R21). -/
def bindingOk (s : State) (p : Nat) (k : CmdKind) : Bool := (s.sourceOf p).isSome || k == .status

/-- The link-state check (R27). -/
def linkOk (s : State) (p : Nat) (k : CmdKind) : Bool :=
  k == .presence || k == .status || k == .subscribe || k == .portClear ||
  (s.portLink p).state == .linked

/-- The authority matrix with the key line (R22, R23). -/
def authorized (k : CmdKind) (src : AgentSource) (key : Bool) : Bool :=
  match k with
  | .post | .claim | .release | .hold | .unhold | .withdraw | .withdrawAll | .presence | .status
  | .reading | .subscribe | .portClear => true
  | .setLevel | .beginSweep | .zoneClear | .permitRequest => src == .avs
  | .permitEnd => src == .avs || (src == .cab && key)
  | .restartConfirm | .remap | .stationOff | .stationRestart | .cursor | .writeText
  | .libraryClear => src == .roc || src == .cab
  | .forceRelease | .forceChannel | .unforce | .gateFaultClear | .imageWrite | .imageCommit =>
    src == .cab && key
  | .setTime => src == .roc

/-- The arguments of a body, when the argument check accepts them with the flags and the guard
(R38, R174). -/
def checkedArgs {α : Type} (c : Command α) (s : State) (body : List Byte) : Option α :=
  if !bodyHeaderOk body then none
  else match c.parse s (bodyArgs body) with
    | none => none
    | some a =>
      match bodyGuard body with
      | none => some a
      | some g => if g.allowed (c.reach s a) then some a else none

/-- The guard check (R39); a command without a guard passes it. -/
def guardOk (s : State) (body : List Byte) : Bool :=
  match bodyGuard body with
  | none => true
  | some g => g.holds s

/-- The data of a STALE reply: the guard segment's revision and state (R39). -/
def staleData (s : State) (body : List Byte) : List Byte :=
  match bodyGuard body with
  | none => []
  | some g => be16 (s.seg g.segment).revision ++ [byteOf (s.seg g.segment).state.code]

/-- The hold check (R34): some segment of the list is held by another agent source. -/
def heldByOther (s : State) (p : Nat) (segs : List Nat) : Bool :=
  segs.any fun i => match s.hold i with
    | none => false
    | some h => h.holder != agentOf s p

/-- The checks of R174 in their order, then the command's object conditions and action. -/
def judge {α : Type} (c : Command α) (s : State) (p : Nat) (body : List Byte) : Verdict :=
  if !bindingOk s p c.kind then refuse s .denied
  else if !linkOk s p c.kind then refuse s .state
  else if !(c.kind == .status || authorized c.kind (agentOf s p) s.auth.keyLine) then refuse s .denied
  else match checkedArgs c s body with
    | none => refuse s .badarg
    | some a =>
      if !guardOk s body then { code := .stale, data := staleData s body, state := s }
      else if heldByOther s p (c.held s a) then refuse s .held
      else c.run s p a

/-- A refusal or an answer that keeps its data under the probe flag (R40): STALE, and the BUSY and
DEFERRED of READING. -/
def keepsData (k : CmdKind) (code : Result) : Bool :=
  code == .stale || (k == .reading && (code == .busy || code == .deferred))

/-- Answer a taken command: the reply becomes owed; under the probe flag nothing else changes
(R40, R176). -/
def answer (k : CmdKind) (s : State) (p : Nat) (body : List Byte) (v : Verdict) : State :=
  if bodyProbe body then
    s.owe p { kind := replyKind k.byte, code := v.code,
              data := if keepsData k v.code then v.data else [], executed := true }
  else v.state.owe p { kind := replyKind k.byte, code := v.code, data := v.data, executed := true }

/-- Take a command of a kind from the head of a port's intake queue, check it and carry it out.
Where no such frame can be taken, nothing happens (log 3). -/
def takeCommand {α : Type} (c : Command α) (p : Nat) (s : State) : State :=
  match nextFrame s p with
  | none => s
  | some body =>
    if bodyKind body = c.kind.byte then
      answer c.kind (popFrame s p) p body (judge c (popFrame s p) p body)
    else s

/-- No segments. -/
def noSegments {α : Type} (_ : State) (_ : α) : List Nat := []

/-! ## Notices of a segment -/

/-- A SEGMENT notice of the segment as it stands (R55). -/
def segNotice (s : State) (i : Nat) (cause : SegCause) : State :=
  s.notify i (.segment (s.seg i).state cause (s.seg i).revision (s.seg i).barrierFault none)

/-! ## Presence and link states -/

/-- The timers a port starts at an accepted presence (R24). -/
def linkedNow (s : State) (p : Nat) : PortLink :=
  match imagePort s.image p with
  | none => s.portLink p
  | some b =>
    { state := .linked, lower := if b.lower = 0 then none else some b.lower, window := some b.upper }

/-- A PORT notice on every other port (R25, R28). -/
def portNotice (s : State) (p : Nat) (cause : PortCause) : State :=
  s.notifyBut (some p) p (.port (s.portLink p).state cause (s.sourceOf p))

/-- The data of a DONE to PRESENCE: link state, U, L (R25). -/
def presenceData (s : State) (p : Nat) : List Byte :=
  LinkState.linked.code ::
    (enc16 (((imagePort s.image p).map (·.upper)).getD 0) ++
     enc16 (((imagePort s.image p).map (·.lower)).getD 0))

/-- The object condition and action of PRESENCE (R25). -/
def runPresence (s : State) (p : Nat) (_ : Unit) : Verdict :=
  let k := s.portLink p
  if k.state == .linked then
    if k.lower.isSome then refuse s .early
    else { code := .done, data := presenceData s p, state := s.setLink p (linkedNow s p) }
  else
    { code := .done, data := presenceData s p,
      state := portNotice (s.setLink p (linkedNow s p)) p .presence }

/-- PRESENCE (R25). -/
def presenceCommand : Command Unit where
  kind := .presence
  parse _ := argsNone
  reach := noSegments
  held := noSegments
  run := runPresence

/-- PRESENCE (R25). -/
def execPresence (p : Nat) (s : State) : Host.Outcome State Fault Refusal :=
  onObject (portOk p) (takeCommand presenceCommand p s)

/-- LOWER_BOUND_EXPIRY (R25): the lower-bound timer has run out, and a PRESENCE is accepted again. -/
def execLowerBoundExpiry (p : Nat) (s : State) : Host.Outcome State Fault Refusal :=
  onObject (portOk p)
    (if due (s.portLink p).lower then s.setLink p { s.portLink p with lower := none } else s)

/-- Drop the hold of a segment with a cause (R30). -/
def dropHold (s : State) (i : Nat) (cause : SegCause) : State := segNotice (s.setHold i none) i cause

/-- Drop every hold of a source (R28). The HOLD_LOST SEGMENT notices go to every port that subscribes to
SEGMENT, the lost port's own queue too: R28 excepts that queue for the PORT notice only (the model's
choice, log 30). R28 and R30 order the notices of several segments in no way; they go in ascending segment
index, the model's choice (log 24). -/
def dropHolds (s : State) (src : AgentSource) : State :=
  (List.range 12).foldl (fun t i =>
    match t.hold i with
    | some h => if h.holder == src then dropHold t i .holdLost else t
    | none => t) s

/-- The part of R28 that the loss action decides. -/
def lossDelivery (s : State) (p : Nat) : List Instr :=
  match imagePort s.image p with
  | some b => if b.loss == .withdraw then [.linkLossRemoval b.source] else []
  | none => []

/-- The loss of a LINKED port's link (R26, R28). -/
def loseLink (s : State) (p : Nat) : State :=
  portNotice
    ((dropHolds (s.setLink p { state := .lost, lower := none, window := none })
      (agentOf s p)).deliver (lossDelivery s p)) p .windowExpiry

/-- WINDOW_EXPIRY (R26). -/
def execWindowExpiry (p : Nat) (s : State) : Host.Outcome State Fault Refusal :=
  onObject (portOk p)
    (if (s.portLink p).state == .linked && due (s.portLink p).window then loseLink s p else s)

/-- KEY_LINE_CHANGE (R23): the line stands as given; it affects only later authority checks. -/
def execKeyLineChange (active : Bool) (s : State) : Host.Outcome State Fault Refusal :=
  .next { s with auth := { s.auth with keyLine := active } }

/-! ## Holds -/

/-- Take or renew the holds of a list, counting those taken and those renewed (R31). -/
def takeHolds (src : AgentSource) : List Nat → State × Nat × Nat → State × Nat × Nat
  | [], r => r
  | i :: is, (s, taken, renewed) =>
    let h : Option Hold := some { holder := src, remaining := s.image.holdDuration }
    match s.hold i with
    | none => takeHolds src is (segNotice (s.setHold i h) i .holdTaken, taken + 1, renewed)
    | some _ => takeHolds src is (s.setHold i h, taken, renewed + 1)

/-- The action of HOLD (R31). -/
def runHold (s : State) (p : Nat) (segs : List Nat) : Verdict :=
  let r := takeHolds (agentOf s p) segs (s, 0, 0)
  { code := .done, data := [byteOf r.2.1, byteOf r.2.2], state := r.1 }

/-- HOLD (R31). -/
def holdCommand : Command (List Nat) where
  kind := .hold
  parse _ := argsSegments
  reach _ a := a
  held _ a := a
  run := runHold

/-- HOLD (R31). -/
def execHold (p : Nat) (s : State) : Host.Outcome State Fault Refusal :=
  onObject (portOk p) (takeCommand holdCommand p s)

/-- Drop the source's own holds of a list, counting them (R32). R32, unlike R31, gives the HOLD_RELEASED
notices no order; they go in list order, the model's choice (log 24). -/
def dropOwn (src : AgentSource) : List Nat → State × Nat → State × Nat
  | [], r => r
  | i :: is, (s, n) =>
    match s.hold i with
    | some h =>
      if h.holder == src then dropOwn src is (dropHold s i .holdReleased, n + 1)
      else dropOwn src is (s, n)
    | none => dropOwn src is (s, n)

/-- The action of UNHOLD (R32). -/
def runUnhold (s : State) (p : Nat) (segs : List Nat) : Verdict :=
  let r := dropOwn (agentOf s p) segs (s, 0)
  { code := .done, data := [byteOf r.2], state := r.1 }

/-- UNHOLD (R32). -/
def unholdCommand : Command (List Nat) where
  kind := .unhold
  parse _ := argsSegments
  reach _ a := a
  held := noSegments
  run := runUnhold

/-- UNHOLD (R32). -/
def execUnhold (p : Nat) (s : State) : Host.Outcome State Fault Refusal :=
  onObject (portOk p) (takeCommand unholdCommand p s)

/-- HOLD_EXPIRY (R33). -/
def execHoldExpiry (i : Nat) (s : State) : Host.Outcome State Fault Refusal :=
  onObject (segOk i)
    (if due ((s.hold i).map (·.remaining)) then dropHold s i .holdExpired else s)

end Sys2Proof.Machine
end

