-- ==== Sys2Proof/Machine/Clock.lean ====
section
/-! DEFINITION. The second boundary of the corridor clock (R17, R18): the count, the time of day, one
second less on every running duration, and a poll round due on the field bus (R165). -/

namespace Sys2Proof.Machine

open Sys2Proof

/-- The time of day one second on; from 23:59:59 to 00:00:00 (R18). -/
def nextSecond (t : TimeOfDay) : TimeOfDay :=
  if t.seconds < 59 then { t with seconds := t.seconds + 1 }
  else if t.minutes < 59 then { t with minutes := t.minutes + 1, seconds := 0 }
  else if t.hours < 23 then { hours := t.hours + 1, minutes := 0, seconds := 0 }
  else { hours := 0, minutes := 0, seconds := 0 }

/-- The clock one second on (R17, R18). -/
def tickClock (c : Clock) : Clock :=
  { seconds := c.seconds + 1, timeOfDay := c.timeOfDay.map nextSecond }

/-- Hold times and presence timers (R24, R30). -/
def tickAuthority (a : Authority) : Authority :=
  { a with links := a.links.map fun k => { k with lower := tick k.lower, window := tick k.window },
           holds := a.holds.map fun h => h.map fun h => { h with remaining := h.remaining - 1 } }

/-- Motion timers and the start-up limit (R69, R84). -/
def tickGates (g : GateUnit) : GateUnit :=
  { recs := g.recs.map fun r => { r with timer := tick r.timer }, startLimit := tick g.startLimit }

/-- Permits (R87). -/
def tickZones (z : ZoneUnit) : ZoneUnit :=
  { z with zones := z.zones.map fun r => { r with permit := tick r.permit } }

/-- The READY discard (R119). -/
def tickSlot : Slot → Slot
  | .ready r v t d => .ready r v t (d - 1)
  | .empty => .empty
  | .pending r => .pending r

/-- Stale limits, the READY discard and the sample period (R110, R112, R119). -/
def tickWeather (w : Weather) : Weather :=
  { w with channels := w.channels.map fun c => { c with stale := tick c.stale },
           slot := tickSlot w.slot, sampleTimer := w.sampleTimer - 1 }

/-- Demand expiries and re-render intervals (R136, R146). -/
def tickArbiter (a : Arbiter) : Arbiter :=
  { a with demands := a.demands.map fun st => st.map fun d => { d with expiry := tick d.expiry },
           outputs := a.outputs.map fun o => { o with timer := tick o.timer } }

/-- One second boundary (R17): every duration kept as seconds remaining counts down; one that reaches
0 is due, and its expiry is an event of its own (log 11). -/
def secondBoundary (s : State) : State :=
  { s with
    clock := tickClock s.clock
    auth := tickAuthority s.auth
    segments := s.segments.map fun g => { g with dwell := tick g.dwell }
    gates := tickGates s.gates
    zones := tickZones s.zones
    weather := tickWeather s.weather
    evaluator := { s.evaluator with timer := s.evaluator.timer - 1 }
    arbiter := tickArbiter s.arbiter
    field := { s.field with roundsDue := s.field.roundsDue + 1 } }

/-- SECOND_BOUNDARY (R17). -/
def execSecondBoundary (s : State) : Host.Outcome State Fault Refusal := .next (secondBoundary s)

end Sys2Proof.Machine
end

