-- ==== Sys2Proof/Machine/Corridor.lean ====
section
/-! DEFINITION. The corridor table and its closure sequencer (chapter 03): claim commands (R46–R50),
the events of the zone monitor (R51, R52, R64), the dwell (R58), gate reports (R65) and the
transitions of a segment with their gate requests and closure demands (R56–R67). -/

namespace Sys2Proof.Machine

open Sys2Proof

/-! ## Transitions (R57–R63, R67) -/

/-- What an event makes of a segment: its record (the revision aside) and the gate requests. -/
structure Move where
  seg  : Segment
  reqs : List Instr
deriving DecidableEq, Repr, Inhabited

/-- A move without gate requests. -/
def Move.still (g : Segment) : Move := { seg := g, reqs := [] }

/-- Lower requests for the gates of a segment that are not CLOSED (R56). -/
def lowerRequests (s : State) (i : Nat) : List Instr :=
  ((gateList s.image i).filter fun g => (s.gate g).state != .closed).map Instr.lowerRequest

/-- Raise requests for the gates of a segment that are not OPEN (R56). -/
def raiseRequests (s : State) (i : Nat) : List Instr :=
  ((gateList s.image i).filter fun g => (s.gate g).state != .opened).map Instr.raiseRequest

/-- Entry to CLOSED: the barrier fault is decided, the stamp taken, and reopen pending is set when
the claim set is empty (R60). -/
def enterClosed (s : State) (i : Nat) (g : Segment) : Segment :=
  { g with state := .closed, dwell := none, barrierFault := barrierDecided s i,
           stamp := s.clock.stamp, reopenPending := g.claims.isEmpty }

/-- Entry to OPEN at RAISING completion (R63). -/
def enterOpen (g : Segment) : Segment :=
  { g with state := .opened, dwell := none, barrierFault := false, reopenPending := false }

/-- Entry to LOWERING, passing on to CLOSED where the completion already holds (R58, R63, R67). -/
def enterLowering (s : State) (i : Nat) (g : Segment) : Move :=
  let h : Segment := { g with state := .lowering, dwell := none, reopenPending := false }
  { seg := if loweringDone s i then enterClosed s i h else h, reqs := lowerRequests s i }

/-- Entry to RAISING, passing on to OPEN where the completion already holds (R61, R62, R67). -/
def enterRaising (s : State) (i : Nat) (g : Segment) : Move :=
  let h : Segment := { g with state := .raising, dwell := none, reopenPending := false }
  { seg := if raisingDone s i then enterOpen h else h, reqs := raiseRequests s i }

/-- An immediate claim in PREWARN: the dwell is at most the minimum dwell (R58). -/
def shorten (s : State) (g : Segment) : Segment :=
  if g.state == .prewarn then { g with dwell := g.dwell.map (min · s.image.minDwell) } else g

/-- What the sequencer does when a claim joins the set (R57, R58, R62, R63); `was` is the segment
before the event, `g` holds the new claim set. -/
def claimJoins (s : State) (i : Nat) (was g : Segment) (immediate : Bool) : Move :=
  match g.state with
  | .opened =>
    if was.claims.isEmpty then
      Move.still { g with state := .prewarn,
                          dwell := some (if immediate then s.image.minDwell else s.image.preWarning) }
    else Move.still g
  | .prewarn => Move.still (if immediate then shorten s g else g)
  | .lowering => Move.still g
  | .closed => Move.still { g with reopenPending := false }
  | .raising => if was.claims.isEmpty then enterLowering s i g else Move.still g

/-- What the sequencer does when the set becomes empty (R59, R61, R62). -/
def setEmptied (s : State) (i : Nat) (g : Segment) : Move :=
  match g.state with
  | .opened | .raising => Move.still g
  | .prewarn => if g.zoneLock then Move.still g else Move.still { g with state := .opened, dwell := none }
  | .lowering => if g.zoneLock then Move.still g else enterRaising s i g
  | .closed => if g.zoneLock then Move.still { g with reopenPending := true } else enterRaising s i g

/-! ## One event at a segment (R36, R55, R66, R67) -/

/-- Deliveries of the closure demand where its form changed (R66). -/
def closureDeliveries (s : State) (i : Nat) (old new : SegState) : List Instr :=
  if sameForm old new then []
  else (signList s.image i).map fun n => Instr.internalDelivery n .closure (closureContent s.image new)

/-- Placeholder changes for a new closure stamp (R149). -/
def stampDeliveries (s : State) (i : Nat) (old new : SegState) : List Instr :=
  if new == .closed && old != .closed then (signList s.image i).map Instr.placeholderChange else []

/-- The record an event leaves, with the revision incremented where R36 says so. -/
def revised (old new : Segment) : Segment :=
  if revisionChange old new then { new with revision := old.revision + 1 } else new

/-- One event at a segment: the new record, the deliveries to gate controller and sign arbiter, and
one notice where the revision changed or the event is a change of the zone lock (R55). -/
def segEvent (s : State) (i : Nat) (m : Move) (cause : SegCause) (lockChange : Bool) : State :=
  let old := s.seg i
  let t := (s.setSeg i (revised old m.seg)).deliver
    (m.reqs ++ closureDeliveries s i old.state m.seg.state ++ stampDeliveries s i old.state m.seg.state)
  if revisionChange old m.seg || lockChange then segNotice t i cause else t

/-! ## Claims -/

/-- A claim of the source at one segment of a CLAIM (R47); whether it was added. -/
def claimAt (s : State) (i : Nat) (src : ClaimSource) (reason : Nat) (immediate : Bool) : State × Bool :=
  let g := s.seg i
  match g.claims.get src with
  | none =>
    let k : Claim := { reason, placedAt := s.clock.seconds, immediate, zones := [] }
    (segEvent s i (claimJoins s i g { g with claims := g.claims.put src (some k) } immediate) .claim false,
     true)
  | some k =>
    let k' : Claim := { k with reason := reason, immediate := k.immediate || immediate }
    let h : Segment := { g with claims := g.claims.put src (some k') }
    (segEvent s i (Move.still (if immediate then shorten s h else h)) .claim false, false)

/-- State and revision of each listed segment (R46, R48). -/
def segReport (s : State) (segs : List Nat) : List Byte :=
  segs.flatMap fun i => byteOf (s.seg i).state.code :: be16 (s.seg i).revision

/-- A CLAIM at its segments in list order, counting the claims added (R46). -/
def claimAll (src : ClaimSource) (reason : Nat) (immediate : Bool) :
    List Nat → State × Nat → State × Nat
  | [], r => r
  | i :: is, (s, n) =>
    let r := claimAt s i src reason immediate
    claimAll src reason immediate is (r.1, if r.2 then n + 1 else n)

/-- The action of CLAIM (R46): the segments in list order, the closure demands of the one event in
ascending sign index over all of them (R138; that R138 and not the list orders them is the model's
choice, log 24). -/
def runClaim (s : State) (p : Nat) (a : ClaimArgs) : Verdict :=
  let r := claimAll (claimSourceFor (agentOf s p)) a.reason a.immediate a.segs (s, 0)
  { code := .done,
    data := byteOf r.2 :: byteOf (a.segs.length - r.2) :: segReport r.1 a.segs,
    state := s.gathered r.1 }

/-- CLAIM (R46). -/
def claimCommand : Command ClaimArgs where
  kind := .claim
  parse _ := argsClaim
  reach _ a := a.segs
  held _ a := a.segs
  run := runClaim

/-- CLAIM (R46). -/
def execClaim (p : Nat) (s : State) : Host.Outcome State Fault Refusal :=
  onObject (portOk p) (takeCommand claimCommand p s)

/-- The removal of a source's claim, with the sequencer's action where the set becomes empty. -/
def removeClaim (s : State) (i : Nat) (src : ClaimSource) (cause : SegCause) : State :=
  let g := s.seg i
  let h : Segment := { g with claims := g.claims.put src none }
  segEvent s i (if h.claims.isEmpty then setEmptied s i h else Move.still h) cause false

/-- A RELEASE at its segments in list order, counting the claims removed (R48). -/
def releaseAll (src : ClaimSource) : List Nat → State × Nat → State × Nat
  | [], r => r
  | i :: is, (s, n) =>
    if ((s.seg i).claims.get src).isSome then
      releaseAll src is (removeClaim s i src .release, n + 1)
    else releaseAll src is (s, n)

/-- The action of RELEASE (R48), its closure demands in the order of one event as for CLAIM (R138,
log 24). -/
def runRelease (s : State) (p : Nat) (segs : List Nat) : Verdict :=
  let r := releaseAll (claimSourceFor (agentOf s p)) segs (s, 0)
  { code := .done, data := byteOf r.2 :: segReport r.1 segs, state := s.gathered r.1 }

/-- RELEASE (R48). -/
def releaseCommand : Command (List Nat) where
  kind := .release
  parse _ := argsSegments
  reach _ a := a
  held _ a := a
  run := runRelease

/-- RELEASE (R48). -/
def execRelease (p : Nat) (s : State) : Host.Outcome State Fault Refusal :=
  onObject (portOk p) (takeCommand releaseCommand p s)

/-- Object condition and action shared by FORCE RELEASE and RESTART CONFIRM: STATE without the
claim, otherwise its removal (R49, R50). -/
def dropClaim (s : State) (i : Nat) (src : ClaimSource) (cause : SegCause) : Verdict :=
  if ((s.seg i).claims.get src).isSome then
    let t := removeClaim s i src cause
    { code := .done, data := segReport t [i], state := t }
  else refuse s .state

/-- FORCE RELEASE (R49). -/
def forceReleaseCommand : Command (Nat × ClaimSource) where
  kind := .forceRelease
  parse _ := argsForceRelease
  reach _ a := [a.1]
  held := noSegments
  run s _ a := dropClaim s a.1 a.2 .forceRelease

/-- FORCE RELEASE (R49). -/
def execForceRelease (p : Nat) (s : State) : Host.Outcome State Fault Refusal :=
  onObject (portOk p) (takeCommand forceReleaseCommand p s)

/-- RESTART CONFIRM (R50). -/
def restartConfirmCommand : Command Nat where
  kind := .restartConfirm
  parse _ := argsIndex segOk
  reach _ i := [i]
  held _ i := [i]
  run s _ i := dropClaim s i .rst .restartConfirm

/-- RESTART CONFIRM (R50). -/
def execRestartConfirm (p : Nat) (s : State) : Host.Outcome State Fault Refusal :=
  onObject (portOk p) (takeCommand restartConfirmCommand p s)

/-! ## Events of the zone monitor -/

/-- A detector event at a segment (R51). -/
def detectorAt (s : State) (i z : Nat) : State :=
  let g := s.seg i
  match g.claims.det with
  | none =>
    let k : Claim := { reason := 0, placedAt := s.clock.seconds, immediate := true, zones := [z] }
    segEvent s i (claimJoins s i g { g with claims := { g.claims with det := some k } } true)
      .detector false
  | some k =>
    if k.zones.contains z then s
    else
      let k' : Claim := { k with zones := k.zones ++ [z] }
      segEvent s i (Move.still (shorten s { g with claims := { g.claims with det := some k' } }))
        .detector false

/-- DETECTOR_EVENT (R51). -/
def execDetectorEvent (i z : Nat) (s : State) : Host.Outcome State Fault Refusal :=
  onObject (segOk i && zoneOk z) (detectorAt (s.taking (.detectorEvent i z)) i z)

/-- The DET claim after a zone's clearance (R52). -/
def clearedDet (z : Nat) : Option Claim → Option Claim
  | none => none
  | some k =>
    if k.zones.contains z then
      if (k.zones.erase z).isEmpty then none else some { k with zones := k.zones.erase z }
    else some k

/-- What the sequencer makes of a zone clearance, both changes made (R52). -/
def clearanceMove (s : State) (i : Nat) (g : Segment) : Move :=
  if g.claims.isEmpty then
    if g.zoneLock then
      if g.state == .closed then Move.still { g with reopenPending := true } else Move.still g
    else match g.state with
      | .prewarn => Move.still { g with state := .opened, dwell := none }
      | .lowering | .closed => enterRaising s i g
      | .opened | .raising => Move.still g
  else Move.still g

/-- A zone-clearance event at a segment (R52). The lock ends where the event says so, unless a zone
that threatens the segment has entered WORK or SWEEP since the clearance was given: the law of R100
holds at every step (log 36). -/
def clearanceAt (s : State) (i z : Nat) (lockEnds : Bool) : State :=
  let g := s.seg i
  let ends := lockEnds && !lockedByZone s i
  let h : Segment := { g with claims := { g.claims with det := clearedDet z g.claims.det },
                              zoneLock := g.zoneLock && !ends }
  segEvent s i (clearanceMove s i h) .zoneCleared (g.zoneLock && ends)

/-- ZONE_CLEARANCE_EVENT (R52). -/
def execZoneClearanceEvent (i z : Nat) (lockEnds : Bool) (s : State) :
    Host.Outcome State Fault Refusal :=
  onObject (segOk i && zoneOk z)
    (clearanceAt (s.taking (.zoneClearanceEvent i z lockEnds)) i z lockEnds)

/-- A lock-start event at a segment (R64). -/
def lockStartAt (s : State) (i : Nat) : State :=
  let g : Segment := { s.seg i with zoneLock := true }
  segEvent s i (if g.state == .raising then enterLowering s i g else Move.still g) .zoneLock true

/-- LOCK_START_EVENT (R64). -/
def execLockStartEvent (i : Nat) (s : State) : Host.Outcome State Fault Refusal :=
  onObject (segOk i) (lockStartAt (s.taking (.lockStartEvent i)) i)

/-! ## The dwell and gate reports -/

/-- DWELL_EXPIRY (R58). -/
def execDwellExpiry (i : Nat) (s : State) : Host.Outcome State Fault Refusal :=
  onObject (segOk i)
    (if (s.seg i).state == .prewarn && due (s.seg i).dwell then
      segEvent s i (enterLowering s i (s.seg i)) .dwellExpiry false
     else s)

/-- A gate report at the segment the gate guards (R65). -/
def reportAt (s : State) (i : Nat) : State :=
  match (s.seg i).state with
  | .lowering =>
    if loweringDone s i then segEvent s i (Move.still (enterClosed s i (s.seg i))) .gatesDown false else s
  | .raising =>
    if raisingDone s i then segEvent s i (Move.still (enterOpen (s.seg i))) .gatesUp false else s
  | .opened | .prewarn | .closed => s

/-- GATE_REPORT_TO_SEGMENT (R65). -/
def execGateReportToSegment (g : Nat) (s : State) : Host.Outcome State Fault Refusal :=
  let t := s.taking (.gateReportToSegment g)
  onObject (gateOk g)
    (match segmentOfGate s g with
     | some i => reportAt t i
     | none => t)

end Sys2Proof.Machine
end

