-- ==== Sys2Proof/Machine/Evaluator.lean ====
section
/-! DEFINITION. The condition evaluator (chapter 07): the evaluation event (R125) with its inputs
(R126), score (R127, R128), filters (R130, R131), deliveries (R133) and notices (R134). -/

namespace Sys2Proof.Machine

open Sys2Proof

/-- The effective value of the channel that fills a role; none where the role is absent (R126). -/
def roleValue (s : State) (role : Option Nat) : Option Int := role.bind (effective s)

/-- The risk score of a segment whose Ts role is filled (R126–R128). -/
def scoreOf (s : State) (e : SegmentEntry) (ts : Int) : Int :=
  riskScore ts (roleValue s e.td) ((roleValue s e.p).getD 0) ((roleValue s e.s).getD 0)

/-- The evaluation record after one evaluation (R125, steps 1–4); a segment without Ts is not
evaluated (R124). -/
def evaluation (s : State) (i : Nat) : Evaluation :=
  let e := imageSegment s.image i
  let r := s.eval i
  match roleValue s e.ts with
  | none => r
  | some ts =>
    let score := scoreOf s e ts
    { score := score.toNat,
      cond := runFilter s.image.thresholds s.image.hysteresis s.image.confirmation score r.cond,
      wind := match roleValue s e.w with
        | some w => runFilter windThresholds windHysteresis s.image.confirmation w r.wind
        | none => r.wind }

/-- The demand a class calls for: its map entry, or none for class 0 (R132, R133). -/
def classContent (m : List MapEntry) (k : Nat) : Option DemandContent :=
  if k = 0 then none
  else
    let e := m.getD (k - 1) default
    some { slot := e.slot, severity := e.severity, flash := e.flash }

/-- The deliveries for a changed class (R133). -/
def classDeliveries (s : State) (i : Nat) (t : Topic) (m : List MapEntry) (old new : Nat) : List Instr :=
  if old = new then []
  else (signList s.image i).map fun n => Instr.internalDelivery n t (classContent m new)

/-- The notice of a changed class (R134). -/
def classNotice (s : State) (i : Nat) (cause : SegCause) (old new : Nat) : State :=
  if old = new then s
  else s.notify i (.segment (s.seg i).state cause (s.seg i).revision (s.seg i).barrierFault (some new))

/-- One segment's evaluation; the deliveries are collected (R125, R133, R134). -/
def evaluateSegment (r : State × List Instr) (i : Nat) : State × List Instr :=
  let old := r.1.eval i
  let new := evaluation r.1 i
  let t := r.1.setEval i new
  let t := classNotice t i .condClass old.cond.cls new.cond.cls
  let t := classNotice t i .windClass old.wind.cls new.wind.cls
  (t, r.2 ++ classDeliveries t i .cond t.image.condMap old.cond.cls new.cond.cls ++
    classDeliveries t i .wind t.image.windMap old.wind.cls new.wind.cls)

/-- The evaluation event: every segment, and the period starts again (R125). The SEGMENT notices of
different segments go in ascending segment index, the model's choice (log 24). -/
def evaluate (s : State) : State :=
  let r := (List.range 12).foldl evaluateSegment
    ({ s with evaluator := { s.evaluator with timer := s.image.evalPeriod } }, [])
  r.1.deliver (bySign r.2)

/-- EVALUATION_EVENT (R125): taken when the evaluation period has run out. -/
def execEvaluationEvent (s : State) : Host.Outcome State Fault Refusal :=
  .next (if s.evaluator.timer = 0 then evaluate s else s)

end Sys2Proof.Machine
end

