-- ==== Sys2Proof/Machine/Gates.lean ====
section
/-! DEFINITION. The gate controller (chapter 04): requests (R72, R73), reports (R70), the ends of
motion (R74), obstruction and retry (R75–R77), settling (R78), the manual lever (R79, R80), position
conflict (R81), loss and return of a station (R82, R83), the start-up limit (R84) and GATE FAULT
CLEAR (R85). -/

namespace Sys2Proof.Machine

open Sys2Proof

/-! ## Orders (R71) -/

/-- STOP is given: it replaces a direction order not yet carried. -/
def orderStop (g : Gate) : Gate := { g with stopOwed := true, driveOwed := none }

/-- LOWER or RAISE is given: the travel limit starts (R71). -/
def orderDrive (s : State) (d : Drive) (g : Gate) : Gate :=
  { g with driveOwed := some d, timer := some s.image.travelLimit }

/-- Every order not yet carried is discarded. -/
def noOrders (g : Gate) : Gate := { g with stopOwed := false, driveOwed := none }

/-- What an event makes of a gate, and which orders it gives: a STOP, a direction order, or both. -/
structure GateMove where
  gate   : Gate
  stops  : Bool
  drives : Bool
deriving DecidableEq, Repr, Inhabited

/-- A move without an order. -/
def GateMove.still (g : Gate) : GateMove := { gate := g, stops := false, drives := false }

/-- A move with LOWER or RAISE alone. -/
def GateMove.driven (g : Gate) : GateMove := { gate := g, stops := false, drives := true }

/-- A move with STOP alone. -/
def GateMove.stopped (g : Gate) : GateMove := { gate := g, stops := true, drives := false }

/-- A move with STOP and then LOWER or RAISE. -/
def GateMove.reversed (g : Gate) : GateMove := { gate := g, stops := true, drives := true }

/-- The carriage is of an order that the move's orders replace: a direction order by any order, a STOP
by a new STOP alone, since a STOP not yet carried is still carried first (R71, log 16). -/
def GateMove.replaces (m : GateMove) (g : Nat) : Carriage → Bool
  | .stop x => m.stops && x == g
  | .drive x => (m.stops || m.drives) && x == g
  | .nothing | .face _ | .blank | .pattern _ | .darken => false

/-- The change is one of state, or of position in MANUAL (R86). -/
def gateChanged (old new : Gate) : Bool :=
  old.state != new.state || (new.state == .manual && old.position != new.position)

/-- The delivery of a change to the corridor table; a gate that is not fitted has no segment (R86). -/
def gateDelivery (s : State) (g : Nat) : List Instr :=
  if (segmentOfGate s g).isSome then [.gateReportToSegment g] else []

/-- One event at a gate: the record, the delivery to the corridor table and the GATE notice (R86). -/
def gateEvent (s : State) (g : Nat) (m : GateMove) (cause : GateCause) : State :=
  let t := (s.setGate g m.gate).recarry (m.replaces g)
  if gateChanged (s.gate g) m.gate then
    (t.deliver (gateDelivery s g)).notify g (.gate m.gate.state cause m.gate.position m.gate.cause)
  else t

/-! ## Entering a state -/

/-- LOWER given into LOWERING, with the attempt count at 0 (R72, R78). -/
def beginLower (s : State) (g : Gate) : Gate :=
  { orderDrive s .lower g with state := .lowering, attempts := 0, cause := none }

/-- RAISE given into RAISING (R73, R78). -/
def beginRaise (s : State) (g : Gate) : Gate :=
  { orderDrive s .raise g with state := .raising, cause := none }

/-- A gate at rest in a state: no motion timer, no fault cause. -/
def restIn (st : GateState) (g : Gate) : Gate := { g with state := st, timer := none, cause := none }

/-- A gate in FAULT with a cause. -/
def faultWith (c : GateFault) (g : Gate) : Gate :=
  { g with state := .fault, timer := none, cause := some c }

/-- Settling by position (R78). -/
def settle (s : State) (n : Nat) (g : Gate) : GateMove :=
  match g.position with
  | some .up =>
    if callsDown s n then GateMove.driven (beginLower s g) else GateMove.still (restIn .opened g)
  | some .down =>
    if callsUp s n then GateMove.driven (beginRaise s g) else GateMove.still (restIn .closed g)
  | some .between =>
    if callsDown s n then GateMove.driven (beginLower s g)
    else if callsUp s n then GateMove.driven (beginRaise s g)
    else GateMove.still (restIn .unknown g)
  | none => GateMove.still (restIn .unknown g)

/-- Entry to MANUAL: the timer is cancelled and orders not yet carried are discarded (R79). -/
def enterManual (g : Gate) : Gate := restIn .manual (noOrders g)

/-- A retreat from an obstruction: STOP and RAISE, the travel limit afresh; final when the attempt
count has reached the retry limit (R75, R77). -/
def retreat (s : State) (g : Gate) : Gate :=
  { orderDrive s .raise (orderStop g) with
    state := .retreat,
    cause := if g.attempts < s.image.retryLimit then none else some .obstructionLimit }

/-! ## Requests (R72, R73) -/

/-- A lower request that is acted on (R72). -/
def lowerMove (s : State) (g : Gate) : GateMove :=
  match g.state with
  | .opened => GateMove.driven (beginLower s g)
  | .raising => GateMove.reversed (beginLower s (orderStop g))
  | .unknown => if g.stationUp then GateMove.driven (beginLower s g) else GateMove.still g
  | .lowering | .closed | .retreat | .wait | .fault | .manual | .offline => GateMove.still g

/-- LOWER_REQUEST (R72). -/
def execLowerRequest (g : Nat) (s : State) : Host.Outcome State Fault Refusal :=
  let t := s.taking (.lowerRequest g)
  onObject (gateOk g) (if callsDown t g then gateEvent t g (lowerMove t (t.gate g)) .order else t)

/-- A raise request that is acted on (R73). -/
def raiseMove (s : State) (g : Gate) : GateMove :=
  match g.state with
  | .closed => GateMove.driven (beginRaise s g)
  | .lowering => GateMove.reversed (beginRaise s (orderStop g))
  | .unknown => if g.stationUp then GateMove.driven (beginRaise s g) else GateMove.still g
  | .retreat =>
    if g.cause.isNone then GateMove.still { g with state := .raising } else GateMove.still g
  | .wait => GateMove.still (restIn .opened g)
  | .opened | .raising | .fault | .manual | .offline => GateMove.still g

/-- RAISE_REQUEST (R73). -/
def execRaiseRequest (g : Nat) (s : State) : Host.Outcome State Fault Refusal :=
  let t := s.taking (.raiseRequest g)
  onObject (gateOk g) (if callsUp t g then gateEvent t g (raiseMove t (t.gate g)) .order else t)

/-! ## Reports (R70) -/

/-- A report with the lever engaged, outside MANUAL and FAULT (R77, R79). -/
def leverMove (g : Gate) : GateMove × GateCause :=
  if g.state == .retreat && g.cause == some .obstructionLimit then
    (GateMove.still (faultWith .obstructionLimit g), .obstructionLimit)
  else (GateMove.still (enterManual g), .leverEngaged)

/-- Arrival, obstruction and unordered movement (R70, items 3 and 4); `g` already holds the reported
position, `moved` says that it differs from the position before the report. -/
def motionMove (s : State) (n : Nat) (g : Gate) (r : GateReport) (moved : Bool) : GateMove × GateCause :=
  match g.state with
  | .lowering =>
    if r.position == .down then (GateMove.still (restIn .closed g), .reached)
    else if r.blocked then (GateMove.reversed (retreat s g), .obstruction)
    else (GateMove.still g, .reached)
  | .raising =>
    if r.position == .up then (GateMove.still (restIn .opened g), .reached)
    else (GateMove.still g, .reached)
  | .retreat =>
    if r.position == .up then
      if g.cause == some .obstructionLimit then
        (GateMove.still (faultWith .obstructionLimit g), .obstructionLimit)
      else (GateMove.still { g with state := .wait, timer := some s.image.retryInterval }, .retreated)
    else (GateMove.still g, .retreated)
  | .opened | .wait =>
    if r.position == .up then (GateMove.still g, .positionConflict)
    else (GateMove.still (faultWith .positionConflict g), .positionConflict)
  | .closed =>
    if r.position == .down then (GateMove.still g, .positionConflict)
    else (GateMove.still (faultWith .positionConflict g), .positionConflict)
  | .unknown => if moved then (settle s n g, .positionSettled) else (GateMove.still g, .positionSettled)
  | .manual | .fault | .offline => (GateMove.still g, .manualMove)

/-- A report taken in the order of R70. -/
def reportMove (s : State) (n : Nat) (r : GateReport) : GateMove × GateCause :=
  let was := s.gate n
  let g : Gate := { was with position := some r.position, lever := r.lever }
  if r.lever then
    match g.state with
    | .manual | .fault => (GateMove.still g, .manualMove)
    | _ => leverMove g
  else if g.state == .manual then (settle s n g, .leverReleased)
  else motionMove s n g r (was.position != some r.position)

/-- A report of an ACTIVE station; a gate whose station is not ACTIVE takes no reports (R70, R81). -/
def reportGate (s : State) (n : Nat) (r : GateReport) : State :=
  if (s.gate n).stationUp then gateEvent s n (reportMove s n r).1 (reportMove s n r).2 else s

/-- GATE_REPORT (R70). -/
def execGateReport (g : Nat) (r : GateReport) (s : State) : Host.Outcome State Fault Refusal :=
  onObject (gateOk g) (reportGate (s.taking (.gateReport g r)) g r)

/-! ## Timers -/

/-- The travel limit expired in LOWERING, RAISING or RETREAT (R74, R76, R77). -/
def timeoutMove (g : Gate) : GateMove × GateCause :=
  if g.state == .retreat && g.cause == some .obstructionLimit then
    (GateMove.stopped (faultWith .obstructionLimit (orderStop g)), .obstructionLimit)
  else (GateMove.stopped (faultWith .travelTimeout (orderStop g)), .travelTimeout)

/-- TRAVEL_TIMEOUT (R74). -/
def execTravelTimeout (g : Nat) (s : State) : Host.Outcome State Fault Refusal :=
  onObject (gateOk g)
    (if (s.gate g).moving && due (s.gate g).timer then
      gateEvent s g (timeoutMove (s.gate g)).1 (timeoutMove (s.gate g)).2
     else s)

/-- The retry interval expired in WAIT (R76). -/
def retryMove (s : State) (n : Nat) (g : Gate) : GateMove × GateCause :=
  if callsDown s n then
    (GateMove.driven { orderDrive s .lower g with state := .lowering, attempts := g.attempts + 1 },
     .retry)
  else (GateMove.still (restIn .opened g), .order)

/-- RETRY_INTERVAL_EXPIRY (R76). -/
def execRetryIntervalExpiry (g : Nat) (s : State) : Host.Outcome State Fault Refusal :=
  onObject (gateOk g)
    (if (s.gate g).state == .wait && due (s.gate g).timer then
      gateEvent s g (retryMove s g (s.gate g)).1 (retryMove s g (s.gate g)).2
     else s)

/-- A gate at the start-up limit (R84). -/
def limitGate (s : State) (n : Nat) : State :=
  let g := s.gate n
  if g.state == .unknown && !g.stationUp then
    gateEvent s n (GateMove.still { restIn .offline g with position := none }) .startupLimit
  else s

/-- STARTUP_LIMIT (R84): it expires once, at every gate still waiting for its station. R84 and R17 order
the notices and deliveries of several gates in no way; they go in ascending gate index, the model's choice
(log 24). -/
def execStartupLimit (s : State) : Host.Outcome State Fault Refusal :=
  .next (if due s.gates.startLimit then
    (List.range 8).foldl limitGate { s with gates := { s.gates with startLimit := none } }
  else s)

/-! ## Loss and return of the station -/

/-- The gate's station leaves ACTIVE (R82). -/
def lostMove (g : Gate) : GateMove × GateCause :=
  let h : Gate := { noOrders g with stationUp := false }
  match g.state with
  | .lowering | .raising => (GateMove.still (faultWith .stationLost h), .stationLost)
  | .retreat =>
    (GateMove.still (faultWith (if g.cause == some .obstructionLimit then .obstructionLimit
      else .stationLost) h), .stationLost)
  | .opened | .closed | .wait | .unknown | .manual =>
    (GateMove.still (restIn .offline h), .stationOffline)
  | .fault | .offline => (GateMove.still h, .stationOffline)

/-- The loss of a gate's station taken at the gate (R82). -/
def gateLost (s : State) (g : Nat) : State :=
  gateEvent s g (lostMove (s.gate g)).1 (lostMove (s.gate g)).2

/-- GATE_STATION_LOST (R82). -/
def execGateStationLost (g : Nat) (s : State) : Host.Outcome State Fault Refusal :=
  onObject (gateOk g) (gateLost (s.taking (.gateStationLost g)) g)

/-- What a gate's record takes of its station's identification report, whatever the gate's state (R83). -/
def identified (g : Gate) (r : GateReport) : Gate :=
  { g with position := some r.position, lever := r.lever, stationUp := true }

/-- The gate's station enters ACTIVE with what it reported (R83). -/
def returnMove (s : State) (n : Nat) (r : GateReport) : GateMove :=
  let g := identified (s.gate n) r
  if g.state == .fault then GateMove.still g
  else if r.lever then GateMove.still (enterManual g)
  else settle s n g

/-- The return of a gate's station taken at the gate (R83). -/
def gateReturned (s : State) (g : Nat) (r : GateReport) : State :=
  gateEvent s g (returnMove s g r) .stationReturn

/-- A return taken in the event in which the station departs again: its report is recorded, and the gate is
not settled, since the departure leaves it out of service (R82, R168, log 35). -/
def gateRecorded (s : State) (g : Nat) (r : GateReport) : State :=
  s.setGate g (identified (s.gate g) r)

/-- GATE_STATION_RETURN (R83). -/
def execGateStationReturn (g : Nat) (r : GateReport) (s : State) : Host.Outcome State Fault Refusal :=
  onObject (gateOk g) (gateReturned (s.taking (.gateStationReturn g r)) g r)

/-! ## GATE FAULT CLEAR (R85) -/

/-- A gate cleared of its fault (R85). -/
def clearMove (s : State) (n : Nat) : GateMove :=
  let g : Gate := { s.gate n with attempts := 0, cause := none }
  if !g.stationUp then GateMove.still (restIn .offline g)
  else if g.lever then GateMove.still (enterManual g)
  else settle s n g

/-- The object condition and action of GATE FAULT CLEAR (R85). -/
def runGateFaultClear (s : State) (_ : Nat) (n : Nat) : Verdict :=
  if (s.gate n).state == .fault then
    let t := gateEvent s n (clearMove s n) .faultClear
    { code := .done, data := [(t.gate n).state.code, codePosition (t.gate n).position], state := t }
  else refuse s .state

/-- GATE FAULT CLEAR (R85). -/
def gateFaultClearCommand : Command Nat where
  kind := .gateFaultClear
  parse _ := argsIndex gateOk
  reach := noSegments
  held := noSegments
  run := runGateFaultClear

/-- GATE FAULT CLEAR (R85). -/
def execGateFaultClear (p : Nat) (s : State) : Host.Outcome State Fault Refusal :=
  onObject (portOk p) (takeCommand gateFaultClearCommand p s)

end Sys2Proof.Machine
end

