-- ==== Sys2Proof/Machine/Placement.lean ====
section
/-! DEFINITION. The placement table (chapter 01): choice of the active target (R8), departures (R9),
entries (R10), the retarget events they hand on (R11), marks for blanking (R12) and REMAP (R13). -/

namespace Sys2Proof.Machine

open Sys2Proof

/-- The target of a sign in a placement table. -/
def targetIn (t : Placement) (n : Nat) : Option Nat := t.targets.getD n none
/-- The primary of a sign in a placement table. -/
def primaryIn (t : Placement) (n : Nat) : Option Nat := t.primaries.getD n none
/-- The station is ACTIVE as last told. -/
def upIn (t : Placement) (x : Nat) : Bool := t.up.getD x false
/-- Give a sign a target. -/
def setTarget (t : Placement) (n : Nat) (v : Option Nat) : Placement :=
  { t with targets := t.targets.set n v }

/-- The station is the active target of no sign but `n`. -/
def freeFor (t : Placement) (n x : Nat) : Bool :=
  (List.range 24).all fun m => m == n || targetIn t m != some x

/-- The station is the active target of no sign. -/
def unused (t : Placement) (x : Nat) : Bool := (List.range 24).all fun m => targetIn t m != some x

/-- The standby of a sign, where it is ACTIVE and the target of no other sign (R8). -/
def standbyFor (img : Image) (t : Placement) (n : Nat) : Option Nat :=
  match (imageSign img n).standby with
  | some y => if upIn t y && freeFor t n y then some y else none
  | none => none

/-- The choice of R8. -/
def choose (img : Image) (t : Placement) (n : Nat) : Option Nat :=
  match primaryIn t n with
  | some x => if upIn t x then some x else standbyFor img t n
  | none => standbyFor img t n

/-- The sign waits for the station as its standby (R8). -/
def waits (img : Image) (t : Placement) (x n : Nat) : Bool :=
  (targetIn t n).isNone && (imageSign img n).standby == some x &&
  match primaryIn t n with
  | some y => !upIn t y
  | none => true

/-- An available station goes to the lowest-numbered sign waiting for it (R8, R10, R13). -/
def offer (img : Image) (t : Placement) (x : Nat) : Placement :=
  if upIn t x && unused t x then
    match (List.range 24).find? (waits img t x) with
    | some n => setTarget t n (some x)
    | none => t
  else t

/-- Another sign that holds the station loses it and is evaluated again without it (R8). -/
def displace (img : Image) (a x : Nat) (t : Placement) (m : Nat) : Placement :=
  if m != a && targetIn t m == some x then
    setTarget t m (choose img (setTarget t m none) m)
  else t

/-- A sign takes a station; what it held before is released (R8, R10, R13). -/
def takeStation (img : Image) (t : Placement) (a x : Nat) : Placement :=
  let u := (List.range 24).foldl (displace img a x) (setTarget t a (some x))
  match targetIn t a with
  | some y => offer img u y
  | none => u

/-- The table after a station left ACTIVE (R9). -/
def departed (img : Image) (t : Placement) (x : Nat) : Placement :=
  let t : Placement := { t with up := t.up.set x false }
  match (List.range 24).find? fun n => targetIn t n == some x with
  | some n => setTarget t n (choose img (setTarget t n none) n)
  | none => t

/-- The table after a station entered ACTIVE (R10). -/
def entered (img : Image) (t : Placement) (x : Nat) : Placement :=
  let t : Placement := { t with up := t.up.set x true }
  match (List.range 24).find? fun n => primaryIn t n == some x && targetIn t n != some x with
  | some a => takeStation img t a x
  | none => offer img t x

/-- The table after REMAP gave a sign a new primary (R13). A previous primary that is also the sign's
standby and stays its choice by R8, the new primary not being ACTIVE, is kept, with no retarget: R8
before the release of R13, the model's choice (log 29). R14 has REMAP and an event of the station named
give the same final targets in both orders; where a second sign waits for the standby of the remapped one,
R8, R9 and R13 give the standby to that sign when REMAP of an ACTIVE station goes first, and leave it
where it is when the station's departure goes first. Each event follows its own rule: the model's choice
(log 37). -/
def remapped (img : Image) (t : Placement) (n x : Nat) : Placement :=
  let t : Placement := { t with primaries := t.primaries.set n (some x) }
  match choose img t n with
  | some y => if targetIn t n == some y then t else takeStation img t n y
  | none =>
    match targetIn t n with
    | some y => offer img (setTarget t n none) y
    | none => t

/-! ## What a changed table hands on (R11, R12) -/

/-- One retarget event for each sign whose target changed, in ascending sign index (R11). -/
def retargets (old new : Placement) : List Instr :=
  (List.range 24).filterMap fun n =>
    if targetIn old n = targetIn new n then none
    else some (Instr.retarget n (targetIn old n) (targetIn new n))

/-- The station was a sign's target, is now no sign's, and is still ACTIVE (R12). -/
def leftOver (old new : Placement) (x : Nat) : Bool := !unused old x && unused new x && upIn new x

/-- The station records with the stations left over marked for blanking; a mark ends where the station
is a sign's target in the new table (R12, R152, log 26). -/
def markBlank (old new : Placement) (l : List Station) : List Station :=
  l.mapIdx fun x r =>
    if leftOver old new x then { r with blankOwed := true }
    else if unused new x then r
    else { r with blankOwed := false }

/-- The new table stands: stations left over are marked for blanking, and the retargets are handed
to the sign arbiter (R11, R12). -/
def replaceTable (s : State) (new : Placement) : State :=
  let f := { s.field with stations := markBlank s.placement new s.field.stations }
  ((s.setPlacement new).setField f).deliver (retargets s.placement new)

/-- A departure from ACTIVE taken at the placement table (R9). -/
def placementLeft (s : State) (x : Nat) : State := replaceTable s (departed s.image s.placement x)

/-- PLACEMENT_DEPARTURE (R9). -/
def execPlacementDeparture (x : Nat) (s : State) : Host.Outcome State Fault Refusal :=
  onObject (stationOk x) (placementLeft (s.taking (.placementDeparture x)) x)

/-- An entry to ACTIVE taken at the placement table (R10). -/
def placementEntered (s : State) (x : Nat) : State := replaceTable s (entered s.image s.placement x)

/-- PLACEMENT_ENTRY (R10). -/
def execPlacementEntry (x : Nat) (s : State) : Host.Outcome State Fault Refusal :=
  onObject (stationOk x) (placementEntered (s.taking (.placementEntry x)) x)

/-! ## REMAP (R13) -/

/-- The object condition and action of REMAP (R13). -/
def runRemap (s : State) (_ : Nat) (a : Nat × Nat) : Verdict :=
  if (List.range 24).any (fun m => m != a.1 && s.primary m == some a.2) then refuse s .state
  else if s.primary a.1 == some a.2 then { code := .done, data := [], state := s }
  else
    { code := .done, data := [],
      state := replaceTable s (remapped s.image s.placement a.1 a.2) }

/-- REMAP (R13). -/
def remapCommand : Command (Nat × Nat) where
  kind := .remap
  parse := argsRemap
  reach := noSegments
  held := noSegments
  run := runRemap

/-- REMAP (R13). -/
def execRemap (p : Nat) (s : State) : Host.Outcome State Fault Refusal :=
  onObject (portOk p) (takeCommand remapCommand p s)

end Sys2Proof.Machine
end

