-- ==== Sys2Proof/Machine/Faces.lean ====
section
/-! DEFINITION. Composition of faces (R147), the placeholder fields (R148) and the face checksum
(R150). -/

namespace Sys2Proof.Machine

open Sys2Proof

/-! ## Placeholder fields (R148) -/

/-- The digit of a number below 10. -/
def digit (n : Nat) : Byte := byteOf (0x30 + n % 10)

/-- Decimal digits of a number below 1000, without leading zeros. -/
def digits (n : Nat) : List Byte :=
  if n < 10 then [digit n]
  else if n < 100 then [digit (n / 10), digit n]
  else [digit (n / 100), digit (n / 10), digit n]

/-- Padded with spaces on the left to five characters. -/
def rightAlign5 (l : List Byte) : List Byte := List.replicate (5 - l.length) space ++ l

/-- A value in tenths: minus sign, whole degrees, point, tenths. -/
def tenths (v : Int) : List Byte :=
  (if v < 0 then [0x2D#8] else []) ++ digits (v.natAbs / 10) ++ [0x2E#8, digit (v.natAbs % 10)]

/-- The unavailable form " --.-". -/
def unavailable : List Byte := [0x20#8, 0x2D#8, 0x2D#8, 0x2E#8, 0x2D#8]

/-- ^T: the effective value of the segment's Ts channel where it shows as a number. -/
def fieldT (s : State) (i : Nat) : List Byte :=
  match (imageSegment s.image i).ts with
  | none => unavailable
  | some c =>
    match effective s c with
    | some v => if (s.channel c).showsNumber then rightAlign5 (tenths v) else unavailable
    | none => unavailable

/-- The highest level among the zones of a segment's threatening-zone list; 0 for an empty list
(R3, R106). -/
def highestLevel (s : State) (i : Nat) : Nat :=
  (zoneList s.image i).foldl (fun m z => max m (s.zone z).level) 0

/-- ^L: that level's digit. -/
def fieldL (s : State) (i : Nat) : List Byte := [digit (highestLevel s i)]

/-- ^H: the closure stamp as hours and minutes. -/
def fieldH (s : State) (i : Nat) : List Byte :=
  match (s.seg i).stamp with
  | .taken t =>
    [digit (t.hours / 10), digit t.hours, 0x3A#8, digit (t.minutes / 10), digit t.minutes]
  | .absent | .unset => [0x2D#8, 0x2D#8, 0x3A#8, 0x2D#8, 0x2D#8]

/-- The field of a placeholder letter, or none where the letter is no placeholder's. -/
def fieldOf (s : State) (i : Nat) (letter : Byte) : Option (List Byte) :=
  if letter = 0x54#8 then some (fieldT s i)
  else if letter = 0x4C#8 then some (fieldL s i)
  else if letter = 0x48#8 then some (fieldH s i)
  else none

/-! ## Composition (R147) -/

/-- The characters of one line with its placeholders replaced. -/
def fillLine (f : Byte → Option (List Byte)) : List Byte → List Byte
  | [] => []
  | [c] => [c]
  | c :: d :: r =>
    if c = 0x5E#8 then
      match f d with
      | some x => x ++ fillLine f r
      | none => c :: fillLine f (d :: r)
    else c :: fillLine f (d :: r)

/-- One of the three lines of a text of sixty characters. -/
def lineOf (text : List Byte) (k : Nat) : List Byte := (text.drop (20 * k)).take 20

/-- The face of a message with the values of a segment. -/
def fillMessage (s : State) (i : Nat) (m : Message) : Message :=
  { text := (List.range 3).flatMap fun k => fitLine (fillLine (fieldOf s i) (lineOf m.text k)),
    picto := m.picto }

/-- The message of a slot, read from the library (R147, R155, R156). -/
def messageAt (s : State) (n : Nat) : Message :=
  if n < 96 then imageSlot s.image n
  else { text := (s.userSlot n).text, picto := (s.userSlot n).picto }

/-- The face of a sign: its winner's message, else its default message, else blank (R147). -/
def composeFace (s : State) (n : Nat) : Message :=
  let i := (imageSign s.image n).segment
  match (s.stack n).head? with
  | some d => fillMessage s i (messageAt s d.slot)
  | none =>
    match (imageSign s.image n).defaultMessage with
    | some k => fillMessage s i (messageAt s k)
    | none => blankMessage

/-- The checksum of a face: CRC-16 over its sixty characters and its pictogram (R150). -/
def faceChecksum (m : Message) : Half := crc16 (m.text ++ [byteOf m.picto])

end Sys2Proof.Machine
end

