-- ==== Sys2Proof/Machine/Signs.lean ====
section
/-! DEFINITION. The sign arbiter (chapter 08): changes at a stack with their consequences (R137–R139),
POST, WITHDRAW and WITHDRAW ALL (R140–R143), expiry (R144), internal deliveries (R145), link-loss
removal (R29), placeholder changes (R149), checksums (R150, R151), retargets (R152), beacons (R153). -/

namespace Sys2Proof.Machine

open Sys2Proof

/-! ## Faces in effect (R147, R149, R150) -/

/-- The placeholder re-render interval (R149). -/
def renderInterval : Nat := 60

/-- The carriage is of this sign's face. -/
def Carriage.ofFace (n : Nat) : Carriage → Bool
  | .face x => x == n
  | _ => false

/-- The carriage is of this sign's beacon pattern. -/
def Carriage.ofPattern (n : Nat) : Carriage → Bool
  | .pattern x => x == n
  | _ => false

/-- The output state of a sign whose face waits for its target's confirmation (R146). -/
def awaiting (o : SignOut) : OutState := if o.target.isSome then .pending else .dark

/-- An output record with a new face in effect and its transfer begun (R147, R150). -/
def newFace (o : SignOut) (m : Message) : SignOut :=
  { o with face := m, checksum := faceChecksum m, carried := false, mismatches := 0,
           output := awaiting o }

/-- A composition after start-up: a face that differs takes effect, and the re-render timer starts
afresh (R147, R149). -/
def composeAt (s : State) (n : Nat) : State :=
  let o := s.out n
  let m := composeFace s n
  if m = o.face then s.setOut n { o with timer := some renderInterval, owed := false }
  else (s.setOut n { newFace o m with timer := some renderInterval, owed := false }).recarry
    (Carriage.ofFace n)

/-- A SIGN notice of the sign as it stands (R139). -/
def signNotice (s : State) (n : Nat) (cause : SignCause) : State :=
  s.notify n (.sign (s.out n).output cause (winnerKey (s.stack n)))

/-- A re-render of R149: a SHOWN sign whose face changed is reported RECOMPOSED. -/
def rerender (s : State) (n : Nat) : State :=
  let t := composeAt s n
  if (s.out n).output == .shown && (t.out n).output == .pending then signNotice t n .recomposed else t

/-! ## Beacons (R153) -/

/-- The lamps of an output record as driven at an elapsed time; not driven, they are dark. -/
def litLamps (img : Image) (elapsed : Nat) (o : SignOut) : SignOut :=
  let l := if o.beaconDriven then lampsOf img elapsed o.beacon else (false, false)
  { o with lamp1 := l.1, lamp2 := l.2 }

/-- The pattern of a stack's winner; NONE for an empty stack. -/
def patternOf (st : List Demand) : Flash :=
  match st.head? with
  | some d => d.flash
  | none => .dark

/-- The beacon pattern follows the winner; a changed pattern is given to a driven station. -/
def followWinner (s : State) (n : Nat) : State :=
  let o := s.out n
  if patternOf (s.stack n) = o.beacon then s
  else (s.setOut n (litLamps s.image s.arbiter.elapsed
      { o with beacon := patternOf (s.stack n), beaconOwed := o.beaconDriven })).recarry
    (Carriage.ofPattern n)

/-! ## Changes at a stack (R139) -/

/-- The winner has changed: face, beacon pattern and SIGN notice. -/
def winnerChange (s : State) (n : Nat) (cause : SignCause) : State :=
  signNotice (followWinner (composeAt s n) n) n cause

/-- A demand joins a stack: its user slot's count rises (R156). -/
def joinSlot (s : State) (slot : Nat) : State :=
  if slot < 96 then s else s.setSlot slot { s.userSlot slot with refs := (s.userSlot slot).refs + 1 }

/-- A demand leaves a stack: its user slot's count falls (R156). -/
def leaveSlot (s : State) (slot : Nat) : State :=
  if slot < 96 then s else s.setSlot slot { s.userSlot slot with refs := (s.userSlot slot).refs - 1 }

/-- The stack holding a demand in its place, an earlier one with its key replaced (R137). -/
def placed (st : List Demand) (d : Demand) : List Demand := insertDemand d (withoutKeys (· == d.key) st)

/-- A placement or replacement makes the winner another demand: the new demand is the winner, or it
replaces the winner (R139). -/
def placementWins (st : List Demand) (d : Demand) : Bool :=
  winnerKey (placed st d) == some d.key || winnerKey st == some d.key

/-- A placement or replacement at one stack with its consequences (R138, R139). -/
def placeDemand (s : State) (n : Nat) (d : Demand) (cause : SignCause) : State :=
  let d : Demand := { d with arrival := s.arbiter.arrival }
  let st := s.stack n
  let t := joinSlot ((s.setArrival (s.arbiter.arrival + 1)).setStack n (placed st d)) d.slot
  let t := (st.filter fun x => x.key == d.key).foldl (fun t x => leaveSlot t x.slot) t
  if placementWins st d then winnerChange t n cause else t

/-- The removal of every demand whose key satisfies `p` at one stack with its consequences (R139). Several
tags of one source leave together, and the winner is selected and the face composed once: one event sends
at most one SIGN notice for a sign (R139, R143; the single composition is the model's choice, log 32). -/
def removeDemands (s : State) (n : Nat) (p : DemandKey → Bool) (cause : SignCause) : State :=
  let st := s.stack n
  let t := s.setStack n (withoutKeys p st)
  let t := (st.filter fun x => p x.key).foldl (fun t x => leaveSlot t x.slot) t
  if winnerKey st == winnerKey (withoutKeys p st) then t else winnerChange t n cause

/-! ## Agent commands -/

/-- The demand a POST places (R140, R141); its serial is taken at each sign. -/
def postDemand (src : AgentSource) (a : PostArgs) : Demand :=
  { key := .agent src a.tag, slot := a.slot, severity := min a.severity (maxSeverity src),
    flash := a.flash, expiry := a.expiry, arrival := 0 }

/-- Some sign of the span lacks the key and holds four agent demands (R140). -/
def postFull (s : State) (k : DemandKey) (signs : List Nat) : Bool :=
  signs.any fun n => !hasKey k (s.stack n) && 4 ≤ agentCount (s.stack n)

/-- How many signs of a span hold the key. -/
def countKey (s : State) (k : DemandKey) (signs : List Nat) : Nat :=
  (signs.filter fun n => hasKey k (s.stack n)).length

/-- The object condition and action of POST (R140, R141). -/
def runPost (s : State) (p : Nat) (a : PostArgs) : Verdict :=
  let d := postDemand (agentOf s p) a
  let signs := spanSigns a.first a.count
  if postFull s d.key signs then refuse s .full
  else
    { code := .done,
      data := [byteOf d.severity, byteOf (a.count - countKey s d.key signs),
        byteOf (countKey s d.key signs)],
      state := signs.foldl (fun t n => placeDemand t n d .post) s }

/-- POST (R140). -/
def postCommand : Command PostArgs where
  kind := .post
  parse := argsPost
  reach s a := spanSegments s.image a.first a.count
  held s a := spanSegments s.image a.first a.count
  run := runPost

/-- POST (R140). -/
def execPost (p : Nat) (s : State) : Host.Outcome State Fault Refusal :=
  onObject (portOk p) (takeCommand postCommand p s)

/-- The action of WITHDRAW (R142). -/
def runWithdraw (s : State) (p : Nat) (a : Nat × Nat × Nat) : Verdict :=
  let k := DemandKey.agent (agentOf s p) a.2.2
  let signs := spanSigns a.1 a.2.1
  { code := .done, data := [byteOf (countKey s k signs)],
    state := signs.foldl (fun t n => removeDemands t n (· == k) .withdraw) s }

/-- WITHDRAW (R142). -/
def withdrawCommand : Command (Nat × Nat × Nat) where
  kind := .withdraw
  parse _ := argsWithdraw
  reach s a := spanSegments s.image a.1 a.2.1
  held s a := spanSegments s.image a.1 a.2.1
  run := runWithdraw

/-- WITHDRAW (R142). -/
def execWithdraw (p : Nat) (s : State) : Host.Outcome State Fault Refusal :=
  onObject (portOk p) (takeCommand withdrawCommand p s)

/-- Every demand of a source leaves every stack, in ascending sign index (R29, R143). -/
def removeSource (s : State) (src : AgentSource) (cause : SignCause) : State :=
  (List.range 24).foldl (fun t n => removeDemands t n (DemandKey.ofSource src) cause) s

/-- How many demands of a source stand in the stacks. -/
def countSource (s : State) (src : AgentSource) : Nat :=
  ((List.range 24).flatMap fun n => (s.stack n).filter fun d => d.key.ofSource src).length

/-- The action of WITHDRAW ALL (R143). -/
def runWithdrawAll (s : State) (p : Nat) (_ : Unit) : Verdict :=
  { code := .done, data := [byteOf (countSource s (agentOf s p))],
    state := removeSource s (agentOf s p) .withdraw }

/-- WITHDRAW ALL (R143): it reaches all twelve segments and is not subject to holds. -/
def withdrawAllCommand : Command Unit where
  kind := .withdrawAll
  parse _ := argsNone
  reach _ _ := List.range 12
  held := noSegments
  run := runWithdrawAll

/-- WITHDRAW ALL (R143). -/
def execWithdrawAll (p : Nat) (s : State) : Host.Outcome State Fault Refusal :=
  onObject (portOk p) (takeCommand withdrawAllCommand p s)

/-! ## Removals and deliveries -/

/-- LINK_LOSS_REMOVAL (R29): every demand of the source that stands when the removal is taken, one too
that was posted after a PRESENCE taken before the waiting removal (the model's choice, log 31). -/
def execLinkLossRemoval (src : AgentSource) (s : State) : Host.Outcome State Fault Refusal :=
  .next (removeSource (s.taking (.linkLossRemoval src)) src .linkLoss)

/-- The demand's expiry has reached 0. -/
def expired (st : List Demand) (k : DemandKey) : Bool :=
  st.any fun d => d.key == k && due d.expiry

/-- DEMAND_EXPIRY (R144). -/
def execDemandExpiry (n : Nat) (src : AgentSource) (tag : Nat) (s : State) :
    Host.Outcome State Fault Refusal :=
  onObject (signOk n && tagOk tag)
    (if expired (s.stack n) (.agent src tag) then
      removeDemands s n (· == .agent src tag) .expiry else s)

/-- An internal demand of a delivery's content (R136, R145). -/
def internalDemand (t : Topic) (c : DemandContent) : Demand :=
  { key := .internal t, slot := c.slot, severity := c.severity, flash := c.flash, expiry := none,
    arrival := 0 }

/-- A delivery executed at its sign (R145). -/
def deliverDemand (s : State) (n : Nat) (t : Topic) : Option DemandContent → State
  | some c => placeDemand s n (internalDemand t c) (topicCause t)
  | none => removeDemands s n (· == .internal t) (topicCause t)

/-- The content of a delivery, where it has one, names a stored slot and a severity of R136. -/
def contentOk : Option DemandContent → Bool
  | some c => c.ok
  | none => true

/-- INTERNAL_DELIVERY (R145). -/
def execInternalDelivery (n : Nat) (t : Topic) (c : Option DemandContent) (s : State) :
    Host.Outcome State Fault Refusal :=
  onObject (signOk n && contentOk c) (deliverDemand (s.taking (.internalDelivery n t c)) n t c)

/-! ## Placeholder changes (R149) -/

/-- A placeholder change at a sign. -/
def placeholderAt (s : State) (n : Nat) : State :=
  if (s.out n).timer.isNone then rerender s n else s.setOut n { s.out n with owed := true }

/-- PLACEHOLDER_CHANGE (R149). -/
def execPlaceholderChange (n : Nat) (s : State) : Host.Outcome State Fault Refusal :=
  onObject (signOk n) (placeholderAt (s.taking (.placeholderChange n)) n)

/-- RE_RENDER_TIMER_EXPIRY (R149). -/
def execReRenderTimerExpiry (n : Nat) (s : State) : Host.Outcome State Fault Refusal :=
  onObject (signOk n)
    (if due (s.out n).timer then
      if (s.out n).owed then rerender s n else s.setOut n { s.out n with timer := none }
     else s)

/-! ## Checksums and retargets (R150–R152) -/

/-- The sign whose target a station is, as the sign arbiter was last told. -/
def signOfTarget (s : State) (x : Nat) : Option Nat :=
  (List.range 24).find? fun n => (s.out n).target == some x

/-- A matching checksum (R150). -/
def confirmAt (s : State) (n : Nat) : State :=
  let o := s.out n
  let t := s.setOut n { o with mismatches := 0, output := if o.output == .pending then .shown else o.output }
  if o.output == .pending then signNotice t n .confirmed else t

/-- A differing checksum (R151). -/
def mismatchAt (s : State) (n x : Nat) : State :=
  let o := s.out n
  if o.mismatches < 2 then
    let t := s.setOut n { o with mismatches := o.mismatches + 1, carried := false, output := awaiting o }
    if o.output == .shown then signNotice t n .mismatch else t
  else (s.setOut n { o with mismatches := 0 }).deliver [.faceCheckFailure x]

/-- A checksum taken at the sign whose target the station is; while carried is no it is not compared
(R150). -/
def checksumAt (s : State) (x : Nat) (v : Half) : State :=
  match signOfTarget s x with
  | none => s
  | some n =>
    if (s.out n).carried then
      if v = (s.out n).checksum then confirmAt s n else mismatchAt s n x
    else s

/-- CHECKSUM (R150). -/
def execChecksum (x : Nat) (v : Half) (s : State) : Host.Outcome State Fault Refusal :=
  onObject (stationOk x) (checksumAt (s.taking (.checksum x v)) x v)

/-- The retarget leaves a station that is no sign's target in the placement table, and still ACTIVE as
last told, without its sign (R12). -/
def leavesBlank (s : State) (previous new : Option Nat) : Option Nat :=
  match previous with
  | some y => if new != some y && targetless s y && s.panelUp y then some y else none
  | none => none

/-- A retarget at its sign (R152); the station it leaves without a sign is marked for blanking (R12,
log 26). -/
def retargetAt (s : State) (n : Nat) (previous new : Option Nat) : State :=
  let o : SignOut := { s.out n with target := new, carried := false, mismatches := 0 }
  let t := (s.setOut n { o with output := awaiting o }).recarry (Carriage.ofFace n)
  let t := match leavesBlank s previous new with
    | some y => t.setStation y { t.station y with blankOwed := true }
    | none => t
  signNotice t n .retarget

/-- RETARGET (R152). -/
def execRetarget (n : Nat) (previous new : Option Nat) (s : State) : Host.Outcome State Fault Refusal :=
  onObject (signOk n && optOk stationOk previous && optOk stationOk new)
    (retargetAt (s.taking (.retarget n previous new)) n previous new)

/-- The retarget events that wait at the sign arbiter are taken, oldest first. -/
def takeRetargets (s : State) : State :=
  s.deliveries.foldl (fun t c => match c with
    | .retarget n previous new => retargetAt (t.taking c) n previous new
    | _ => t) s

/-! ## Beacon stations and flash timing (R153) -/

/-- The sign's pattern is given to its beacon station, which has entered ACTIVE (R153). -/
def beaconEntered (s : State) (x : Nat) : State :=
  match signOfBeacon s.image x with
  | some n => s.setOut n (litLamps s.image s.arbiter.elapsed
      { s.out n with beaconDriven := true, beaconOwed := true })
  | none => s

/-- BEACON_STATION_ENTRY (R153). -/
def execBeaconStationEntry (x : Nat) (s : State) : Host.Outcome State Fault Refusal :=
  onObject (stationOk x) (beaconEntered (s.taking (.beaconStationEntry x)) x)

/-- The lamps of a beacon station that has left ACTIVE are not driven (R153). -/
def beaconLeft (s : State) (x : Nat) : State :=
  match signOfBeacon s.image x with
  | some n => s.setOut n { s.out n with beaconDriven := false, beaconOwed := false,
                                        lamp1 := false, lamp2 := false }
  | none => s

/-- BEACON_STATION_DEPARTURE (R153). -/
def execBeaconStationDeparture (x : Nat) (s : State) : Host.Outcome State Fault Refusal :=
  onObject (stationOk x) (beaconLeft (s.taking (.beaconStationDeparture x)) x)

/-- BEACON_FLASH_TIMING (R153): the next boundary within the flash period is reached (log 23). -/
def execBeaconFlashTiming (s : State) : Host.Outcome State Fault Refusal :=
  let e := nextBoundary s.image s.arbiter.elapsed
  .next { s with arbiter := { s.arbiter with elapsed := e,
                                             outputs := s.arbiter.outputs.map (litLamps s.image e) } }

end Sys2Proof.Machine
end

