-- ==== Sys2Proof/Machine/Zones.lean ====
section
/-! DEFINITION. The zone monitor (chapter 05): debounce of the trip lines (R90–R93), firing and
tripping (R94, R95), SET LEVEL, BEGIN SWEEP and ZONE CLEAR (R96–R99), permits (R100–R102), the
deciding zone and its demands (R103–R106) and ZONE notices (R107). -/

namespace Sys2Proof.Machine

open Sys2Proof

/-! ## Notices and demands -/

/-- A ZONE notice of the zone as it stands (R107). -/
def zoneNotice (s : State) (z : Nat) (cause : ZoneCause) (line : Option (Nat × LineState))
    (bypassed : Option Nat) : State :=
  s.notify z (.zone (s.zone z).state cause (s.zone z).level (s.zone z).degraded line bypassed)

/-- The segments a zone threatens, in the order of its entry (R3). -/
def threatened (s : State) (z : Nat) : List Nat := (imageZone s.image z).threatened

/-- The ZON:ZONE deliveries of a segment for a deciding zone or none (R104, R105). -/
def zoneDeliveries (s : State) (i : Nat) (d : Option Deciding) : List Instr :=
  (signList s.image i).map fun n => Instr.internalDelivery n .zone (d.map (zoneContent s.image))

/-- The deciding zone of one segment determined afresh and compared with the last delivered
(R104); the deliveries are collected. -/
def redecideSegment (r : State × List Instr) (i : Nat) : State × List Instr :=
  let d := decidingZone r.1 i
  if r.1.shownZone i = d then r else (r.1.setShown i d, r.2 ++ zoneDeliveries r.1 i d)

/-- The deciding zone of every threatened segment determined afresh (R103, R104), the deliveries
given in ascending sign index (R138). -/
def redecide (s : State) (z : Nat) : State :=
  let r := (threatened s z).foldl redecideSegment (s, [])
  r.1.deliver (bySign r.2)

/-- The zone enters a state; its demands are decided again (R104). -/
def zoneEnters (s : State) (z : Nat) (r : Zone) : State := redecide (s.setZone z r) z

/-! ## Firing and tripping (R94, R95) -/

/-- A line joins the fired list at its end, at most once (R87). -/
def fire (l : Nat) (r : Zone) : Zone := if r.fired.contains l then r else { r with fired := r.fired ++ [l] }

/-- A line becoming this state fires its zone (R94). -/
def fires (s : State) (z : Nat) : LineState → Bool
  | .fired | .cut => true
  | .unmonitored => (imageZone s.image z).failClosed
  | .normal | .bypassed => false

/-- The zone trips (R95). -/
def tripZone (s : State) (z l : Nat) (st : LineState) : State :=
  let t := (s.setZone z { fire l (s.zone z) with state := .tripped }).deliver
    ((threatened s z).map fun i => Instr.detectorEvent i z)
  zoneNotice (redecide t z) z .trip (some (l, st)) none

/-- A change of a line's state handed to its zone (R94). -/
def handToZone (s : State) (z l : Nat) (st : LineState) : State :=
  if fires s z st then
    match (s.zone z).state with
    | .quiet | .watch => tripZone s z l st
    | .tripped | .work => zoneNotice (s.setZone z (fire l (s.zone z))) z .line (some (l, st)) none
    | .sweep => zoneNotice s z .line (some (l, st)) none
  else zoneNotice s z .line (some (l, st)) none

/-- The degraded field derived again (R93). -/
def deriveDegraded (s : State) (z : Nat) : State :=
  s.setZone z { s.zone z with degraded := degradedNow s z }

/-- A line takes a state: no pending condition, and the change is handed to its zone (R90, R94). -/
def lineEnters (s : State) (l : Nat) (st : LineState) : State :=
  let t := s.setLine l { state := st, pending := none, confirm := 0 }
  match (imageLine s.image l).zone with
  | none => t
  | some z => handToZone (deriveDegraded t z) z l st

/-! ## Debounce (R90) -/

/-- The state a confirmed condition gives. -/
def stateOf : Condition → LineState
  | .quiet => .normal
  | .alarm => .fired
  | .openCircuit => .cut

/-- The reported condition differs from the line's present condition. -/
def differs : LineState → Condition → Bool
  | .normal, c => c != .quiet
  | .fired, c => c != .alarm
  | .cut, c => c != .openCircuit
  | .bypassed, c => c == .quiet
  | .unmonitored, _ => true

/-- One report at one line. -/
def lineReport (s : State) (l : Nat) (c : Condition) : State :=
  let r := s.line l
  if differs r.state c then
    let n := if r.pending = some c then r.confirm + 1 else 1
    if s.image.debounce ≤ n then lineEnters s l (stateOf c)
    else s.setLine l { r with pending := some c, confirm := n }
  else s.setLine l { r with pending := none, confirm := 0 }

/-- The condition of an input in a report. -/
def conditionAt (r : TripReport) : Nat → Condition
  | 0 => r.c0
  | 1 => r.c1
  | 2 => r.c2
  | _ => r.c3

/-- The input a fitted line is taken from (R88). -/
def inputOf (s : State) (l : Nat) : Nat := ((imageLine s.image l).place.map (·.2)).getD 0

/-- One report event of a station: every fitted line on it, in ascending input order (R90); the zone
demands of all the zones it reaches go in ascending sign index (R138). -/
def stationReport (s : State) (x : Nat) (r : TripReport) : State :=
  s.gathered
    ((stationLines s.image x).foldl (fun t l => lineReport t l (conditionAt r (inputOf s l))) s)

/-- TRIP_REPORT (R90). -/
def execTripReport (x : Nat) (r : TripReport) (s : State) : Host.Outcome State Fault Refusal :=
  onObject (stationOk x) (stationReport (s.taking (.tripReport x r)) x r)

/-- A line of a lost station (R91). -/
def lineLost (s : State) (l : Nat) : State :=
  if (s.line l).state == .unmonitored then s else lineEnters s l .unmonitored

/-- The loss of a TRIP station taken at its lines, in ascending input order (R91, R138). -/
def tripLost (s : State) (x : Nat) : State := s.gathered ((stationLines s.image x).foldl lineLost s)

/-- TRIP_STATION_LOST (R91). -/
def execTripStationLost (x : Nat) (s : State) : Host.Outcome State Fault Refusal :=
  onObject (stationOk x) (tripLost (s.taking (.tripStationLost x)) x)

/-- TRIP_STATION_RETURN (R92): the identification's conditions are the station's first report. -/
def execTripStationReturn (x : Nat) (r : TripReport) (s : State) : Host.Outcome State Fault Refusal :=
  onObject (stationOk x) (stationReport (s.taking (.tripStationReturn x r)) x r)

/-! ## Levels (R96, R106) -/

/-- The state after SET LEVEL (R96). -/
def levelled (s : State) (r : Zone) (v : Nat) : Zone :=
  match r.state with
  | .quiet | .watch => { r with level := v, state := stateOfLevel s v }
  | .tripped | .work | .sweep => { r with level := v }

/-- Placeholder changes for every sign of the threatened segments (R106, R149). -/
def levelDeliveries (s : State) (z : Nat) : List Instr :=
  (threatened s z).flatMap fun i => (signList s.image i).map Instr.placeholderChange

/-- The action of SET LEVEL (R96). -/
def runSetLevel (s : State) (_ : Nat) (a : Nat × Nat) : Verdict :=
  let old := s.zone a.1
  let new := levelled s old a.2
  let t :=
    if old = new then s
    else
      let u := zoneEnters s a.1 new
      let u := if old.level = new.level then u else u.deliver (levelDeliveries s a.1)
      zoneNotice u a.1 .level none none
  { code := .done, data := [byteOf new.level, new.state.code], state := t }

/-- SET LEVEL (R96). -/
def setLevelCommand : Command (Nat × Nat) where
  kind := .setLevel
  parse _ := argsLevel
  reach s a := threatened s a.1
  held := noSegments
  run := runSetLevel

/-- SET LEVEL (R96). -/
def execSetLevel (p : Nat) (s : State) : Host.Outcome State Fault Refusal :=
  onObject (portOk p) (takeCommand setLevelCommand p s)

/-! ## Sweep and clear (R97–R99) -/

/-- Lock starts for the threatened segments no other zone locks (R64, R97). -/
def lockDeliveries (s : State) (z : Nat) : List Instr :=
  ((threatened s z).filter fun i => !lockedByOther s z i).map Instr.lockStartEvent

/-- The object condition and action of BEGIN SWEEP (R97). -/
def runBeginSweep (s : State) (_ : Nat) (z : Nat) : Verdict :=
  if (s.zone z).state == .tripped then
    let t := (s.setZone z { s.zone z with state := .sweep }).deliver (lockDeliveries s z)
    { code := .done, data := [ZoneState.sweep.code],
      state := zoneNotice (redecide t z) z .sweep none none }
  else refuse s .state

/-- BEGIN SWEEP (R97). -/
def beginSweepCommand : Command Nat where
  kind := .beginSweep
  parse _ := argsIndex zoneOk
  reach := threatened
  held := noSegments
  run := runBeginSweep

/-- BEGIN SWEEP (R97). -/
def execBeginSweep (p : Nat) (s : State) : Host.Outcome State Fault Refusal :=
  onObject (portOk p) (takeCommand beginSweepCommand p s)

/-- The lines that refuse ZONE CLEAR without the bypass option, ascending (R98). -/
def badLines (s : State) (z : Nat) : List Nat :=
  (lineList s.image z).filter fun l => (s.line l).refusesClear

/-- The data of a LINE refusal: a count, then index and state of each line (R98, R176). -/
def lineData (s : State) (ls : List Nat) : List Byte :=
  byteOf ls.length :: ls.flatMap fun l => [byteOf l, (s.line l).state.code]

/-- A line bypassed (R98). -/
def bypass (s : State) (l : Nat) : State := s.setLine l { state := .bypassed, pending := none, confirm := 0 }

/-- Zone-clearance events for the threatened segments (R99). -/
def clearanceDeliveries (s : State) (z : Nat) : List Instr :=
  (threatened s z).map fun i => Instr.zoneClearanceEvent i z (!lockedByOther s z i)

/-- Lines in ascending input order; lines of one input, of different stations, in ascending line index
(R107, the tie the model's choice, log 24). -/
def byInput (s : State) (ls : List Nat) : List Nat :=
  (List.range 4).flatMap fun inp => ls.filter fun l => inputOf s l == inp

/-- The clearance with the lines `ls` bypassed first (R98, R99), their LINE notices in ascending input
order (R107). -/
def clearZone (s : State) (z : Nat) (ls : List Nat) : State :=
  let t := deriveDegraded (ls.foldl bypass s) z
  let r : Zone := { t.zone z with fired := [], state := stateOfLevel s (t.zone z).level }
  let t := redecide ((t.setZone z r).deliver (clearanceDeliveries s z)) z
  (byInput s ls).foldl (fun t l => zoneNotice t z .line (some (l, .bypassed)) none)
    (zoneNotice t z .cleared none (some ls.length))

/-- The object conditions and action of ZONE CLEAR (R98). -/
def runZoneClear (s : State) (_ : Nat) (a : Nat × Bool) : Verdict :=
  if (s.zone a.1).state != .sweep then refuse s .state
  else if !(badLines s a.1).isEmpty && !a.2 then
    { code := .line, data := lineData s (badLines s a.1), state := s }
  else
    let t := clearZone s a.1 (badLines s a.1)
    { code := .done, data := [byteOf (badLines s a.1).length, (t.zone a.1).state.code], state := t }

/-- ZONE CLEAR (R98). -/
def zoneClearCommand : Command (Nat × Bool) where
  kind := .zoneClear
  parse _ := argsZoneClear
  reach s a := threatened s a.1
  held := noSegments
  run := runZoneClear

/-- ZONE CLEAR (R98). -/
def execZoneClear (p : Nat) (s : State) : Host.Outcome State Fault Refusal :=
  onObject (portOk p) (takeCommand zoneClearCommand p s)

/-! ## Permits (R100–R102) -/

/-- The first threatened segment that is not CLOSED or has its barrier fault set (R100). -/
def notShut (s : State) (z : Nat) : Option Nat :=
  (threatened s z).find? fun i => (s.seg i).state != .closed || (s.seg i).barrierFault

/-- The lock start taken in the same event at each segment not already locked (R100). -/
def lockIfFree (s : State) (i : Nat) : State := if (s.seg i).zoneLock then s else lockStartAt s i

/-- A permit entered from QUIET, WATCH or TRIPPED, or renewed in WORK (R100, R101). -/
def grantPermit (s : State) (z minutes : Nat) : State :=
  let r : Zone := { s.zone z with state := .work, permit := some (60 * minutes) }
  if (s.zone z).state == .work then zoneNotice (s.setZone z r) z .permitRenewed none none
  else zoneNotice (zoneEnters ((threatened s z).foldl lockIfFree s) z r) z .permit none none

/-- The object conditions and action of PERMIT REQUEST (R100). -/
def runPermitRequest (s : State) (_ : Nat) (a : Nat × Nat) : Verdict :=
  if (s.zone a.1).state == .sweep then refuse s .state
  else match notShut s a.1 with
    | some i => { code := .state, data := [byteOf i], state := s }
    | none => { code := .done, data := [byteOf a.2], state := grantPermit s a.1 a.2 }

/-- PERMIT REQUEST (R100). -/
def permitRequestCommand : Command (Nat × Nat) where
  kind := .permitRequest
  parse _ := argsPermit
  reach s a := threatened s a.1
  held := noSegments
  run := runPermitRequest

/-- PERMIT REQUEST (R100). -/
def execPermitRequest (p : Nat) (s : State) : Host.Outcome State Fault Refusal :=
  onObject (portOk p) (takeCommand permitRequestCommand p s)

/-- The end of a permit (R102). -/
def endPermit (s : State) (z : Nat) (cause : ZoneCause) : State :=
  zoneNotice (zoneEnters s z { s.zone z with state := .sweep, permit := none }) z cause none none

/-- The object condition and action of PERMIT END (R102). -/
def runPermitEnd (s : State) (_ : Nat) (z : Nat) : Verdict :=
  if (s.zone z).state == .work then
    { code := .done, data := [ZoneState.sweep.code], state := endPermit s z .permitEnd }
  else refuse s .state

/-- PERMIT END (R102). -/
def permitEndCommand : Command Nat where
  kind := .permitEnd
  parse _ := argsIndex zoneOk
  reach := threatened
  held := noSegments
  run := runPermitEnd

/-- PERMIT END (R102). -/
def execPermitEnd (p : Nat) (s : State) : Host.Outcome State Fault Refusal :=
  onObject (portOk p) (takeCommand permitEndCommand p s)

/-- PERMIT_EXPIRY (R102). -/
def execPermitExpiry (z : Nat) (s : State) : Host.Outcome State Fault Refusal :=
  onObject (zoneOk z)
    (if (s.zone z).state == .work && due (s.zone z).permit then endPermit s z .permitExpiry else s)

end Sys2Proof.Machine
end

