-- ==== Sys2Proof/Machine/Field.lean ====
section
/-! DEFINITION. The field station manager (chapter 10): presence and power (R163), identification
(R164), the field bus and its polls (R165), faults (R166), entries to and departures from ACTIVE
(R167), the attention button and quiescing (R168), STATION OFF and RESTART (R169, R170). -/

namespace Sys2Proof.Machine

open Sys2Proof

/-! ## The field bus (R165) -/

/-- The order a poll carries to a gate station: STOP first (R71). -/
def gateCarriage (s : State) (g : Nat) : Carriage :=
  if (s.gate g).stopOwed then .stop g
  else if (s.gate g).driveOwed.isSome then .drive g
  else .nothing

/-- What a poll of an ACTIVE station carries (R165). -/
def carriageFor (s : State) (x : Nat) : Carriage :=
  match imageType s.image x with
  | .gate =>
    match gateOfStation s.image x with
    | some g => gateCarriage s g
    | none => .nothing
  | .sign =>
    match signOfTarget s x with
    | some n => if (s.out n).carried then .nothing else .face n
    | none => if (s.station x).blankOwed then .blank else .nothing
  | .beacon =>
    match signOfBeacon s.image x with
    | some n => if (s.out n).beaconOwed then .pattern n else .nothing
    | none => .nothing
  | .trip | .unused => .nothing

/-- What the quiescing exchange carries: the blank face to a SIGN station, the darkening of both lamps
to a BEACON station, and to every station the shutdown itself (R168). -/
def quiesceCarriage (img : Image) (x : Nat) : Carriage :=
  match imageType img x with
  | .sign => .blank
  | .beacon => .darken
  | .gate | .trip | .unused => .nothing

/-- The exchange a station of the round takes part in, by its state as it stands now. -/
def roundExchange (s : State) (x : Nat) : Option BusExchange :=
  match (s.station x).state with
  | .active => some { station := x, kind := .poll, carries := carriageFor s x }
  | .lost => some { station := x, kind := .poll, carries := .nothing }
  | .quiescing =>
    some { station := x, kind := .quiesce, carries := quiesceCarriage s.image x }
  | .absent | .powering | .identifying | .off | .faulted => none

/-- The next exchange of a round and what remains of the round; stations that are out of service by
now are passed over. -/
def nextOfRound (s : State) : List Nat → Option BusExchange × List Nat
  | [] => (none, [])
  | x :: xs =>
    match roundExchange s x with
    | some e => (some e, xs)
    | none => nextOfRound s xs

/-- The lowest station whose identification request is due; of requests that fell due at different moments
while the bus was busy the lowest address goes first too, the model's choice (log 33). -/
def identWaiting (s : State) : Option Nat :=
  (List.range 32).find? fun x => (s.station x).identDue && (s.station x).state == .identifying

/-- The free bus carries a due identification request first, then the round (R165). -/
def grantBus (s : State) : State :=
  match s.field.exchange with
  | some _ => s
  | none =>
    match identWaiting s with
    | some x =>
      let t := s.setStation x { s.station x with identDue := false }
      t.setField { t.field with exchange := some { station := x, kind := .ident, carries := .nothing } }
    | none =>
      let r := nextOfRound s s.field.round
      s.setField { s.field with exchange := r.1, round := r.2 }

/-- The exchange in progress ends, and the bus is granted again. -/
def endBus (s : State) : State := grantBus (s.setField { s.field with exchange := none })

/-- The exchange of a station is abandoned (R163, R166). -/
def abandonBus (s : State) (x : Nat) : State :=
  match s.field.exchange with
  | some e => if e.station = x then s.setField { s.field with exchange := none } else s
  | none => s

/-- The exchange in progress is of this kind with this station. -/
def onBus (s : State) (x : Nat) (k : BusKind) : Bool :=
  match s.field.exchange with
  | some e => e.station == x && e.kind == k
  | none => false

/-! ## Changes of state (R162, R167, R171) -/

/-- A STATION notice of the station as it stands (R171). -/
def stationNotice (s : State) (x : Nat) (cause : StationCause) : State :=
  s.notify x (.station (s.station x).state cause (s.station x).cause)

/-- A station enters a state: power and indicator by the table of chapter 10, and the notice. -/
def enterStation (s : State) (x : Nat) (r : Station) (st : StationState) (cause : StationCause) : State :=
  stationNotice (s.setStation x { r with state := st, power := st.power, indicator := st.indicator })
    x cause

/-- What a departure from ACTIVE delivers (R167). -/
def departureEvents (s : State) (x : Nat) : List Instr :=
  match imageType s.image x with
  | .sign => [.placementDeparture x]
  | .gate => match gateOfStation s.image x with
    | some g => [.gateStationLost g]
    | none => []
  | .trip => [.tripStationLost x]
  | .beacon => [.beaconStationDeparture x]
  | .unused => []

/-- What an entry to ACTIVE delivers (R167). -/
def entryEvents (s : State) (x : Nat) : ModuleReport → List Instr
  | .sign => [.placementEntry x]
  | .gate r => match gateOfStation s.image x with
    | some g => [.gateStationReturn g r]
    | none => []
  | .trip r => [.tripStationReturn x r]
  | .beacon => [.beaconStationEntry x]

/-- The departure of a station that is ACTIVE; of another, nothing. -/
def departing (s : State) (x : Nat) : List Instr :=
  if (s.station x).state == .active then departureEvents s x else []

/-- The first drop of what remains of the start-up sequence enters POWERING (R163). -/
def powerFirst (s : State) : State :=
  match s.field.startSeq with
  | x :: _ =>
    if (s.station x).state == .absent then enterStation s x (s.station x) .powering .presenceClosed else s
  | [] => s

/-- A drop has left POWERING: the next drop of the start-up sequence enters it (R163). -/
def advanceSeq (s : State) (x : Nat) : State :=
  match s.field.startSeq with
  | y :: ys => if y = x then powerFirst (s.setField { s.field with startSeq := ys }) else s
  | [] => s

/-- `advanceSeq` where the station was in POWERING. -/
def leftPowering (was : StationState) (s : State) (x : Nat) : State :=
  if was == .powering then advanceSeq s x else s

/-- A station's record on leaving service for ABSENT or FAULTED: limits, exchanges and everything not
yet carried are gone (R163, R165, R166). -/
def outOfService (r : Station) (cause : Option StationFault) : Station :=
  { r with cause := cause, missed := 0, quiesceTries := 0, lostWait := 0, identDue := false,
           blankOwed := false }

/-- A station enters FAULTED (R166). -/
def faultStation (s : State) (x : Nat) (f : StationFault) (cause : StationCause) : State :=
  let was := (s.station x).state
  let t := enterStation s x (outOfService (s.station x) (some f)) .faulted cause
  let t := leftPowering was (t.deliver (departing s x)) x
  grantBus (abandonBus t x)

/-- A station enters POWERING (R163, R168, R170). -/
def powerStation (s : State) (x : Nat) (cause : StationCause) : State :=
  enterStation s x { s.station x with cause := none } .powering cause

/-- An event of the station's role that waits at the role's owner is taken there; another event waits on. At
a gate a return is only recorded, and a report waits on: the station is out of service when it is taken, and
a gate whose station is not ACTIVE takes no report (log 35). -/
def takeRole (x : Nat) (s : State) (c : Instr) : State :=
  match c with
  | .placementEntry y => if y = x then placementEntered (s.taking c) x else s
  | .placementDeparture y => if y = x then placementLeft (s.taking c) x else s
  | .gateStationReturn g r =>
    if gateOfStation s.image x = some g then gateRecorded (s.taking c) g r else s
  | .gateStationLost g => if gateOfStation s.image x = some g then gateLost (s.taking c) g else s
  | .tripReport y r | .tripStationReturn y r =>
    if y = x then stationReport (s.taking c) x r else s
  | .tripStationLost y => if y = x then tripLost (s.taking c) x else s
  | .beaconStationEntry y => if y = x then beaconEntered (s.taking c) x else s
  | .beaconStationDeparture y => if y = x then beaconLeft (s.taking c) x else s
  | _ => s

/-- The owner of the station's role takes what the field station manager has given it of the station and
it has not taken yet, oldest first (log 35). -/
def roleTaken (s : State) (x : Nat) : State := s.deliveries.foldl (takeRole x) s

/-- The departure of a station taken at once by the owner of its role (R167, R168): the retargets that
it causes are taken in the same event, behind those that wait. -/
def departAtOnce (s : State) (x : Nat) : State :=
  match imageType s.image x with
  | .sign => takeRetargets (placementLeft s x)
  | .gate => match gateOfStation s.image x with
    | some g => gateLost s g
    | none => s
  | .trip => tripLost s x
  | .beacon => beaconLeft s x
  | .unused => s

/-- A station whose role's owner has taken what waited enters QUIESCING, a departure that is delivered at
once: the role is moved away while the module is still powered (R9, R82, R91, R168, log 35). -/
def quiesceStation (s : State) (x : Nat) (cause : StationCause) : State :=
  departAtOnce
    (enterStation s x { s.station x with quiesceTries := 0, blankOwed := false } .quiescing cause) x

/-! ## Presence and the start-up sequence (R163) -/

/-- STARTUP_SEQUENCE_BEGIN (R163). -/
def execStartupSequenceBegin (s : State) : Host.Outcome State Fault Refusal :=
  .next (powerFirst (s.taking .startupSequenceBegin))

/-- A contact has closed: an ABSENT drop that is not NONE enters POWERING (R163). -/
def contactCloses (s : State) (x : Nat) : State :=
  let t := s.setStation x { s.station x with contactClosed := true }
  if imageType s.image x != .unused && (s.station x).state == .absent then
    powerStation t x .presenceClosed else t

/-- PRESENCE_CONTACT_CLOSES (R163). -/
def execPresenceContactCloses (x : Nat) (s : State) : Host.Outcome State Fault Refusal :=
  onObject (stationOk x) (if (s.station x).contactClosed then s else contactCloses s x)

/-- A contact has opened (R163). -/
def contactOpens (s : State) (x : Nat) : State :=
  let r : Station := { s.station x with contactClosed := false }
  if r.state == .absent then
    let t := s.setStation x r
    t.setField { t.field with startSeq := t.field.startSeq.filter (· != x) }
  else
    let t := enterStation s x (outOfService r none) .absent .presenceOpened
    let t := leftPowering r.state (t.deliver (departing s x)) x
    grantBus (abandonBus t x)

/-- PRESENCE_CONTACT_OPENS (R163). -/
def execPresenceContactOpens (x : Nat) (s : State) : Host.Outcome State Fault Refusal :=
  onObject (stationOk x) (if (s.station x).contactClosed then contactOpens s x else s)

/-! ## Identification (R164) -/

/-- POWER_SETTLE_EXPIRY (R164). -/
def execPowerSettleExpiry (x : Nat) (s : State) : Host.Outcome State Fault Refusal :=
  onObject (stationOk x)
    (if (s.station x).state == .powering then
      advanceSeq (enterStation s x { s.station x with identDue := false } .identifying .settled) x
     else s)

/-- IDENT_REQUEST (R164, R165): a request falls due and is sent as soon as the bus is free. One mark is
kept: a request that falls due while an earlier one of the station still waits is the same request, the
model's choice (log 33). -/
def execIdentRequest (x : Nat) (s : State) : Host.Outcome State Fault Refusal :=
  onObject (stationOk x)
    (if (s.station x).state == .identifying then
      grantBus (s.setStation x { s.station x with identDue := true }) else s)

/-- An identification report taken (R164). -/
def identify (s : State) (x : Nat) (m : ModuleReport) (serial : Word) : State :=
  let r : Station := { s.station x with
    serial := some serial, identDue := false, missed := 0, blankOwed := false }
  if moduleType m = imageType s.image x then
    endBus ((enterStation s x r .active .identified).deliver (entryEvents s x m))
  else faultStation (s.setStation x r) x .typeMismatch .typeMismatch

/-- IDENTIFICATION_REPORT (R164): an answer outside an identification exchange is discarded. -/
def execIdentificationReport (x : Nat) (m : ModuleReport) (serial : Word) (s : State) :
    Host.Outcome State Fault Refusal :=
  onObject (stationOk x)
    (if onBus s x .ident && (s.station x).state == .identifying then identify s x m serial else s)

/-- IDENT_TIMEOUT (R164). -/
def execIdentTimeout (x : Nat) (s : State) : Host.Outcome State Fault Refusal :=
  onObject (stationOk x)
    (if (s.station x).state == .identifying then faultStation s x .identTimeout .identTimeout else s)

/-! ## Polls (R165) -/

/-- A LOST station one round on: polled at 0, then in every fifth round (R165). -/
def countLost (r : Station) : Station :=
  if r.state == .lost then { r with lostWait := if r.lostWait ≤ 1 then 5 else r.lostWait - 1 } else r

/-- A station takes part in the round that begins. -/
def inRound (r : Station) : Bool :=
  r.state == .active || r.state == .quiescing || (r.state == .lost && r.lostWait ≤ 1)

/-- An exchange of the round in progress. -/
def roundRuns (s : State) : Bool :=
  !s.field.round.isEmpty ||
  match s.field.exchange with
  | some e => e.kind != .ident
  | none => false

/-- A poll round begins (R165). -/
def beginRound (s : State) : State :=
  grantBus (s.setField { s.field with
    stations := s.field.stations.map countLost,
    round := (List.range 32).filter fun x => inRound (s.station x),
    roundsDue := s.field.roundsDue - 1 })

/-- POLL_ROUND (R165): the round of a second boundary begins when the round before has ended. -/
def execPollRound (s : State) : Host.Outcome State Fault Refusal :=
  .next (if s.field.roundsDue = 0 || roundRuns s then s else beginRound s)

/-- What an exchange carried is carried once the exchange is answered (R71, R150, R152, R153, R168). -/
def carriedNow (s : State) (x : Nat) : Carriage → State
  | .nothing => s
  | .stop g => s.setGate g { s.gate g with stopOwed := false }
  | .drive g => s.setGate g { s.gate g with driveOwed := none }
  | .face n => s.setOut n { s.out n with carried := true }
  | .blank => s.setStation x { s.station x with blankOwed := false }
  | .pattern n => s.setOut n { s.out n with beaconOwed := false }
  | .darken => match signOfBeacon s.image x with
    | some n => s.setOut n { s.out n with lamp1 := false, lamp2 := false }
    | none => s

/-- What the exchange in progress carries. -/
def carrying (s : State) : Carriage :=
  match s.field.exchange with
  | some e => e.carries
  | none => .nothing

/-- The delivery of an answer to the owner of the station's role (R165). -/
def answerEvents (s : State) (x : Nat) : PollAnswer → List Instr
  | .gate r => match gateOfStation s.image x with
    | some g => [.gateReport g r]
    | none => []
  | .trip r => [.tripReport x r]
  | .sign v => [.checksum x v]
  | .beacon => []

/-- A LOST station answered: it is identified afresh (R165). -/
def lostAnswers (s : State) (x : Nat) : State :=
  endBus (enterStation s x { s.station x with identDue := false, lostWait := 0 } .identifying .reply)

/-- An ACTIVE station answered its poll (R165). -/
def activeAnswers (s : State) (x : Nat) (a : PollAnswer) : State :=
  let t := s.setStation x { s.station x with missed := 0 }
  endBus ((carriedNow t x (carrying s)).deliver (answerEvents s x a))

/-- An answer to the poll in progress, by the station's state (log 16). -/
def pollAnswer (s : State) (x : Nat) (a : PollAnswer) : State :=
  match (s.station x).state with
  | .active => if answerType a = imageType s.image x then activeAnswers s x a else s
  | .lost => lostAnswers s x
  | .absent | .powering | .identifying | .quiescing | .off | .faulted => endBus s

/-- POLL_ANSWERED (R165). -/
def execPollAnswered (x : Nat) (a : PollAnswer) (s : State) : Host.Outcome State Fault Refusal :=
  onObject (stationOk x) (if onBus s x .poll then pollAnswer s x a else s)

/-- An ACTIVE station missed a poll: LOST at the third in succession (R165). -/
def activeMisses (s : State) (x : Nat) : State :=
  let r := s.station x
  if r.missed < 2 then s.setStation x { r with missed := r.missed + 1 }
  else (enterStation s x { outOfService r none with lostWait := 5 + s.field.roundsDue } .lost
    .noReply).deliver (departureEvents s x)

/-- POLL_UNANSWERED (R165): the reply limit of a poll, or of an identification request, runs out. -/
def execPollUnanswered (x : Nat) (s : State) : Host.Outcome State Fault Refusal :=
  onObject (stationOk x)
    (if onBus s x .poll then
      endBus (if (s.station x).state == .active then activeMisses s x else s)
     else if onBus s x .ident then endBus s
     else s)

/-- LOST_STATION_REPLY (R165). -/
def execLostStationReply (x : Nat) (s : State) : Host.Outcome State Fault Refusal :=
  onObject (stationOk x)
    (if onBus s x .poll && (s.station x).state == .lost then lostAnswers s x else s)

/-! ## Faults (R166) -/

/-- OVER_CURRENT_TRIP (R166): disregarded at an unpowered drop. -/
def execOverCurrentTrip (x : Nat) (s : State) : Host.Outcome State Fault Refusal :=
  onObject (stationOk x)
    (if (s.station x).power then faultStation s x .powerFault .powerFault else s)

/-- FACE_CHECK_FAILURE (R166): disregarded when the station is no longer ACTIVE. -/
def execFaceCheckFailure (x : Nat) (s : State) : Host.Outcome State Fault Refusal :=
  let t := s.taking (.faceCheckFailure x)
  onObject (stationOk x)
    (if (t.station x).state == .active then faultStation t x .faceCheck .faceCheck else t)

/-! ## The attention button and quiescing (R168) -/

/-- The station drives a gate in motion (R82, R168). -/
def drivesMoving (s : State) (x : Nat) : Bool :=
  match gateOfStation s.image x with
  | some g => (s.gate g).moving
  | none => false

/-- A press of the attention button, by the station's state (R168); the gate controller answers the question
of the gate's motion by the gate as it stands when the press is taken (R82). -/
def press (s : State) (x : Nat) : State :=
  match (s.station x).state with
  | .active =>
    if drivesMoving s x then
      stationNotice (s.setStation x { s.station x with indicator := .blink }) x .attentionRefused
    else quiesceStation (roleTaken s x) x .attention
  | .off => powerStation s x .attention
  | .absent | .powering | .identifying | .lost | .quiescing | .faulted => s

/-- ATTENTION_BUTTON (R168). -/
def execAttentionButton (x : Nat) (s : State) : Host.Outcome State Fault Refusal :=
  onObject (stationOk x) (press s x)

/-- REFUSAL_BLINK_END (R168): the indicator of an ACTIVE station returns to STEADY. -/
def execRefusalBlinkEnd (x : Nat) (s : State) : Host.Outcome State Fault Refusal :=
  onObject (stationOk x)
    (if (s.station x).state == .active then
      s.setStation x { s.station x with indicator := .steady } else s)

/-- A station enters OFF at the end of its quiescing exchange (R168). -/
def switchOff (s : State) (x : Nat) : State := endBus (enterStation s x (s.station x) .off .quiesced)

/-- QUIESCING_EXCHANGE_ANSWERED (R168). -/
def execQuiescingExchangeAnswered (x : Nat) (s : State) : Host.Outcome State Fault Refusal :=
  onObject (stationOk x)
    (if onBus s x .quiesce && (s.station x).state == .quiescing then
      switchOff (carriedNow s x (carrying s)) x else s)

/-- A quiescing exchange went unanswered: OFF after the third round (R168). -/
def quiesceMisses (s : State) (x : Nat) : State :=
  let r := s.station x
  if r.quiesceTries < 2 then endBus (s.setStation x { r with quiesceTries := r.quiesceTries + 1 })
  else switchOff s x

/-- QUIESCING_EXCHANGE_UNANSWERED (R168). -/
def execQuiescingExchangeUnanswered (x : Nat) (s : State) : Host.Outcome State Fault Refusal :=
  onObject (stationOk x)
    (if onBus s x .quiesce && (s.station x).state == .quiescing then quiesceMisses s x else s)

/-! ## Commands (R169, R170) -/

/-- The object conditions and action of STATION OFF (R169); the gate's motion is judged by the gate as it
stands (R82). -/
def runStationOff (s : State) (_ : Nat) (x : Nat) : Verdict :=
  if (s.station x).state != .active || drivesMoving s x then refuse s .state
  else { code := .done, data := [StationState.quiescing.code],
         state := quiesceStation (roleTaken s x) x .stationOff }

/-- STATION OFF (R169). -/
def stationOffCommand : Command Nat where
  kind := .stationOff
  parse _ := argsIndex stationOk
  reach := noSegments
  held := noSegments
  run := runStationOff

/-- STATION OFF (R169). -/
def execStationOff (p : Nat) (s : State) : Host.Outcome State Fault Refusal :=
  onObject (portOk p) (takeCommand stationOffCommand p s)

/-- The object condition and action of STATION RESTART (R170). -/
def runStationRestart (s : State) (_ : Nat) (x : Nat) : Verdict :=
  if (s.station x).state == .off || (s.station x).state == .faulted then
    { code := .done, data := [StationState.powering.code],
      state := powerStation s x .stationRestart }
  else refuse s .state

/-- STATION RESTART (R170). -/
def stationRestartCommand : Command Nat where
  kind := .stationRestart
  parse _ := argsIndex stationOk
  reach := noSegments
  held := noSegments
  run := runStationRestart

/-- STATION RESTART (R170). -/
def execStationRestart (p : Nat) (s : State) : Host.Outcome State Fault Refusal :=
  onObject (portOk p) (takeCommand stationRestartCommand p s)

end Sys2Proof.Machine
end

