-- ==== Sys2Proof/Machine/Library.lean ====
section
/-! DEFINITION. The commands of the message library (chapter 09): CURSOR (R158), WRITE TEXT (R159) with
the cursor's advance (R157), LIBRARY CLEAR (R160). -/

namespace Sys2Proof.Machine

open Sys2Proof

/-- A cursor in a reply: slot, line, column, locked. -/
def cursorData (c : Cursor) : List Byte :=
  [encIndex c.slot, byteOf c.line, byteOf c.column, codeBool c.locked]

/-- The object condition and action of CURSOR (R158). -/
def runCursor (s : State) (p : Nat) (a : CursorArgs) : Verdict :=
  if (s.userSlot a.slot).refs != 0 then refuse s .inUse
  else
    let c : Cursor := { slot := some a.slot, line := a.line, column := a.column, locked := false }
    let t := match a.picto with
      | some n => s.setSlot a.slot { s.userSlot a.slot with picto := n }
      | none => s
    { code := .done, data := cursorData c, state := t.setCursor p c }

/-- CURSOR (R158). -/
def cursorCommand : Command CursorArgs where
  kind := .cursor
  parse _ := argsCursor
  reach := noSegments
  held := noSegments
  run := runCursor

/-- CURSOR (R158). -/
def execCursor (p : Nat) (s : State) : Host.Outcome State Fault Refusal :=
  onObject (portOk p) (takeCommand cursorCommand p s)

/-- A character as stored: one outside 0x20–0x5F is stored as a space (R159). -/
def storedChar (b : Byte) : Byte := if within b.toNat 0x20 0x5F then b else space

/-- The cursor after storing one character (R157). -/
def advance (c : Cursor) : Cursor :=
  if c.column < 19 then { c with column := c.column + 1 }
  else if c.line < 2 then { c with line := c.line + 1, column := 0 }
  else { c with locked := true }

/-- Characters stored while the cursor is not locked: the text, the cursor and the number accepted
(R159). -/
def storeText : List Byte → List Byte × Cursor × Nat → List Byte × Cursor × Nat
  | [], r => r
  | b :: bs, (text, c, k) =>
    if c.locked then (text, c, k)
    else storeText bs (text.set (20 * c.line + c.column) (storedChar b), advance c, k + 1)

/-- The object conditions and action of WRITE TEXT (R159). -/
def runWriteText (s : State) (p : Nat) (chars : List Byte) : Verdict :=
  match (s.cursor p).slot with
  | none => refuse s .state
  | some n =>
    if (s.userSlot n).refs != 0 then refuse s .inUse
    else
      let r := storeText chars ((s.userSlot n).text, s.cursor p, 0)
      let u : UserSlot := { s.userSlot n with
        text := r.1, defined := (s.userSlot n).defined || r.2.2 != 0 }
      { code := .done, data := byteOf r.2.2 :: cursorData r.2.1,
        state := (s.setSlot n u).setCursor p r.2.1 }

/-- WRITE TEXT (R159). -/
def writeTextCommand : Command (List Byte) where
  kind := .writeText
  parse _ := argsText
  reach := noSegments
  held := noSegments
  run := runWriteText

/-- WRITE TEXT (R159). -/
def execWriteText (p : Nat) (s : State) : Host.Outcome State Fault Refusal :=
  onObject (portOk p) (takeCommand writeTextCommand p s)

/-- The object condition and action of LIBRARY CLEAR (R160). -/
def runLibraryClear (s : State) (_ : Nat) (n : Nat) : Verdict :=
  if (s.userSlot n).refs != 0 then refuse s .inUse
  else
    { code := .done, data := [],
      state := s.setSlot n { text := List.replicate 60 space, picto := 0, defined := false,
                             refs := (s.userSlot n).refs } }

/-- LIBRARY CLEAR (R160). -/
def libraryClearCommand : Command Nat where
  kind := .libraryClear
  parse _ := argsIndex userSlotOk
  reach := noSegments
  held := noSegments
  run := runLibraryClear

/-- LIBRARY CLEAR (R160). -/
def execLibraryClear (p : Nat) (s : State) : Host.Outcome State Fault Refusal :=
  onObject (portOk p) (takeCommand libraryClearCommand p s)

end Sys2Proof.Machine
end

