-- ==== Sys2Proof/Machine/Weather.lean ====
section
/-! DEFINITION. The weather unit (chapter 06): the station link (R110, R111), samples and the stale
limit (R113, R114), forcing (R117, R118), the deferred reading slot (R119–R123) and the changes
handed to the sign arbiter and the ports (R116). -/

namespace Sys2Proof.Machine

open Sys2Proof

/-! ## The station link (R110) -/

/-- The lowest-numbered head whose poll is due. -/
def firstDue (w : Weather) : Option Nat :=
  (List.range 8).find? fun h => (w.heads.getD h default).pollDue

/-- The free link is granted to a waiting immediate sample, then to the lowest due head (R110). -/
def grantLink (w : Weather) : Weather :=
  match w.exchange with
  | some _ => w
  | none =>
    match w.waiting with
    | some (h, inp) => { w with exchange := some (.immediate h inp), waiting := none }
    | none =>
      match firstDue w with
      | some h =>
        { w with exchange := some (.poll h),
                 heads := w.heads.set h { w.heads.getD h default with pollDue := false } }
      | none => w

/-- The exchange in progress ends, and the link is granted again (R110). -/
def endExchange (s : State) : State :=
  s.setWeather (grantLink { s.weather with exchange := none })

/-- Every fitted head's poll becomes due, and the sample period starts again (R110). -/
def pollsDue (s : State) : State :=
  s.setWeather { s.weather with
    heads := s.weather.heads.mapIdx fun h r =>
      if headFitted s.image h then { r with pollDue := true } else r,
    sampleTimer := s.image.samplePeriod }

/-- SAMPLE_PERIOD_EXPIRY (R110). -/
def execSamplePeriodExpiry (s : State) : Host.Outcome State Fault Refusal :=
  .next (if s.weather.sampleTimer = 0 then
    (pollsDue s).setWeather (grantLink (pollsDue s).weather) else s)

/-- An answered exchange at its head (R109). -/
def headAnswers (s : State) (h : Nat) : State :=
  s.setHead h { s.head h with reachable := true, lastReply := some s.clock.seconds }

/-- An unanswered exchange at its head (R109). -/
def headSilent (s : State) (h : Nat) : State := s.setHead h { s.head h with reachable := false }

/-! ## Channels (R113–R116) -/

/-- The signs of every segment whose Ts role names the channel (R116), ascending by segment and within one
by sign: R116 gives them no order, the model's choice (log 24). -/
def signsOfChannel (img : Image) (c : Nat) : List Nat :=
  ((List.range 12).filter fun i => (imageSegment img i).ts == some c).flatMap (signList img)

/-- The change at ^T that R116 tells the sign arbiter of. -/
def shownChange (e : ChannelEntry) (old new : Channel) : Bool :=
  effectiveOf e old != effectiveOf e new || old.showsNumber != new.showsNumber

/-- One event at a fitted channel: the record, the deliveries of R116 and the CHANNEL notice of a
change of status, or of a forcing at a FORCED channel. -/
def channelEvent (s : State) (c : Nat) (e : ChannelEntry) (new : Channel) (cause : ChannelCause) : State :=
  let old := s.channel c
  let t := s.setChannel c new
  let t := if shownChange e old new then
    t.deliver ((signsOfChannel s.image c).map Instr.placeholderChange) else t
  if old.status != new.status || cause == .forced then
    t.notify c (.channel new.status cause (some (effectiveOf e new)))
  else t

/-- A channel after a good value (R113). -/
def goodSample (s : State) (e : ChannelEntry) (v : Int) (r : Channel) : Channel :=
  { r with lastGood := some v, lastGoodTime := some s.clock.seconds, stale := some e.staleLimit,
           status := if r.status == .forced then .forced else .fresh }

/-- A channel after an implausible value (R113). -/
def badSample (r : Channel) : Channel :=
  { r with status := match r.status with
      | .fresh | .implausible => .implausible
      | .stale => .stale
      | .forced => .forced }

/-- A sample taken at a fitted channel (R112, R113). -/
def sampleAt (s : State) (c : Nat) (e : ChannelEntry) (code : RawCode) : State :=
  let v := calibrate e code.toNat
  let r : Channel := { s.channel c with lastSample := some (v, code.toNat) }
  if plausible e v then channelEvent s c e (goodSample s e v r) .goodSample
  else channelEvent s c e (badSample r) .implausible

/-- The code of an input. -/
def codeAt (c0 c1 c2 c3 : RawCode) : Nat → RawCode
  | 0 => c0
  | 1 => c1
  | 2 => c2
  | _ => c3

/-- An answered poll: every fitted channel of the head takes its code, in ascending input order
(R111). -/
def takeCodes (s : State) (h : Nat) (c0 c1 c2 c3 : RawCode) : State :=
  (headChannels s.image h).foldl (fun t c =>
    match imageChannel s.image c with
    | some e => sampleAt t c e (codeAt c0 c1 c2 c3 (channelInput e))
    | none => t) s

/-- HEAD_POLL_REPLY (R111): the answer to the poll in progress; another answer is discarded. -/
def execHeadPollReply (h : Nat) (c0 c1 c2 c3 : RawCode) (s : State) : Host.Outcome State Fault Refusal :=
  onObject (headOk h)
    (if s.weather.exchange = some (.poll h) then
      endExchange (takeCodes (headAnswers s h) h c0 c1 c2 c3) else s)

/-! ## The deferred slot (R119–R123) -/

/-- The discard time of a READY reading (R119). -/
def discardTime : Nat := 60

/-- The slot becomes READY with a result (R121). -/
def slotReady (s : State) (r : Request) (v : ReadResult) : State :=
  s.setWeather { s.weather with slot := .ready r v s.clock.seconds discardTime }

/-- The value of an immediate sample by the form (R121). -/
def readValue (e : ChannelEntry) (f : Form) (code : RawCode) : Int :=
  match f with
  | .raw => (code.toNat : Int)
  | .calibrated => calibrate e code.toNat

/-- An answered immediate sample: the slot, and the code as a sample of the channel (R121). -/
def immediateAnswer (s : State) (code : RawCode) : State :=
  match s.weather.slot with
  | .pending r =>
    match imageChannel s.image r.channel with
    | some e => sampleAt (slotReady s r (.ok (readValue e r.form code))) r.channel e code
    | none => s
  | .empty | .ready .. => s

/-- IMMEDIATE_SAMPLE_REPLY (R121). -/
def execImmediateSampleReply (code : RawCode) (s : State) : Host.Outcome State Fault Refusal :=
  .next (match s.weather.exchange with
    | some (.immediate h _) => endExchange (immediateAnswer (headAnswers s h) code)
    | some (.poll _) | none => s)

/-- An unanswered immediate sample: NO_REPLY at the slot (R121). -/
def immediateSilent (s : State) : State :=
  match s.weather.slot with
  | .pending r => slotReady s r .noReply
  | .empty | .ready .. => s

/-- HEAD_REPLY_LIMIT (R110): the exchange in progress ends unanswered. -/
def execHeadReplyLimit (s : State) : Host.Outcome State Fault Refusal :=
  .next (match s.weather.exchange with
    | some (.poll h) => endExchange (headSilent s h)
    | some (.immediate h _) => endExchange (immediateSilent (headSilent s h))
    | none => s)

/-- A channel whose stale timer has expired (R114). -/
def staleNow (r : Channel) : Channel :=
  { r with stale := none, status := if r.status == .forced then .forced else .stale }

/-- STALE_LIMIT (R114). -/
def execStaleLimit (c : Nat) (s : State) : Host.Outcome State Fault Refusal :=
  onObject (channelOk c)
    (match imageChannel s.image c with
     | some e =>
       if due (s.channel c).stale then channelEvent s c e (staleNow (s.channel c)) .staleLimit else s
     | none => s)

/-- The data of a reply that names the request in the slot (R120). -/
def requestData (r : Request) : List Byte := [byteOf r.channel, r.form.code]

/-- The data of a DONE to READING (R120). -/
def readingData (r : Request) (v : ReadResult) (t : Word) : List Byte :=
  requestData r ++
  (match v with
   | .ok x => 0 :: (match r.form with
     | .calibrated => encWeather (some x)
     | .raw => encRaw (some x.toNat))
   | .noReply => 1 :: encRaw none) ++ encStamp (some t)

/-- A request latched into the EMPTY slot, its immediate sample placed on the link (R110, R120). -/
def latch (s : State) (r : Request) (e : ChannelEntry) : State :=
  s.setWeather (grantLink { s.weather with slot := .pending r, waiting := e.place })

/-- The object conditions and action of READING (R120). -/
def runReading (s : State) (_ : Nat) (r : Request) : Verdict :=
  match imageChannel s.image r.channel with
  | none => refuse s .state
  | some e =>
    match s.weather.slot with
    | .empty => { code := .deferred, data := requestData r, state := latch s r e }
    | .pending q =>
      if q = r then { code := .deferred, data := requestData q, state := s }
      else { code := .busy, data := requestData q, state := s }
    | .ready q v t _ =>
      if q = r then
        { code := .done, data := readingData q v t,
          state := s.setWeather { s.weather with slot := .empty } }
      else { code := .busy, data := requestData q, state := s }

/-- READING (R120). -/
def readingCommand : Command Request where
  kind := .reading
  parse _ := argsReading
  reach := noSegments
  held := noSegments
  run := runReading

/-- READING (R120). -/
def execReading (p : Nat) (s : State) : Host.Outcome State Fault Refusal :=
  onObject (portOk p) (takeCommand readingCommand p s)

/-- DISCARD_TIMER_EXPIRY (R122). -/
def execDiscardTimerExpiry (s : State) : Host.Outcome State Fault Refusal :=
  .next (match s.weather.slot with
    | .ready _ _ _ 0 => s.setWeather { s.weather with slot := .empty }
    | _ => s)

/-! ## Forcing (R117, R118) -/

/-- The forced content of a FORCE CHANNEL, a value clamped to the type's range (R117). -/
def forcedContent (e : ChannelEntry) : Option Int → Forced
  | some v => .value (clampInt v (typeLow e.type) (typeHigh e.type))
  | none => .failure

/-- The object condition and action of FORCE CHANNEL (R117). -/
def runForceChannel (s : State) (_ : Nat) (a : Nat × Option Int) : Verdict :=
  match imageChannel s.image a.1 with
  | none => refuse s .state
  | some e =>
    let new : Channel := { s.channel a.1 with forced := forcedContent e a.2, status := .forced }
    { code := .done,
      data := new.status.code :: (encForced new.forced ++ encWeather (some (effectiveOf e new))),
      state := channelEvent s a.1 e new .forced }

/-- FORCE CHANNEL (R117). -/
def forceChannelCommand : Command (Nat × Option Int) where
  kind := .forceChannel
  parse _ := argsForce
  reach := noSegments
  held := noSegments
  run := runForceChannel

/-- FORCE CHANNEL (R117). -/
def execForceChannel (p : Nat) (s : State) : Host.Outcome State Fault Refusal :=
  onObject (portOk p) (takeCommand forceChannelCommand p s)

/-- The object conditions and action of UNFORCE (R118). -/
def runUnforce (s : State) (_ : Nat) (c : Nat) : Verdict :=
  match imageChannel s.image c with
  | none => refuse s .state
  | some e =>
    if (s.channel c).status == .forced then
      let new : Channel := { s.channel c with
        forced := .absent, status := if (s.channel c).stale.isSome then .fresh else .stale }
      { code := .done, data := new.status.code :: encWeather (some (effectiveOf e new)),
        state := channelEvent s c e new .unforced }
    else refuse s .state

/-- UNFORCE (R118). -/
def unforceCommand : Command Nat where
  kind := .unforce
  parse _ := argsIndex channelOk
  reach := noSegments
  held := noSegments
  run := runUnforce

/-- UNFORCE (R118). -/
def execUnforce (p : Nat) (s : State) : Host.Outcome State Fault Refusal :=
  onObject (portOk p) (takeCommand unforceCommand p s)

end Sys2Proof.Machine
end

