-- ==== Sys2Proof/Machine/Loader.lean ====
section
/-! DEFINITION. The image loader (chapter 12): IMAGE WRITE (R187), IMAGE COMMIT and its completion
(R188), the load check (R185) and the start-up event with the starting state of every block (R189). -/

namespace Sys2Proof.Machine

open Sys2Proof

/-! ## Replacing the image (R187, R188) -/

/-- The object condition and action of IMAGE WRITE (R187). -/
def runImageWrite (s : State) (_ : Nat) (a : Nat × List Byte) : Verdict :=
  if s.loader.writing then refuse s .busy
  else
    { code := .done, data := enc16 a.1 ++ [byteOf a.2.length],
      state := s.setLoader { s.loader with staging := s.loader.staging.writeRun a.1 a.2 } }

/-- IMAGE WRITE (R187). -/
def imageWriteCommand : Command (Nat × List Byte) where
  kind := .imageWrite
  parse _ := argsImageWrite
  reach := noSegments
  held := noSegments
  run := runImageWrite

/-- IMAGE WRITE (R187). -/
def execImageWrite (p : Nat) (s : State) : Host.Outcome State Fault Refusal :=
  onObject (portOk p) (takeCommand imageWriteCommand p s)

/-- The bytes the CRC-32 covers (R184). -/
def coveredBytes (m : Memory) : List Byte := m.bytes 0 8188

/-- The CRC-32 an image carries at offsets 8188–8191, low byte first (R184). -/
def storedCrc (m : Memory) : Nat :=
  readBe32 (m.read 8191) (m.read 8190) (m.read 8189) (m.read 8188)

/-- The CRC-32 of an image agrees with the one it carries (R184). -/
def crcOk (m : Memory) : Bool := (crc32 (coveredBytes m)).toNat == storedCrc m

/-- The argument check of IMAGE COMMIT: no arguments, and the buffer's CRC-32 agrees (R188). -/
def argsCommit (s : State) (l : List Byte) : Option Unit :=
  match l with
  | [] => if crcOk s.loader.staging then some () else none
  | _ => none

/-- The object condition and action of IMAGE COMMIT: the marker is cleared and the write begins
(R188). -/
def runImageCommit (s : State) (_ : Nat) (_ : Unit) : Verdict :=
  if s.loader.writing then refuse s .busy
  else { code := .done, data := [],
         state := s.setLoader { s.loader with writing := true, marker := false } }

/-- IMAGE COMMIT (R188). -/
def imageCommitCommand : Command Unit where
  kind := .imageCommit
  parse := argsCommit
  reach := noSegments
  held := noSegments
  run := runImageCommit

/-- IMAGE COMMIT (R188). -/
def execImageCommit (p : Nat) (s : State) : Host.Outcome State Fault Refusal :=
  onObject (portOk p) (takeCommand imageCommitCommand p s)

/-- COMMIT_COMPLETION (R188): memory holds the buffer's bytes, the marker is set. -/
def execCommitCompletion (s : State) : Host.Outcome State Fault Refusal :=
  .next (if s.loader.writing then
    s.setLoader { s.loader with memory := s.loader.staging, marker := true, writing := false }
  else s)

/-! ## The load check (R185) -/

/-- The image a memory gives, clamped at load, where it is accepted. -/
def acceptedImage (m : Memory) : Option Image :=
  match Config.parseImage (coveredBytes m) with
  | none => none
  | some img => if imageAccepted (clampImage img) then some (clampImage img) else none

/-- The image in effect from memory and marker, and whether it is the built-in safe one (R185). -/
def loadImage (m : Memory) (marker : Bool) : Image × Bool :=
  if marker && crcOk m then
    match acceptedImage m with
    | some img => (img, false)
    | none => (safeImage, true)
  else (safeImage, true)

/-! ## The starting state (R68, R154, R189) -/

/-- A port's link at start-up (R24). -/
def startLink (img : Image) (p : Nat) : PortLink :=
  { state := if (imagePort img p).isSome then .silent else .unbound, lower := none, window := none }

/-- A segment at start-up (R68). -/
def startSegment (img : Image) (i : Nat) : Segment :=
  let hold := (imageSegment img i).restartHold
  { state := if hold then .prewarn else if (gateList img i).isEmpty then .opened else .raising,
    claims := if hold then { ClaimSet.none with rst := some Claim.restart } else ClaimSet.none,
    revision := 0, dwell := if hold then some img.minDwell else none, barrierFault := false,
    reopenPending := false, zoneLock := false, stamp := .absent }

/-- A zone at start-up (R87). -/
def startZone (img : Image) (z : Nat) : Zone :=
  { level := 0, state := .quiet, fired := [], permit := none, degraded := !(lineList img z).isEmpty }

/-- The weather unit at start-up: every fitted head due, and the link granted (R109, R110, log 13). -/
def startWeather (img : Image) : Weather :=
  grantLink
    { heads := (List.range 8).map fun h =>
        { reachable := false, lastReply := none, pollDue := headFitted img h },
      channels := List.replicate 24 Channel.reset, exchange := none, waiting := none, slot := .empty,
      sampleTimer := img.samplePeriod }

/-- The SEQ:CLOSURE demand of a sign at start-up, where its segment is not OPEN (R66, R154). -/
def startContent (img : Image) (n : Nat) : Option DemandContent :=
  closureContent img (startSegment img (imageSign img n).segment).state

/-- How many placements of start-up come before a sign's own. -/
def startSerial (img : Image) (n : Nat) : Nat :=
  ((List.range n).filter fun k => (startContent img k).isSome).length

/-- The stack of a sign at start-up, serials from 0 in ascending sign index (R154). -/
def startStack (img : Image) (n : Nat) : List Demand :=
  match startContent img n with
  | none => []
  | some c =>
    [{ key := .internal .closure, slot := c.slot, severity := c.severity, flash := c.flash,
       expiry := none, arrival := BitVec.ofNat 32 (startSerial img n) }]

/-- An output record at start-up, its face composed (R146, R153, R154). -/
def startOut (s : State) (n : Nat) : SignOut :=
  { face := composeFace s n, checksum := faceChecksum (composeFace s n), carried := false,
    output := .dark, mismatches := 0, timer := none, owed := false, target := none,
    beacon := patternOf (s.stack n), beaconDriven := false, beaconOwed := false, lamp1 := false,
    lamp2 := false }

/-- The drops of the start-up sequence (R163). -/
def startSequence (img : Image) (contacts : List Bool) : List Nat :=
  (List.range 32).filter fun x => imageType img x != .unused && contacts.getD x false

/-- The starting state but for the faces. -/
def startBlocks (l : Loader) (key : Bool) (contacts : List Bool) (pending : List Instr) : State where
  clock := { seconds := 0, timeOfDay := none }
  auth := { keyLine := key, links := (List.range 4).map (startLink l.image),
            holds := List.replicate 12 none }
  ports := List.replicate 4 Port.reset
  segments := (List.range 12).map (startSegment l.image)
  gates := { recs := List.replicate 8 Gate.reset, startLimit := some 120 }
  zones := { zones := (List.range 10).map (startZone l.image), lines := List.replicate 24 Line.reset,
             shown := List.replicate 12 none }
  weather := startWeather l.image
  evaluator := { recs := List.replicate 12 Evaluation.reset, timer := l.image.evalPeriod }
  arbiter :=
    { demands := (List.range 24).map (startStack l.image),
      arrival := BitVec.ofNat 32 (startSerial l.image 24), outputs := [], elapsed := 0 }
  library := { slots := List.replicate 32 UserSlot.reset, cursors := List.replicate 4 Cursor.reset }
  placement :=
    { primaries := (List.range 24).map fun n => (imageSign l.image n).primary,
      targets := List.replicate 24 none, up := List.replicate 32 false }
  field :=
    { stations := (List.range 32).map fun x => Station.reset (contacts.getD x false),
      exchange := none, round := [], roundsDue := 0, startSeq := startSequence l.image contacts }
  loader := l
  deliveries := if (startSequence l.image contacts).isEmpty then [] else [.startupSequenceBegin]
  pending := pending

/-- The starting state of every block under a loader state (R189). -/
def boot (l : Loader) (key : Bool) (contacts : List Bool) (pending : List Instr) : State :=
  let s := startBlocks l key contacts pending
  { s with arbiter := { s.arbiter with outputs := (List.range 24).map (startOut s) } }

/-- What configuration memory holds at start-up: after an abandoned write, whatever it holds (R188,
log 6). -/
def memoryNow (l : Loader) : Memory :=
  if l.writing then Memory.ofFn (Config.tornByte l.torn) 8192 else l.memory

/-- The loader after the load of start-up (R185, R187). -/
def reload (l : Loader) : Loader :=
  let m := memoryNow l
  { image := (loadImage m l.marker).1, safe := (loadImage m l.marker).2, memory := m,
    marker := l.marker, staging := m, writing := false,
    torn := if l.writing then l.torn + 1 else l.torn }

/-- START_UP (R189): power-on or the RESET line. Memory, the key line and the presence contacts are
inputs or kept; every other field takes its start-up value. -/
def execStartUp (s : State) : Host.Outcome State Fault Refusal :=
  .next (boot (reload s.loader) s.auth.keyLine (s.field.stations.map (·.contactClosed)) s.pending)

end Sys2Proof.Machine
end

