-- ==== Sys2Proof/Machine/Ports.lean ====
section
/-! DEFINITION. The agent port interface (chapter 11): receive assembly (R172), intake queue (R173),
the transmit side (R176, R177), UNKNOWN (R174), SUBSCRIBE (R178), PORT CLEAR (R179), STATUS (R180),
and SET TIME of the corridor clock (R18). -/

namespace Sys2Proof.Machine

open Sys2Proof

/-! ## The intake queue (R173) -/

/-- A frame placed by its class: urgent frames behind urgent ones and ahead of routine ones,
routine frames at the end. -/
def placeFrame (q : List (List Byte)) (body : List Byte) : List (List Byte) :=
  if bodyUrgent body then q.filter bodyUrgent ++ [body] ++ q.filter (fun b => !bodyUrgent b)
  else q ++ [body]

/-- How many BUSY replies of R173 are owed. -/
def busyOwed (q : Port) : Nat := (q.owed.filter fun r => !r.executed).length

/-- A frame arrives at a port's intake queue (R173). A frame with the probe flag is answered BUSY with its
kind byte like any other: its flags are not examined on arrival (R173), and R176 gives the BUSY of R173 that
byte, where R40 gives the reply of a probed command no data; the model's reading (log 20). -/
def Port.arrive (q : Port) (body : List Byte) : Port :=
  if q.intake.length < 6 then { q with intake := placeFrame q.intake body }
  else if busyOwed q < 6 then
    { q with owed := q.owed ++ [{ kind := replyKind (bodyKind body), code := .busy,
                                  data := [bodyKind body], executed := false }] }
  else q

/-! ## The receive assembly (R172) -/

/-- A silent discard: counted up to 255, and the assembly hunts again. -/
def Port.discard (q : Port) : Port :=
  { q with assembly := .hunting, crcErrors := min 255 (q.crcErrors + 1) }

/-- A complete frame: its bytes after the start byte are length, body and CRC. -/
def Port.complete (q : Port) (bytes : List Byte) : Port :=
  let covered := bytes.take (bytes.length - 2)
  if bytes.drop (bytes.length - 2) == be16 (crc16 covered) then
    { q with assembly := .hunting }.arrive (covered.drop 1)
  else q.discard

/-- One byte into the receive assembly. -/
def Port.takeByte (q : Port) (b : Byte) : Port :=
  match q.assembly with
  | .hunting => if b = 0x7E#8 then { q with assembly := .frame [] } else q
  | .frame [] =>
    if b = 0 || 200 < b.toNat then q.discard else { q with assembly := .frame [b] }
  | .frame (len :: r) =>
    if (len :: r).length + 1 < len.toNat + 3 then { q with assembly := .frame ((len :: r) ++ [b]) }
    else q.complete ((len :: r) ++ [b])

/-- FRAME_ARRIVAL (R172, R173): the bytes are taken one after the other, with no gap of more than
50 ms between them. -/
def execFrameArrival (p : Nat) (bytes : List Byte) (s : State) : Host.Outcome State Fault Refusal :=
  onObject (portOk p) (s.setPort p (bytes.foldl Port.takeByte (s.port p)))

/-- START_BYTE_BEGINS_FRAME (R172): a byte of 0x7E is received. -/
def execStartByteBeginsFrame (p : Nat) (s : State) : Host.Outcome State Fault Refusal :=
  onObject (portOk p)
    (if (s.port p).assembly == .hunting then
      s.setPort p { s.port p with assembly := .frame [] } else s)

/-- INTER_BYTE_GAP_DISCARD (R172): more than 50 ms passed before the byte; the begun frame is
discarded, and the byte is taken as a hunting byte. -/
def execInterByteGapDiscard (p : Nat) (late : Byte) (s : State) : Host.Outcome State Fault Refusal :=
  onObject (portOk p)
    (if (s.port p).assembly == .hunting then s.setPort p ((s.port p).takeByte late)
     else s.setPort p ((s.port p).discard.takeByte late))

/-! ## Unknown kinds (R174) -/

/-- UNKNOWN_KIND (R174): a frame whose kind byte is not assigned is answered UNKNOWN with that byte,
whatever its port's binding (R21); under the probe flag without data (R40). -/
def takeUnknown (s : State) (p : Nat) : State :=
  match nextFrame s p with
  | none => s
  | some body =>
    if assignedKind (bodyKind body) then s
    else (popFrame s p).owe p { kind := replyKind (bodyKind body), code := .unknown,
                                data := if bodyProbe body then [] else [bodyKind body],
                                executed := true }

/-- UNKNOWN_KIND (R174). -/
def execUnknownKind (p : Nat) (s : State) : Host.Outcome State Fault Refusal :=
  onObject (portOk p) (takeUnknown s p)

/-! ## The transmit side (R176, R177) -/

/-- REPLY_SENT (R176): the first owed reply goes out as one frame. -/
def Port.sendReply (q : Port) : Port :=
  match q.owed with
  | [] => q
  | r :: rs => { q with owed := rs, lastSent := frameOf r.body }

/-- REPLY_SENT (R176). -/
def execReplySent (p : Nat) (s : State) : Host.Outcome State Fault Refusal :=
  onObject (portOk p) (s.setPort p (s.port p).sendReply)

/-- NOTICE_SENT (R176, R177): with no reply owed, the notice at the head of the queue goes out; it
carries the overflow flag when one is owed. -/
def Port.sendNotice (q : Port) : Port :=
  if q.owed.isEmpty then
    match q.notices with
    | [] => q
    | n :: ns =>
      { q with notices := ns, overflowOwed := false,
               lastSent := frameOf (Notice.frameBody { n with overflow := q.overflowOwed }) }
  else q

/-- NOTICE_SENT (R177). -/
def execNoticeSent (p : Nat) (s : State) : Host.Outcome State Fault Refusal :=
  onObject (portOk p) (s.setPort p (s.port p).sendNotice)

/-! ## Commands of the port interface -/

/-- The action of SUBSCRIBE (R178). -/
def runSubscribe (s : State) (p : Nat) (set : BitVec 7) : Verdict :=
  { code := .done, data := [set.setWidth 8],
    state := s.setPort p { s.port p with subscription := set } }

/-- SUBSCRIBE (R178). -/
def subscribeCommand : Command (BitVec 7) where
  kind := .subscribe
  parse _ := argsSubscribe
  reach := noSegments
  held := noSegments
  run := runSubscribe

/-- SUBSCRIBE (R178). -/
def execSubscribe (p : Nat) (s : State) : Host.Outcome State Fault Refusal :=
  onObject (portOk p) (takeCommand subscribeCommand p s)

/-- A port after PORT CLEAR (R179). -/
def Port.cleared (q : Port) : Port :=
  { q with intake := [], notices := [], overflowOwed := false, subscription := 0, crcErrors := 0 }

/-- The action of PORT CLEAR (R179). -/
def runPortClear (s : State) (p : Nat) (_ : Unit) : Verdict :=
  { code := .done,
    data := [byteOf (s.port p).intake.length, byteOf (s.port p).notices.length],
    state := s.setPort p (s.port p).cleared }

/-- PORT CLEAR (R179). -/
def portClearCommand : Command Unit where
  kind := .portClear
  parse _ := argsNone
  reach := noSegments
  held := noSegments
  run := runPortClear

/-- PORT CLEAR (R179). -/
def execPortClear (p : Nat) (s : State) : Host.Outcome State Fault Refusal :=
  onObject (portOk p) (takeCommand portClearCommand p s)

/-- The action of STATUS (R180). -/
def runStatus (s : State) (_ : Nat) (a : Nat × Nat) : Verdict :=
  { code := .done, data := statusRecord s a.1 a.2, state := s }

/-- STATUS (R180). -/
def statusCommand : Command (Nat × Nat) where
  kind := .status
  parse _ := argsStatus
  reach := noSegments
  held := noSegments
  run := runStatus

/-- STATUS (R180). -/
def execStatus (p : Nat) (s : State) : Host.Outcome State Fault Refusal :=
  onObject (portOk p) (takeCommand statusCommand p s)

/-- The action of SET TIME (R18): the reply carries the corridor seconds. -/
def runSetTime (s : State) (_ : Nat) (t : TimeOfDay) : Verdict :=
  { code := .done, data := encStamp (some s.clock.seconds),
    state := { s with clock := { s.clock with timeOfDay := some t } } }

/-- SET TIME (R18). -/
def setTimeCommand : Command TimeOfDay where
  kind := .setTime
  parse _ := argsTime
  reach := noSegments
  held := noSegments
  run := runSetTime

/-- SET TIME (R18). -/
def execSetTime (p : Nat) (s : State) : Host.Outcome State Fault Refusal :=
  onObject (portOk p) (takeCommand setTimeCommand p s)

end Sys2Proof.Machine
end

