-- ==== Sys2Proof/Machine/Dispatch.lean ====
section
/-! DEFINITION. The meaning of every command: one arm for each row of the table. -/

namespace Sys2Proof.Machine

open Sys2Proof

/-- The effect of a command on everything but the queue of commands. -/
def exec (i : Instr) (s : State) : Host.Outcome State Fault Refusal :=
  match i with
  | .startUp => Sys2Proof.Machine.execStartUp s
  | .startupSequenceBegin => Sys2Proof.Machine.execStartupSequenceBegin s
  | .secondBoundary => Sys2Proof.Machine.execSecondBoundary s
  | .keyLineChange active => Sys2Proof.Machine.execKeyLineChange active s
  | .frameArrival port bytes => Sys2Proof.Machine.execFrameArrival port bytes s
  | .interByteGapDiscard port late => Sys2Proof.Machine.execInterByteGapDiscard port late s
  | .unknownKind port => Sys2Proof.Machine.execUnknownKind port s
  | .replySent port => Sys2Proof.Machine.execReplySent port s
  | .noticeSent port => Sys2Proof.Machine.execNoticeSent port s
  | .presence port => Sys2Proof.Machine.execPresence port s
  | .lowerBoundExpiry port => Sys2Proof.Machine.execLowerBoundExpiry port s
  | .windowExpiry port => Sys2Proof.Machine.execWindowExpiry port s
  | .linkLossRemoval source => Sys2Proof.Machine.execLinkLossRemoval source s
  | .status port => Sys2Proof.Machine.execStatus port s
  | .subscribe port => Sys2Proof.Machine.execSubscribe port s
  | .portClear port => Sys2Proof.Machine.execPortClear port s
  | .setTime port => Sys2Proof.Machine.execSetTime port s
  | .hold port => Sys2Proof.Machine.execHold port s
  | .unhold port => Sys2Proof.Machine.execUnhold port s
  | .holdExpiry seg => Sys2Proof.Machine.execHoldExpiry seg s
  | .claim port => Sys2Proof.Machine.execClaim port s
  | .release port => Sys2Proof.Machine.execRelease port s
  | .forceRelease port => Sys2Proof.Machine.execForceRelease port s
  | .restartConfirm port => Sys2Proof.Machine.execRestartConfirm port s
  | .detectorEvent seg zone => Sys2Proof.Machine.execDetectorEvent seg zone s
  | .zoneClearanceEvent seg zone lockEnds => Sys2Proof.Machine.execZoneClearanceEvent seg zone lockEnds s
  | .lockStartEvent seg => Sys2Proof.Machine.execLockStartEvent seg s
  | .dwellExpiry seg => Sys2Proof.Machine.execDwellExpiry seg s
  | .gateReportToSegment gate => Sys2Proof.Machine.execGateReportToSegment gate s
  | .lowerRequest gate => Sys2Proof.Machine.execLowerRequest gate s
  | .raiseRequest gate => Sys2Proof.Machine.execRaiseRequest gate s
  | .gateReport gate report => Sys2Proof.Machine.execGateReport gate report s
  | .travelTimeout gate => Sys2Proof.Machine.execTravelTimeout gate s
  | .retryIntervalExpiry gate => Sys2Proof.Machine.execRetryIntervalExpiry gate s
  | .startupLimit => Sys2Proof.Machine.execStartupLimit s
  | .gateStationLost gate => Sys2Proof.Machine.execGateStationLost gate s
  | .gateStationReturn gate report => Sys2Proof.Machine.execGateStationReturn gate report s
  | .gateFaultClear port => Sys2Proof.Machine.execGateFaultClear port s
  | .tripReport station report => Sys2Proof.Machine.execTripReport station report s
  | .tripStationLost station => Sys2Proof.Machine.execTripStationLost station s
  | .tripStationReturn station report => Sys2Proof.Machine.execTripStationReturn station report s
  | .setLevel port => Sys2Proof.Machine.execSetLevel port s
  | .beginSweep port => Sys2Proof.Machine.execBeginSweep port s
  | .zoneClear port => Sys2Proof.Machine.execZoneClear port s
  | .permitRequest port => Sys2Proof.Machine.execPermitRequest port s
  | .permitEnd port => Sys2Proof.Machine.execPermitEnd port s
  | .permitExpiry zone => Sys2Proof.Machine.execPermitExpiry zone s
  | .samplePeriodExpiry => Sys2Proof.Machine.execSamplePeriodExpiry s
  | .headPollReply head c0 c1 c2 c3 => Sys2Proof.Machine.execHeadPollReply head c0 c1 c2 c3 s
  | .headReplyLimit => Sys2Proof.Machine.execHeadReplyLimit s
  | .immediateSampleReply code => Sys2Proof.Machine.execImmediateSampleReply code s
  | .staleLimit channel => Sys2Proof.Machine.execStaleLimit channel s
  | .reading port => Sys2Proof.Machine.execReading port s
  | .discardTimerExpiry => Sys2Proof.Machine.execDiscardTimerExpiry s
  | .forceChannel port => Sys2Proof.Machine.execForceChannel port s
  | .unforce port => Sys2Proof.Machine.execUnforce port s
  | .evaluationEvent => Sys2Proof.Machine.execEvaluationEvent s
  | .post port => Sys2Proof.Machine.execPost port s
  | .withdraw port => Sys2Proof.Machine.execWithdraw port s
  | .withdrawAll port => Sys2Proof.Machine.execWithdrawAll port s
  | .demandExpiry sign source tag => Sys2Proof.Machine.execDemandExpiry sign source tag s
  | .internalDelivery sign topic content => Sys2Proof.Machine.execInternalDelivery sign topic content s
  | .placeholderChange sign => Sys2Proof.Machine.execPlaceholderChange sign s
  | .reRenderTimerExpiry sign => Sys2Proof.Machine.execReRenderTimerExpiry sign s
  | .checksum station value => Sys2Proof.Machine.execChecksum station value s
  | .faceCheckFailure station => Sys2Proof.Machine.execFaceCheckFailure station s
  | .retarget sign previous new => Sys2Proof.Machine.execRetarget sign previous new s
  | .placementDeparture station => Sys2Proof.Machine.execPlacementDeparture station s
  | .placementEntry station => Sys2Proof.Machine.execPlacementEntry station s
  | .remap port => Sys2Proof.Machine.execRemap port s
  | .beaconStationEntry station => Sys2Proof.Machine.execBeaconStationEntry station s
  | .beaconStationDeparture station => Sys2Proof.Machine.execBeaconStationDeparture station s
  | .beaconFlashTiming => Sys2Proof.Machine.execBeaconFlashTiming s
  | .cursor port => Sys2Proof.Machine.execCursor port s
  | .writeText port => Sys2Proof.Machine.execWriteText port s
  | .libraryClear port => Sys2Proof.Machine.execLibraryClear port s
  | .presenceContactCloses station => Sys2Proof.Machine.execPresenceContactCloses station s
  | .presenceContactOpens station => Sys2Proof.Machine.execPresenceContactOpens station s
  | .powerSettleExpiry station => Sys2Proof.Machine.execPowerSettleExpiry station s
  | .identRequest station => Sys2Proof.Machine.execIdentRequest station s
  | .identificationReport station content serial => Sys2Proof.Machine.execIdentificationReport station content serial s
  | .identTimeout station => Sys2Proof.Machine.execIdentTimeout station s
  | .pollRound => Sys2Proof.Machine.execPollRound s
  | .pollAnswered station answer => Sys2Proof.Machine.execPollAnswered station answer s
  | .pollUnanswered station => Sys2Proof.Machine.execPollUnanswered station s
  | .lostStationReply station => Sys2Proof.Machine.execLostStationReply station s
  | .overCurrentTrip station => Sys2Proof.Machine.execOverCurrentTrip station s
  | .attentionButton station => Sys2Proof.Machine.execAttentionButton station s
  | .refusalBlinkEnd station => Sys2Proof.Machine.execRefusalBlinkEnd station s
  | .quiescingExchangeAnswered station => Sys2Proof.Machine.execQuiescingExchangeAnswered station s
  | .quiescingExchangeUnanswered station => Sys2Proof.Machine.execQuiescingExchangeUnanswered station s
  | .stationOff port => Sys2Proof.Machine.execStationOff port s
  | .stationRestart port => Sys2Proof.Machine.execStationRestart port s
  | .imageWrite port => Sys2Proof.Machine.execImageWrite port s
  | .imageCommit port => Sys2Proof.Machine.execImageCommit port s
  | .commitCompletion => Sys2Proof.Machine.execCommitCompletion s
  | .startByteBeginsFrame port => Sys2Proof.Machine.execStartByteBeginsFrame port s

end Sys2Proof.Machine
end

