-- ==== Sys2Proof/Machine/Invariants.lean ====
section
/-! DEFINITION. What the records of each block satisfy between any two steps, as the chapters state it:
the vocabulary of the statements. Each property is decidable on a given state. -/

namespace Sys2Proof.Machine

open Sys2Proof

/-! ## Image, tables and buffers -/

/-- The image in effect passes the loader's checks (R185), and every table has its size. -/
def TablesOk (s : State) : Prop :=
  imageAccepted s.image = true ∧
  s.auth.links.length = 4 ∧ s.auth.holds.length = 12 ∧ s.ports.length = 4 ∧
  s.segments.length = 12 ∧ s.gates.recs.length = 8 ∧ s.zones.zones.length = 10 ∧
  s.zones.lines.length = 24 ∧ s.zones.shown.length = 12 ∧ s.weather.heads.length = 8 ∧
  s.weather.channels.length = 24 ∧ s.evaluator.recs.length = 12 ∧ s.arbiter.demands.length = 24 ∧
  s.arbiter.outputs.length = 24 ∧ s.library.slots.length = 32 ∧ s.library.cursors.length = 4 ∧
  s.placement.primaries.length = 24 ∧ s.placement.targets.length = 24 ∧
  s.placement.up.length = 32 ∧ s.field.stations.length = 32

/-- Configuration memory and staging buffer are in canonical form (R184, R187). -/
def BuffersOk (s : State) : Prop := s.loader.memory.wf = true ∧ s.loader.staging.wf = true

/-! ## Authority unit (R24, R25, R30, R31) -/

/-- One port's link: UNBOUND exactly where the image binds no source; the presence timers are absent outside
LINKED; in LINKED the window runs, and a running lower bound is at most what remains of it. -/
def LinkOk (s : State) (p : Nat) : Prop :=
  ((s.portLink p).state = .unbound ↔ s.sourceOf p = none) ∧
  ((s.portLink p).state ≠ .linked → (s.portLink p).lower = none ∧ (s.portLink p).window = none) ∧
  ((s.portLink p).state = .linked → (s.portLink p).window.isSome = true) ∧
  ∀ l ∈ (s.portLink p).lower.toList, ∀ w ∈ (s.portLink p).window.toList, l ≤ w

/-- Every link; every hold belongs to a source whose port is LINKED (the law of R30), with at most the hold
duration remaining. -/
def AuthorityOk (s : State) : Prop :=
  (∀ p < 4, LinkOk s p) ∧
  ∀ i < 12, ∀ h ∈ (s.hold i).toList, h.remaining ≤ s.image.holdDuration ∧
    ∃ p ∈ List.range 4, s.sourceOf p = some h.holder ∧ (s.portLink p).state = .linked

/-! ## Agent ports (R173, R176, R177) -/

/-- One port: at most six frames wait, urgent ones first; at most six BUSY replies and one reply of
an executed command are owed; at most sixteen notices wait; the error count is at most 255. -/
def Port.ok (q : Port) : Prop :=
  q.intake.length ≤ 6 ∧
  q.intake.Pairwise (fun a b => bodyUrgent b = true → bodyUrgent a = true) ∧
  busyOwed q ≤ 6 ∧ (q.owed.filter (·.executed)).length ≤ 1 ∧
  q.notices.length ≤ 16 ∧ q.crcErrors ≤ 255

/-- Every port; an unbound one has no subscription and no notices (R177). -/
def PortsOk (s : State) : Prop :=
  ∀ p < 4, (s.port p).ok ∧
    (s.sourceOf p = none → (s.port p).subscription = 0 ∧ (s.port p).notices = [])

/-! ## Corridor table (R43–R45, R57–R64) -/

/-- A claim set: the DET zone list is not empty and repeats no zone, no other claim has one, and DET
and RST claims have reason 0 and are immediate (R44, R45). -/
def ClaimSet.ok (c : ClaimSet) : Prop :=
  (∀ k ∈ c.det.toList, k.zones ≠ [] ∧ k.zones.Nodup ∧ k.reason = 0 ∧ k.immediate = true) ∧
  (∀ k ∈ c.rst.toList, k.zones = [] ∧ k.reason = 0 ∧ k.immediate = true) ∧
  ∀ src ∈ [AgentSource.avs, .enf, .roc, .cab], ∀ k ∈ (c.get (claimSourceFor src)).toList, k.zones = []

/-- One segment: the dwell runs in PREWARN only; OPEN and RAISING have an empty claim set; a closing
or closed segment without claims is under zone lock; reopen pending marks exactly a CLOSED segment
without claims; no barrier fault stands in OPEN or PREWARN. -/
def Segment.ok (g : Segment) : Prop :=
  g.claims.ok ∧
  (g.dwell.isSome = true ↔ g.state = .prewarn) ∧
  (g.state = .opened ∨ g.state = .raising → g.claims.isEmpty = true) ∧
  (g.claims.isEmpty = true → g.state = .opened ∨ g.state = .raising ∨ g.zoneLock = true) ∧
  (g.reopenPending = true ↔ g.state = .closed ∧ g.claims.isEmpty = true) ∧
  (g.state = .opened ∨ g.state = .prewarn → g.barrierFault = false)

/-- Every segment. -/
def SegmentsOk (s : State) : Prop := ∀ i < 12, (s.seg i).ok

/-! ## Gate controller (R69–R77) -/

/-- One gate: the motion timer runs exactly in motion and in WAIT; a fault cause stands exactly in
FAULT, and in the final retreat; the attempt count is at most the retry limit, and below it in WAIT
and in a retreat that is not final. -/
def Gate.ok (limit : Nat) (g : Gate) : Prop :=
  (g.timer.isSome = true ↔ g.moving = true ∨ g.state = .wait) ∧
  (g.state = .fault → g.cause.isSome = true) ∧
  (g.state = .retreat → g.cause = none ∨ g.cause = some .obstructionLimit) ∧
  (g.state ≠ .fault ∧ g.state ≠ .retreat → g.cause = none) ∧
  g.attempts ≤ limit ∧
  (g.state = .wait ∨ g.state = .retreat ∧ g.cause = none → g.attempts < limit)

/-- Every gate. -/
def GatesOk (s : State) : Prop := ∀ g < 8, (s.gate g).ok s.image.retryLimit

/-! ## Zone monitor (R87–R94, R104) -/

/-- One zone: a permit runs exactly in WORK; QUIET and WATCH agree with the level and have an empty
fired list; the fired list names lines of the zone, none twice; the degraded field is the one
derived from the lines. -/
def ZoneOk (s : State) (z : Nat) : Prop :=
  (s.zone z).level ≤ 5 ∧
  ((s.zone z).permit.isSome = true ↔ (s.zone z).state = .work) ∧
  ((s.zone z).state = .quiet ∨ (s.zone z).state = .watch →
    (s.zone z).state = stateOfLevel s (s.zone z).level ∧ (s.zone z).fired = []) ∧
  (s.zone z).fired.Nodup ∧ (∀ l ∈ (s.zone z).fired, l ∈ lineList s.image z) ∧
  (s.zone z).degraded = degradedNow s z

/-- One line: a condition pending exactly while it is being confirmed, below the debounce count. -/
def Line.ok (debounce : Nat) (l : Line) : Prop :=
  (l.pending.isSome = true ↔ l.confirm ≠ 0) ∧ l.confirm < debounce

/-- Every zone and line; the deciding zone last delivered for a segment is the present one. -/
def ZonesOk (s : State) : Prop :=
  (∀ z < 10, ZoneOk s z) ∧ (∀ l < 24, (s.line l).ok s.image.debounce) ∧
  ∀ i < 12, s.shownZone i = decidingZone s i

/-! ## Weather unit (R110–R121) -/

/-- One channel: a forced content stands exactly in FORCED; FRESH and IMPLAUSIBLE have a running
stale timer, STALE has none; a running timer means that a good value was taken. -/
def Channel.ok (c : Channel) : Prop :=
  (c.status = .forced ↔ c.forced ≠ .absent) ∧
  (c.status = .fresh ∨ c.status = .implausible → c.stale.isSome = true) ∧
  (c.status = .stale → c.stale = none) ∧
  (c.stale.isSome = true → c.lastGood.isSome = true) ∧
  (c.lastGood.isSome = true ↔ c.lastGoodTime.isSome = true)

/-- The immediate sample in progress on the station link, if there is one. -/
def sampling (w : Weather) : Option (Nat × Nat) :=
  match w.exchange with
  | some (.immediate h inp) => some (h, inp)
  | some (.poll _) | none => none

/-- Head and input of the channel a PENDING slot asks for, if it is fitted. -/
def askedInput (s : State) : Option (Nat × Nat) :=
  match s.weather.slot with
  | .pending r => (imageChannel s.image r.channel).bind (·.place)
  | .empty | .ready .. => none

/-- The slot is PENDING. -/
def Slot.isPending : Slot → Bool
  | .pending _ => true
  | .empty | .ready .. => false

/-- Every channel; a PENDING slot has the immediate sample of its fitted channel either waiting or in
progress, another slot has none; the link is free only when nothing waits for it. -/
def WeatherOk (s : State) : Prop :=
  (∀ c < 24, (s.channel c).ok) ∧
  (s.weather.slot.isPending = true → (askedInput s).isSome = true) ∧
  (s.weather.waiting = askedInput s ∧ sampling s.weather = none ∨
   s.weather.waiting = none ∧ sampling s.weather = askedInput s) ∧
  (s.weather.exchange = none → s.weather.waiting = none ∧ firstDue s.weather = none)

/-! ## Condition evaluator (R124, R130, R131) -/

/-- One filter: its class within its range, its counts below the confirmation count and not both
running. -/
def Filter.ok (top n : Nat) (f : Filter) : Prop :=
  f.cls ≤ top ∧ f.up < n ∧ f.down < n ∧ (f.up = 0 ∨ f.down = 0)

/-- Every evaluation record; a segment without the Ts role has class 0, one without W wind class 0. -/
def EvaluatorOk (s : State) : Prop :=
  ∀ i < 12, (s.eval i).score ≤ 1000 ∧
    (s.eval i).cond.ok 4 s.image.confirmation ∧ (s.eval i).wind.ok 2 s.image.confirmation ∧
    (evaluated s.image i = false → s.eval i = Evaluation.reset) ∧
    (windEvaluated s.image i = false → (s.eval i).wind.cls = 0)

/-! ## Sign arbiter and message library (R136, R137, R156, R157) -/

/-- One demand: an internal one names a stored slot and never expires; severity 0–7, slot 0–127. -/
def Demand.ok (d : Demand) : Prop :=
  d.severity ≤ 7 ∧ d.slot < 128 ∧ (d.key.isAgent = false → d.slot < 96 ∧ d.expiry = none)

/-- One stack (R137): no key twice, at most four agent and four internal demands, in the order of
R137. -/
def StackOk (st : List Demand) : Prop :=
  (st.map (·.key)).Nodup ∧ agentCount st ≤ 4 ∧ st.length - agentCount st ≤ 4 ∧
  st.Pairwise (fun a b => b.above a = false) ∧ ∀ d ∈ st, d.ok

/-- Every stack. -/
def StacksOk (s : State) : Prop := ∀ n < 24, StackOk (s.stack n)

/-- How many demands of all stacks name a slot. -/
def naming (s : State) (slot : Nat) : Nat :=
  (((List.range 24).map fun n => (s.stack n).countP fun d => d.slot == slot)).sum

/-- The reference count of every user slot is the number of demands that name it (R156). -/
def CountsOk (s : State) : Prop := ∀ n < 128, 96 ≤ n → (s.userSlot n).refs = naming s n

/-- A user slot: sixty characters of the library's set and a pictogram code 0–63 (R155, R156). -/
def UserSlot.ok (u : UserSlot) : Prop :=
  u.text.length = 60 ∧ (∀ b ∈ u.text, within b.toNat 0x20 0x5F = true) ∧ u.picto < 64

/-- A cursor within a user slot; locked only at its last place (R157). -/
def Cursor.ok (c : Cursor) : Prop :=
  (∀ n ∈ c.slot.toList, userSlotOk n = true) ∧ c.line < 3 ∧ c.column < 20 ∧
  (c.locked = true → c.line = 2 ∧ c.column = 19)

/-- Every user slot and cursor. -/
def LibraryOk (s : State) : Prop :=
  (∀ n < 128, 96 ≤ n → (s.userSlot n).ok) ∧ ∀ p < 4, (s.cursor p).ok

/-! ## Placement table (R7, R8, R13) -/

/-- The targets of the signs: no station twice; a target is ACTIVE as last told, and the sign's
primary or its standby; a sign whose primary is ACTIVE has it; no two signs share a primary. -/
def PlacementOk (s : State) : Prop :=
  (∀ n < 24, ∀ m < n, s.target m = s.target n → s.target n = none) ∧
  (∀ n < 24, ∀ m < n, s.primary m = s.primary n → s.primary n = none) ∧
  (∀ n < 24, ∀ x ∈ (s.target n).toList, s.panelUp x = true ∧
    (s.primary n = some x ∨ (imageSign s.image n).standby = some x)) ∧
  ∀ n < 24, ∀ x ∈ (s.primary n).toList, s.panelUp x = true → s.target n = some x

/-! ## Field stations (R162) -/

/-- One station: power and indicator by its state, but for the refusal blink of an ACTIVE one; a
fault cause exactly in FAULTED; at most two missed replies and two unanswered quiescing rounds. -/
def Station.ok (r : Station) : Prop :=
  r.power = r.state.power ∧
  (r.indicator = r.state.indicator ∨ r.state = .active ∧ r.indicator = .blink) ∧
  (r.cause.isSome = true ↔ r.state = .faulted) ∧ r.missed ≤ 2 ∧ r.quiesceTries ≤ 2

/-- Every station; a drop configured NONE stays ABSENT and is not in the start-up sequence. -/
def StationsOk (s : State) : Prop :=
  (∀ x < 32, (s.station x).ok ∧
    (imageType s.image x = .unused → (s.station x).state = .absent)) ∧
  ∀ x ∈ s.field.startSeq, x < 32 ∧ imageType s.image x ≠ .unused

end Sys2Proof.Machine
end

