-- ==== Sys2Proof/Safety.lean ====
section
/-! DEFINITION. What counts as a safe run, and the terms the statements use: which blocks a command
changes, what an accepted command finds at its port, the reply it leaves and the notices it sends. -/

namespace Sys2Proof

open Sys2Proof.Machine

/-! ## Safe runs -/

/-- Every command that waits and every event on its way names objects the part has. -/
def QueueOk (s : State) : Prop :=
  (∀ c ∈ s.pending, c.wellFormed = true) ∧ ∀ c ∈ s.deliveries, c.wellFormed = true

/-- A step ends in a next state. -/
def SafeStep (s : State) : Prop := ∃ t, step s = .next t

/-! ## Frames -/

/-- The blocks of the part (Organization of the Part), with the events between them and the queue. -/
inductive Block where
  | clock | auth | ports | segments | gates | zones | weather | evaluator | arbiter | library
  | placement | field | loader | deliveries | pending
deriving DecidableEq, Repr

/-- Two states agree on a block. -/
def Block.same (s t : State) : Block → Prop
  | .clock => t.clock = s.clock
  | .auth => t.auth = s.auth
  | .ports => t.ports = s.ports
  | .segments => t.segments = s.segments
  | .gates => t.gates = s.gates
  | .zones => t.zones = s.zones
  | .weather => t.weather = s.weather
  | .evaluator => t.evaluator = s.evaluator
  | .arbiter => t.arbiter = s.arbiter
  | .library => t.library = s.library
  | .placement => t.placement = s.placement
  | .field => t.field = s.field
  | .loader => t.loader = s.loader
  | .deliveries => t.deliveries = s.deliveries
  | .pending => t.pending = s.pending

/-- Only the listed blocks may have changed. -/
def ChangesOnly (l : List Block) (s t : State) : Prop := ∀ b, b ∉ l → b.same s t

/-! ## Agent commands -/

/-- The port and the kind of an agent's command. -/
def agentCommand : Instr → Option (Nat × CmdKind)
  | .presence p => some (p, .presence)
  | .status p => some (p, .status)
  | .subscribe p => some (p, .subscribe)
  | .portClear p => some (p, .portClear)
  | .setTime p => some (p, .setTime)
  | .hold p => some (p, .hold)
  | .unhold p => some (p, .unhold)
  | .claim p => some (p, .claim)
  | .release p => some (p, .release)
  | .forceRelease p => some (p, .forceRelease)
  | .restartConfirm p => some (p, .restartConfirm)
  | .gateFaultClear p => some (p, .gateFaultClear)
  | .setLevel p => some (p, .setLevel)
  | .beginSweep p => some (p, .beginSweep)
  | .zoneClear p => some (p, .zoneClear)
  | .permitRequest p => some (p, .permitRequest)
  | .permitEnd p => some (p, .permitEnd)
  | .post p => some (p, .post)
  | .withdraw p => some (p, .withdraw)
  | .withdrawAll p => some (p, .withdrawAll)
  | .remap p => some (p, .remap)
  | .cursor p => some (p, .cursor)
  | .writeText p => some (p, .writeText)
  | .libraryClear p => some (p, .libraryClear)
  | .reading p => some (p, .reading)
  | .forceChannel p => some (p, .forceChannel)
  | .unforce p => some (p, .unforce)
  | .stationOff p => some (p, .stationOff)
  | .stationRestart p => some (p, .stationRestart)
  | .imageWrite p => some (p, .imageWrite)
  | .imageCommit p => some (p, .imageCommit)
  | _ => none

/-- The frame of a command of this kind stands ready to be taken on the port (R173). -/
def Ready (s : State) (p : Nat) (k : CmdKind) (body : List Byte) : Prop :=
  portOk p = true ∧ nextFrame s p = some body ∧ bodyKind body = k.byte

/-- The checks of binding, link and authority pass (R174, orders 2 to 4). -/
def Admitted (s : State) (p : Nat) (k : CmdKind) : Prop :=
  bindingOk s p k = true ∧ linkOk s p k = true ∧
  (k = .status ∨ authorized k (agentOf s p) s.auth.keyLine = true)

/-- A command stands ready on the port, without the probe flag, and passes every check of R174 up to
the hold check, with these arguments. -/
def Accepted {α : Type} (c : Command α) (s : State) (p : Nat) (a : α) : Prop :=
  ∃ body, Ready s p c.kind body ∧ bodyProbe body = false ∧ Admitted s p c.kind ∧
    checkedArgs c s body = some a ∧ guardOk s body = true ∧ heldByOther s p (c.held s a) = false

/-- The state in which the command's frame has left the queue and a reply is owed for it, and nothing
else has happened (R174, R176). -/
def answered (s : State) (p : Nat) (k : CmdKind) (code : Result) (data : List Byte) : State :=
  (popFrame s p).owe p { kind := replyKind k.byte, code := code, data := data, executed := true }

/-- Order 6 of R174 for one command: a guard that does not hold answers STALE with the segment's revision
and state (R39), whether or not the segment is held, and nothing else changes. -/
def GuardRefuses {α : Type} (c : Command α) (i : Nat → Instr) : Prop :=
  ∀ (s : State) (p : Nat) (body : List Byte) (a : α) (g : Guard),
    Ready s p c.kind body → Admitted s p c.kind → checkedArgs c s body = some a →
    bodyGuard body = some g → g.holds s = false →
    exec (i p) s = .next (answered s p c.kind .stale
      (be16 (s.seg g.segment).revision ++ [byteOf (s.seg g.segment).state.code]))

/-- Order 7 of R174 for one command: past the guard check, a segment of the list held by another source
answers HELD (R34), and nothing else changes. -/
def HoldRefuses {α : Type} (c : Command α) (i : Nat → Instr) : Prop :=
  ∀ (s : State) (p : Nat) (body : List Byte) (a : α),
    Ready s p c.kind body → Admitted s p c.kind → checkedArgs c s body = some a →
    guardOk s body = true →
    (∃ k ∈ c.held s a, ∃ h, s.hold k = some h ∧ h.holder ≠ agentOf s p) →
    exec (i p) s = .next (answered s p c.kind .held [])

/-- On every port but `p` intake queue and owed replies stand; on `p` the command's frame has left
and one reply is owed behind the others. -/
def Replied (p : Nat) (k : CmdKind) (code : Result) (data : List Byte) (s t : State) : Prop :=
  (t.port p).intake = (s.port p).intake.drop 1 ∧
  (t.port p).owed = (s.port p).owed ++
    [{ kind := replyKind k.byte, code := code, data := data, executed := true }] ∧
  ∀ q < 4, q ≠ p → (t.port q).intake = (s.port q).intake ∧ (t.port q).owed = (s.port q).owed

/-- Receive assembly, error count, subscription and the line's last frame stand on every port. -/
def LinesKept (s t : State) : Prop :=
  ∀ q < 4, (t.port q).assembly = (s.port q).assembly ∧
    (t.port q).crcErrors = (s.port q).crcErrors ∧
    (t.port q).subscription = (s.port q).subscription ∧ (t.port q).lastSent = (s.port q).lastSent

/-- No notice is produced. -/
def NoNotice (s t : State) : Prop :=
  ∀ q < 4, (t.port q).notices = (s.port q).notices ∧ (t.port q).overflowOwed = (s.port q).overflowOwed

/-- Exactly one notice is produced: it stands on every port subscribed to its kind, but for one
excepted port (R177). -/
def OneNotice (excepted : Option Nat) (index : Nat) (b : NoticeBody) (s t : State) : Prop :=
  ∀ q < 4,
    let n : Port :=
      if (s.port q).subscription.getLsbD b.bit && some q != excepted then
        (s.port q).pushNotice { index, stamp := s.clock.seconds, overflow := false, body := b }
      else s.port q
    (t.port q).notices = n.notices ∧ (t.port q).overflowOwed = n.overflowOwed

/-- A port after these notices, in this order, each with the index of its object, are placed on its queue
where it subscribes to their kind (R177). -/
def withNotices (s : State) (l : List (Nat × NoticeBody)) (q : Port) : Port :=
  l.foldl (fun (r : Port) x =>
    if r.subscription.getLsbD x.2.bit then
      r.pushNotice { index := x.1, stamp := s.clock.seconds, overflow := false, body := x.2 }
    else r) q

/-- Exactly these notices are produced, in this order, each with the index of its object: each stands on
every port subscribed to its kind (R177). -/
def NoticesSent (l : List (Nat × NoticeBody)) (s t : State) : Prop :=
  ∀ q < 4,
    let n := withNotices s l (s.port q)
    (t.port q).notices = n.notices ∧ (t.port q).overflowOwed = n.overflowOwed

/-- A port that subscribes to STATION and to nothing else gets exactly this notice: what a departure taken
in the same event sends is of other kinds. -/
def SoleStationNotice (x : Nat) (b : NoticeBody) (s t : State) : Prop :=
  ∀ q < 4, (s.port q).subscription = 8#7 →
    let n := (s.port q).pushNotice { index := x, stamp := s.clock.seconds, overflow := false, body := b }
    (t.port q).notices = n.notices ∧ (t.port q).overflowOwed = n.overflowOwed

/-- One notice where a condition holds, else none. -/
def NoticeIf (b : Prop) (index : Nat) (n : NoticeBody) (s t : State) : Prop :=
  (b → OneNotice none index n s t) ∧ (¬b → NoNotice s t)

/-! ## Segments -/

/-- The state a segment takes when its claim set is empty, under the zone lock or not (R52, R59, R61, R62,
R67). -/
def emptiedState (s : State) (i : Nat) (lock : Bool) : SegState :=
  match (s.seg i).state with
  | .opened => .opened
  | .raising => .raising
  | .prewarn => if lock then .prewarn else .opened
  | .lowering => if lock then .lowering else if raisingDone s i then .opened else .raising
  | .closed => if lock then .closed else if raisingDone s i then .opened else .raising

/-- The state a segment takes when its claim set becomes empty (R59, R61, R62). -/
def afterEmptied (s : State) (i : Nat) : SegState := emptiedState s i (s.seg i).zoneLock

/-- R60: a segment enters CLOSED: the barrier fault is decided by its gates, the stamp is taken, and reopen
pending marks an empty claim set. -/
def EntersClosed (s t : State) (i : Nat) : Prop :=
  (t.seg i).state = .closed ∧ (t.seg i).dwell = none ∧
  ((t.seg i).barrierFault = true ↔ ∃ y ∈ gateList s.image i, (s.gate y).state = .fault ∨
    (s.gate y).state = .offline ∧ (s.gate y).position ≠ some .down) ∧
  (t.seg i).stamp = (match s.clock.timeOfDay with
    | none => .unset
    | some d => .taken d) ∧
  ((t.seg i).reopenPending = true ↔ (t.seg i).claims.isEmpty = true)

/-- R58, R63, R67: a segment enters LOWERING, and passes on to CLOSED where every gate is accounted for. -/
def TurnsDown (s t : State) (i : Nat) : Prop :=
  if loweringDone s i then EntersClosed s t i
  else (t.seg i).state = .lowering ∧ (t.seg i).dwell = none ∧ (t.seg i).reopenPending = false ∧
    (t.seg i).barrierFault = (s.seg i).barrierFault ∧ (t.seg i).stamp = (s.seg i).stamp

/-- A segment that only loses claims: its dwell runs on in PREWARN and is absent elsewhere, its stamp
stands, its barrier fault ends in OPEN (R63), and reopen pending marks it CLOSED without claims. -/
def OpensUp (s t : State) (i : Nat) : Prop :=
  (t.seg i).dwell = (if (t.seg i).state = .prewarn then (s.seg i).dwell else none) ∧
  (t.seg i).stamp = (s.seg i).stamp ∧
  (t.seg i).barrierFault = (if (t.seg i).state = .opened then false else (s.seg i).barrierFault) ∧
  ((t.seg i).reopenPending = true ↔ (t.seg i).state = .closed ∧ (t.seg i).claims.isEmpty = true)

/-- A claim reaches a segment that is closed or closing already: only the dwell of PREWARN may change, and
an immediate claim leaves it at most the minimum dwell (R58). -/
def StaysDown (s t : State) (i : Nat) (immediate : Bool) : Prop :=
  (t.seg i).state = (s.seg i).state ∧
  (t.seg i).dwell = (if (s.seg i).state = .prewarn ∧ immediate = true then
    (s.seg i).dwell.map (min · s.image.minDwell) else (s.seg i).dwell) ∧
  (t.seg i).reopenPending = false ∧ (t.seg i).barrierFault = (s.seg i).barrierFault ∧
  (t.seg i).stamp = (s.seg i).stamp

/-- R55: exactly one SEGMENT notice for each of these segments whose revision changed, in list order. -/
def SegmentsTold (segs : List Nat) (cause : SegCause) (s t : State) : Prop :=
  NoticesSent (segs.filterMap fun i =>
    if (t.seg i).revision = (s.seg i).revision then none
    else some (i, .segment (t.seg i).state cause (t.seg i).revision (t.seg i).barrierFault none)) s t

/-- R66: the form of the closure demand in a segment state; none in OPEN. -/
def closureForm (img : Image) (st : SegState) : Option DemandContent :=
  if st = .prewarn ∨ st = .lowering then
    some { slot := img.closingSlot, severity := 7, flash := .alternate }
  else if st = .closed then some { slot := img.closedSlot, severity := 7, flash := .unison }
  else if st = .raising then some { slot := img.openingSlot, severity := 7, flash := .dark }
  else none

/-- R56: the gate requests of a transition between two states: a lower request to every gate of the
segment that is not CLOSED where it enters LOWERING, a raise request to every gate that is not OPEN where
it enters RAISING, in either case also where it passes on at once (R67). -/
def gateRequests (s : State) (i : Nat) (old new : SegState) : List Instr :=
  if (old = .prewarn ∨ old = .raising) ∧ (new = .lowering ∨ new = .closed) then
    ((gateList s.image i).filter fun g => (s.gate g).state ≠ .closed).map Instr.lowerRequest
  else if (old = .lowering ∨ old = .closed) ∧ (new = .raising ∨ new = .opened) then
    ((gateList s.image i).filter fun g => (s.gate g).state ≠ .opened).map Instr.raiseRequest
  else []

/-- R56, R66, R138, R149: what one event at the segments `segs` delivers, behind the events `before`: their
gate requests in list order; the closure demand of every sign whose segment's form changed, in ascending
sign index over the whole event; a placeholder change for every sign of a newly CLOSED segment. -/
def ClosuresFollow (before : List Instr) (segs : List Nat) (s t : State) : Prop :=
  t.deliveries = before ++
    (segs.flatMap fun i => gateRequests s i (s.seg i).state (t.seg i).state) ++
    ((List.range 24).filterMap fun n =>
      let i := (imageSign s.image n).segment
      if closureForm s.image (s.seg i).state = closureForm s.image (t.seg i).state then none
      else some (Instr.internalDelivery n .closure (closureForm s.image (t.seg i).state))) ++
    segs.flatMap fun i =>
      if (t.seg i).state = .closed ∧ (s.seg i).state ≠ .closed then
        (signList s.image i).map Instr.placeholderChange
      else []

/-! ## Zones -/

/-- R103: the deciding zone of a segment with its state and level: of the zones that threaten it and are
not QUIET the first by state (TRIPPED, SWEEP, WORK, WATCH), then by higher level, then by lower index. -/
def Decides (s : State) (i : Nat) : Option Deciding → Prop
  | none => ∀ z ∈ zoneList s.image i, (s.zone z).state = .quiet
  | some d =>
    let place (st : ZoneState) : Nat := [ZoneState.tripped, .sweep, .work, .watch, .quiet].idxOf st
    d.zone ∈ zoneList s.image i ∧ d.state = (s.zone d.zone).state ∧ d.level = (s.zone d.zone).level ∧
    d.state ≠ .quiet ∧
    ∀ y ∈ zoneList s.image i, y ≠ d.zone →
      place d.state < place (s.zone y).state ∨
      d.state = (s.zone y).state ∧
        ((s.zone y).level < d.level ∨ d.level = (s.zone y).level ∧ d.zone < y)

/-- R105: the form of the zone demand by its deciding zone. -/
def zoneForm (img : Image) (d : Deciding) : DemandContent :=
  if d.state = .work then { slot := img.controlSlot, severity := 6, flash := .unison }
  else if d.state = .tripped ∨ d.state = .sweep then
    { slot := img.avalancheSlot, severity := 6, flash := .alternate }
  else if d.level ≤ 3 then { slot := img.level3Slot, severity := 4, flash := .dark }
  else if d.level = 4 then { slot := img.level4Slot, severity := 5, flash := .dark }
  else { slot := img.level5Slot, severity := 5, flash := .alternate }

/-- R104, R138: the zone demands of one event: for every sign whose segment has another deciding zone, or
one of another state or level, than was last delivered, its form or its withdrawal, in ascending sign
index. -/
def zoneDemands (s t : State) : List Instr :=
  (List.range 24).filterMap fun n =>
    let i := (imageSign s.image n).segment
    if t.shownZone i = s.shownZone i then none
    else some (Instr.internalDelivery n .zone ((t.shownZone i).map (zoneForm s.image)))

/-- R103, R104: every segment's deciding zone is the one last delivered. -/
def ZonesDecided (t : State) : Prop := ∀ i < 12, Decides t i (t.shownZone i)

/-- R93: the degraded field of a zone is the one its lines give. -/
def DegradedByLines (t : State) (z : Nat) : Prop :=
  (t.zone z).degraded = true ↔
    ∃ l ∈ lineList t.image z, (t.line l).state = .unmonitored ∨ (t.line l).state = .bypassed

/-! ## Weather unit -/

/-- R111: the fitted channels of a head, in ascending input order. -/
def channelsOf (img : Image) (h : Nat) : List Nat :=
  (List.range 4).flatMap fun inp => (List.range 24).filter fun c =>
    (imageChannel img c).any fun e => decide (e.place = some (h, inp))

/-- R116: a channel shows as a number at ^T: FRESH, or FORCED with a value. -/
abbrev ShowsNumber (r : Channel) : Prop :=
  r.status = .fresh ∨ r.status = .forced ∧ r.forced ≠ .absent ∧ r.forced ≠ .failure

/-- R116: what a change at a channel tells the sign arbiter: a placeholder change for every sign of every
segment whose Ts role names it, where its effective value changed, or whether it shows as a number; in
ascending segment and sign (log 24). -/
def placeholdersOf (s t : State) (c : Nat) : List Instr :=
  if effective t c = effective s c ∧ (ShowsNumber (t.channel c) ↔ ShowsNumber (s.channel c)) then []
  else ((List.range 12).filter fun i => (imageSegment s.image i).ts = some c).flatMap fun i =>
    (signList s.image i).map Instr.placeholderChange

/-- R113: what a sample makes of a fitted channel: its value is kept as the last sample, a plausible one is
the last good value with the stale timer afresh and leaves FRESH, an implausible one makes FRESH
IMPLAUSIBLE; a FORCED channel stays so. -/
def SampleTaken (s t : State) (c : Nat) (e : ChannelEntry) (code : RawCode) : Prop :=
  let v := calibrate e code.toNat
  let r := s.channel c
  t.channel c = { r with
    lastSample := some (v, code.toNat),
    lastGood := if plausible e v then some v else r.lastGood,
    lastGoodTime := if plausible e v then some s.clock.seconds else r.lastGoodTime,
    stale := if plausible e v then some e.staleLimit else r.stale,
    status := if r.status = .forced then .forced else if plausible e v then .fresh
      else if r.status = .stale then .stale else .implausible }

/-- R111, R113, R116: what samples of these channels tell, channel by channel: the placeholder changes, and a
CHANNEL notice for each change of status. -/
def SamplesTold (cs : List Nat) (s t : State) : Prop :=
  t.deliveries = s.deliveries ++ cs.flatMap (placeholdersOf s t) ∧
  NoticesSent (cs.filterMap fun c =>
    if (t.channel c).status = (s.channel c).status then none
    else some (c, .channel (t.channel c).status
      (if (t.channel c).status = .fresh then .goodSample else .implausible) (effective t c))) s t

/-- R110: the free station link goes to the immediate sample that waits, else to the lowest head whose poll
is due; a granted poll is due no longer. -/
def LinkTakes (due : Nat → Bool) (s t : State) : Prop :=
  t.weather.waiting = none ∧
  match s.weather.waiting with
  | some (h, inp) => t.weather.exchange = some (.immediate h inp) ∧ ∀ k < 8, (t.head k).pollDue = due k
  | none => match (List.range 8).find? due with
    | some h => t.weather.exchange = some (.poll h) ∧
      ∀ k < 8, (t.head k).pollDue = (due k && decide (k ≠ h))
    | none => t.weather.exchange = none ∧ ∀ k < 8, (t.head k).pollDue = false

/-- R109, R110: an exchange with a head ends, and the link goes on; no other head is touched. -/
def ExchangeEnds (h : Nat) (s t : State) : Prop :=
  LinkTakes (fun k => (s.head k).pollDue) s t ∧ t.weather.sampleTimer = s.weather.sampleTimer ∧
  ∀ k < 8, k ≠ h →
    (t.head k).reachable = (s.head k).reachable ∧ (t.head k).lastReply = (s.head k).lastReply

/-! ## Condition evaluator -/

/-- R130, R131: one verdict of a class filter. At the threshold of the next class the count up rises, and
below the threshold of the present one by more than the hysteresis the count down; at the confirmation
count the class moves one step and both counts are 0; every verdict ends the other count. -/
def FilterStep (thresholds : List Nat) (hysteresis n : Nat) (v : Int) (old new : Filter) : Prop :=
  let threshold (k : Nat) : Int := (thresholds.getD (k - 1) 0 : Nat)
  if old.cls < thresholds.length ∧ threshold (old.cls + 1) ≤ v then
    new = if n ≤ old.up + 1 then { cls := old.cls + 1, up := 0, down := 0 }
      else { cls := old.cls, up := old.up + 1, down := 0 }
  else if 0 < old.cls ∧ v < threshold old.cls - hysteresis then
    new = if n ≤ old.down + 1 then { cls := old.cls - 1, up := 0, down := 0 }
      else { cls := old.cls, up := 0, down := old.down + 1 }
  else new = { cls := old.cls, up := 0, down := 0 }

/-- R132, R133: the demand a class calls for: its entry of the map, or none in class 0. -/
def classForm (m : List MapEntry) (k : Nat) : Option DemandContent :=
  if k = 0 then none
  else some { slot := (m.getD (k - 1) default).slot, severity := (m.getD (k - 1) default).severity,
              flash := (m.getD (k - 1) default).flash }

/-! ## Status records (R181, R183) -/

/-- A small value, or absent. -/
def oneByte (n : Option Nat) : Byte := byteOf (n.getD 0xFF)

/-- A named value by its place in the list of its rule, or absent. -/
def ordinal {α : Type} [BEq α] (l : List α) : Option α → Byte
  | some v => byteOf (l.idxOf v)
  | none => 0xFF

/-- No 0, yes 1. -/
def yesNo (b : Bool) : Byte := if b then 1 else 0

/-- A value of two names, by place: the first 0, the second 1 (log 17). -/
def firstName (b : Bool) : Byte := if b then 0 else 1

/-- Seconds remaining, 0 for absent. -/
def secondsLeft (t : Option Nat) : List Byte := be16 (BitVec.ofNat 16 (t.getD 0))

/-- A weather value, gain or offset, or absent. -/
def weatherValue (v : Option Int) : List Byte := be16 (BitVec.ofInt 16 (v.getD 0x7FFF))

/-- Corridor seconds, or absent. -/
def stampBytes (w : Option Word) : List Byte :=
  be32 (match w with
    | none => 0xFFFFFFFF#32
    | some v => if v = 0xFFFFFFFF#32 then 0xFFFFFFFE#32 else v)

/-- Hours, minutes and seconds. -/
def timeBytes (t : TimeOfDay) : List Byte := [byteOf t.hours, byteOf t.minutes, byteOf t.seconds]

/-- The segment record. -/
def segmentRecord (s : State) (i : Nat) : List Byte :=
  let g := s.seg i
  let e := s.eval i
  [ordinal [SegState.opened, .prewarn, .lowering, .closed, .raising] (some g.state)] ++
  be16 g.revision ++
  [ordinal [AgentSource.avs, .enf, .roc, .cab] ((s.hold i).map (·.holder))] ++
  secondsLeft ((s.hold i).map (·.remaining)) ++ secondsLeft g.dwell ++
  [yesNo g.barrierFault, yesNo g.reopenPending, yesNo g.zoneLock] ++
  (match g.stamp with
    | .absent => [0xFF, 0xFF, 0xFF]
    | .unset => [0xFE, 0xFE, 0xFE]
    | .taken t => timeBytes t) ++
  [byteOf e.cond.cls, byteOf e.wind.cls] ++ be16 (BitVec.ofNat 16 e.score) ++
  [byteOf e.cond.up, byteOf e.cond.down, byteOf e.wind.up, byteOf e.wind.down] ++
  ([g.claims.avs, g.claims.enf, g.claims.roc, g.claims.cab, g.claims.det, g.claims.rst].flatMap fun c =>
    [yesNo c.isSome, oneByte (c.map (·.reason))] ++ stampBytes (c.map (·.placedAt)) ++
    [(c.map fun k => firstName k.immediate).getD 0xFF]) ++
  (let zs := (g.claims.det.map (·.zones)).getD []
   byteOf zs.length :: zs.map byteOf)

/-- The zone record. -/
def zoneRecord (s : State) (z : Nat) : List Byte :=
  let r := s.zone z
  let e := imageZone s.image z
  [byteOf r.level, ordinal [ZoneState.quiet, .watch, .tripped, .work, .sweep] (some r.state),
    firstName e.failClosed, yesNo r.degraded] ++
  secondsLeft r.permit ++
  (byteOf e.threatened.length :: e.threatened.map byteOf) ++
  (byteOf (lineList s.image z).length :: (lineList s.image z).map byteOf) ++
  (byteOf r.fired.length :: r.fired.map byteOf)

/-- The gate record. -/
def gateRecord (s : State) (g : Nat) : List Byte :=
  let r := s.gate g
  [oneByte (imageGate s.image g).segment, oneByte (imageGate s.image g).station,
    ordinal [GateState.unknown, .opened, .lowering, .closed, .raising, .retreat, .wait, .fault, .manual,
      .offline] (some r.state),
    ordinal [Position.up, .down, .between] r.position, byteOf r.attempts] ++
  secondsLeft r.timer ++
  [ordinal [GateFault.travelTimeout, .obstructionLimit, .stationLost, .positionConflict] r.cause]

/-- The trip-line record. -/
def lineRecord (s : State) (l : Nat) : List Byte :=
  let e := imageLine s.image l
  [oneByte (e.place.map (·.1)), oneByte (e.place.map (·.2)), oneByte e.zone,
    ordinal [LineState.normal, .fired, .cut, .bypassed, .unmonitored] (some (s.line l).state),
    ordinal [Condition.quiet, .alarm, .openCircuit] (s.line l).pending, byteOf (s.line l).confirm]

/-- The channel record; the fields fixed by the image are held for every channel, head and input being
absent for one that is not fitted (R108). -/
def channelRecord (s : State) (c : Nat) : List Byte :=
  let r := s.channel c
  let e := imageFixed s.image c
  let code (n : Option Nat) : List Byte := be16 (BitVec.ofNat 16 (n.getD 0x7FFF))
  [oneByte (e.place.map (·.1)), oneByte (e.place.map (·.2)),
    ordinal [ChannelType.surfaceTemp, .dewPoint, .precip, .snowDepth, .windGust] (some e.type),
    ordinal [ChannelStatus.fresh, .stale, .implausible, .forced] (some r.status)] ++
  weatherValue (some (e.gain : Int)) ++ weatherValue (some e.offset) ++ weatherValue (some e.low) ++
  weatherValue (some e.high) ++ be16 (BitVec.ofNat 16 e.staleLimit) ++
  [ordinal [FaultAction.hold, .fallback, .worst] (some e.action)] ++
  weatherValue (some e.fallback) ++ weatherValue r.lastGood ++ stampBytes r.lastGoodTime ++
  secondsLeft r.stale ++
  (match r.forced with
    | .absent => 0 :: weatherValue none
    | .value v => 1 :: weatherValue (some v)
    | .failure => 2 :: weatherValue none) ++
  weatherValue (r.lastSample.map (·.1)) ++ code (r.lastSample.map (·.2)) ++
  weatherValue (effective s c) ++
  [((e.place.map fun k => yesNo (s.head k.1).reachable)).getD 0xFF] ++
  stampBytes (e.place.bind fun k => (s.head k.1).lastReply)

/-- A demand key (R181). -/
def keyBytes : DemandKey → List Byte
  | .agent src tag => [ordinal [AgentSource.avs, .enf, .roc, .cab] (some src), byteOf tag]
  | .internal .closure => [6, 0]
  | .internal .zone => [7, 1]
  | .internal .cond => [8, 2]
  | .internal .wind => [8, 3]

/-- A flash pattern. -/
def flashByte (f : Flash) : Byte := ordinal [Flash.dark, .alternate, .unison] (some f)

/-- The logical-sign record. -/
def signRecord (s : State) (n : Nat) : List Byte :=
  let o := s.out n
  let e := imageSign s.image n
  [byteOf e.segment, ordinal [Direction.uphill, .downhill] (some e.direction), oneByte (s.primary n),
    oneByte e.standby, oneByte e.beacon, oneByte e.defaultMessage, oneByte (s.target n),
    ordinal [OutState.shown, .pending, .dark] (some o.output), yesNo o.carried, byteOf o.mismatches,
    yesNo o.owed, flashByte o.beacon] ++
  o.face.text ++ [byteOf o.face.picto] ++ be16 o.checksum ++ [byteOf (s.stack n).length] ++
  (s.stack n).flatMap fun d =>
    keyBytes d.key ++ [byteOf d.slot, byteOf d.severity, flashByte d.flash] ++
    secondsLeft d.expiry ++ be32 d.arrival

/-- The station record. -/
def stationRecord (s : State) (x : Nat) : List Byte :=
  let r := s.station x
  [ordinal [StationType.sign, .gate, .trip, .beacon, .unused] (some (imageType s.image x)),
    ordinal [StationState.absent, .powering, .identifying, .active, .lost, .quiescing, .off, .faulted]
      (some r.state),
    ordinal [StationFault.powerFault, .typeMismatch, .identTimeout, .faceCheck] r.cause,
    byteOf r.missed, firstName r.power, ordinal [Indicator.dark, .steady, .blink] (some r.indicator),
    firstName r.contactClosed] ++ be32 (r.serial.getD 0xFFFFFFFF#32)

/-- The port record; the binding of an unbound port is absent, with L and U 0 and 9600 baud (R20, log 18). -/
def portRecord (s : State) (p : Nat) : List Byte :=
  let b := imagePort s.image p
  let q := s.port p
  let c := s.cursor p
  [ordinal [AgentSource.avs, .enf, .roc, .cab] (b.map (·.source)),
    ordinal [LinkState.unbound, .silent, .linked, .lost] (some (s.portLink p).state)] ++
  be16 (BitVec.ofNat 16 ((b.map (·.lower)).getD 0)) ++
  be16 (BitVec.ofNat 16 ((b.map (·.upper)).getD 0)) ++
  secondsLeft (s.portLink p).lower ++ secondsLeft (s.portLink p).window ++
  [ordinal [LossAction.retain, .withdraw] (b.map (·.loss)),
    ordinal [LineSpeed.b9600, .b19200, .b38400, .b57600] (some ((b.map (·.speed)).getD .b9600)),
    firstName s.auth.keyLine, yesNo s.loader.safe] ++
  stampBytes (some s.clock.seconds) ++
  ((s.clock.timeOfDay.map timeBytes).getD [0xFE, 0xFE, 0xFE]) ++
  [byteOf q.crcErrors, byteOf q.intake.length, byteOf q.notices.length, yesNo q.overflowOwed,
    q.subscription.setWidth 8, oneByte c.slot, byteOf c.line, byteOf c.column, yesNo c.locked]

/-- The slot record: stored 0, user 1. -/
def slotRecord (s : State) (n : Nat) : List Byte :=
  if n < 96 then
    [0] ++ (imageSlot s.image n).text ++ [byteOf (imageSlot s.image n).picto, 1, 0xFF]
  else
    [1] ++ (s.userSlot n).text ++
      [byteOf (s.userSlot n).picto, yesNo (s.userSlot n).defined, byteOf (s.userSlot n).refs]

/-- The record of an object kind 0–8 and an index (R180, R183). -/
def recordOf (s : State) (kind index : Nat) : List Byte :=
  [byteOf kind, byteOf index] ++
    ((match kind with
      | 0 => segmentRecord s index
      | 1 => zoneRecord s index
      | 2 => gateRecord s index
      | 3 => lineRecord s index
      | 4 => channelRecord s index
      | 5 => signRecord s index
      | 6 => stationRecord s index
      | 7 => portRecord s index
      | _ => slotRecord s index) : List Byte)

/-! ## Notice frames (R181, R182) -/

/-- A cause by its place in the cause table of its rule, counted from 1. -/
def fromOne {α : Type} [BEq α] (l : List α) (c : α) : Byte := byteOf (l.idxOf c + 1)

/-- What a notice says after its index: the new state, the cause, and behind the corridor seconds the data
of its kind. The class byte stands in every SEGMENT notice, the bypassed count in a CLEARED notice only
(log 19). -/
def noticeFields : NoticeBody → Byte × Byte × List Byte
  | .segment st cause revision barrier newClass =>
    (ordinal [SegState.opened, .prewarn, .lowering, .closed, .raising] (some st),
      fromOne [SegCause.claim, .release, .forceRelease, .restartConfirm, .detector, .zoneCleared,
        .zoneLock, .dwellExpiry, .gatesDown, .gatesUp, .holdTaken, .holdReleased, .holdExpired,
        .holdLost, .condClass, .windClass] cause,
      be16 revision ++ [yesNo barrier, oneByte newClass])
  | .zone st cause level degraded line bypassed =>
    (ordinal [ZoneState.quiet, .watch, .tripped, .work, .sweep] (some st),
      fromOne [ZoneCause.level, .trip, .line, .sweep, .cleared, .permit, .permitRenewed, .permitEnd,
        .permitExpiry] cause,
      [byteOf level, yesNo degraded, oneByte (line.map (·.1)),
        ordinal [LineState.normal, .fired, .cut, .bypassed, .unmonitored] (line.map (·.2))] ++
        (bypassed.toList.map byteOf))
  | .gate st cause position fault =>
    (ordinal [GateState.unknown, .opened, .lowering, .closed, .raising, .retreat, .wait, .fault,
        .manual, .offline] (some st),
      fromOne [GateCause.order, .reached, .travelTimeout, .obstruction, .retreated, .retry,
        .obstructionLimit, .positionConflict, .leverEngaged, .leverReleased, .manualMove, .stationLost,
        .stationOffline, .stationReturn, .startupLimit, .faultClear, .positionSettled] cause,
      [ordinal [Position.up, .down, .between] position,
        ordinal [GateFault.travelTimeout, .obstructionLimit, .stationLost, .positionConflict] fault])
  | .station st cause fault =>
    (ordinal [StationState.absent, .powering, .identifying, .active, .lost, .quiescing, .off, .faulted]
        (some st),
      fromOne [StationCause.presenceClosed, .presenceOpened, .settled, .identified, .typeMismatch,
        .identTimeout, .noReply, .reply, .powerFault, .faceCheck, .attention, .attentionRefused,
        .stationOff, .stationRestart, .quiesced] cause,
      [ordinal [StationFault.powerFault, .typeMismatch, .identTimeout, .faceCheck] fault])
  | .sign st cause winner =>
    (ordinal [OutState.shown, .pending, .dark] (some st),
      fromOne [SignCause.post, .withdraw, .expiry, .linkLoss, .closure, .zone, .cond, .wind, .retarget,
        .confirmed, .mismatch, .recomposed] cause,
      (winner.map keyBytes).getD [0xFF, 0xFF])
  | .channel st cause value =>
    (ordinal [ChannelStatus.fresh, .stale, .implausible, .forced] (some st),
      fromOne [ChannelCause.goodSample, .implausible, .staleLimit, .forced, .unforced] cause,
      weatherValue value)
  | .port st cause source =>
    (ordinal [LinkState.unbound, .silent, .linked, .lost] (some st),
      fromOne [PortCause.presence, .windowExpiry] cause,
      [ordinal [AgentSource.avs, .enf, .roc, .cab] source])

/-- The place of a notice's kind in the bit order of R178. -/
def kindByte : NoticeBody → Byte
  | .segment .. => 0
  | .zone .. => 1
  | .gate .. => 2
  | .station .. => 3
  | .sign .. => 4
  | .channel .. => 5
  | .port .. => 6

/-- The body of a notice's frame (R182). -/
def noticeFrame (n : Notice) (overflow : Bool) : List Byte :=
  let f := noticeFields n.body
  [0xF0, kindByte n.body, yesNo overflow, byteOf n.index, f.1, f.2.1] ++ stampBytes (some n.stamp) ++ f.2.2

/-! ## Records after a command -/

/-- The seconds of a time of day since midnight. -/
def secondsOfDay (t : TimeOfDay) : Nat := 3600 * t.hours + 60 * t.minutes + t.seconds

/-- One source's claim leaves a segment: no other claim changes, and where the set becomes empty the
segment takes the state of R59, R61 and R62. -/
def ClaimLeaves (s t : State) (i : Nat) (src : ClaimSource) : Prop :=
  (t.seg i).claims = (s.seg i).claims.put src none ∧ (t.seg i).zoneLock = (s.seg i).zoneLock ∧
  (t.seg i).state =
    (if ((s.seg i).claims.put src none).isEmpty then afterEmptied s i else (s.seg i).state) ∧
  OpensUp s t i

/-- R71: what the orders given to a gate leave of the exchange on the field bus: a direction order in
flight is replaced by any order, a STOP in flight by a new STOP alone (log 16). -/
def OrdersReplace (g : Nat) (stop : Bool) (s t : State) : Prop :=
  t.field = { s.field with
    exchange := s.field.exchange.map fun e =>
      if e.carries = .drive g ∨ e.carries = .stop g ∧ stop = true then { e with carries := .nothing }
      else e }

/-- What a request leaves of a gate: state, attempt count, orders and motion timer. -/
def GateOrdered (s t : State) (g : Nat) (st : GateState) (d : Drive) (stop : Bool) : Prop :=
  (t.gate g).state = st ∧ (t.gate g).driveOwed = some d ∧ (t.gate g).cause = none ∧
  ((t.gate g).stopOwed = true ↔ stop = true ∨ (s.gate g).stopOwed = true) ∧
  (t.gate g).timer = some s.image.travelLimit ∧ (t.gate g).position = (s.gate g).position ∧
  OrdersReplace g stop s t

/-- R78: the result of settling a gate at a position by the direction its segment calls for: LOWER or RAISE
is given with the travel limit afresh, a descent with the attempt count at 0; otherwise the gate is at rest
and no order changes. -/
def SettledBy (s t : State) (g : Nat) : Prop :=
  (match (t.gate g).position with
    | some .up => (t.gate g).state = if callsDown s g then .lowering else .opened
    | some .down => (t.gate g).state = if callsUp s g then .raising else .closed
    | some .between =>
      (t.gate g).state = if callsDown s g then .lowering else if callsUp s g then .raising else .unknown
    | none => (t.gate g).state = .unknown) ∧
  (t.gate g).cause = none ∧ (t.gate g).stopOwed = (s.gate g).stopOwed ∧
  if (t.gate g).state = .lowering then
    (t.gate g).driveOwed = some .lower ∧ (t.gate g).timer = some s.image.travelLimit ∧
    (t.gate g).attempts = 0 ∧ OrdersReplace g false s t
  else if (t.gate g).state = .raising then
    (t.gate g).driveOwed = some .raise ∧ (t.gate g).timer = some s.image.travelLimit ∧
    OrdersReplace g false s t
  else (t.gate g).driveOwed = (s.gate g).driveOwed ∧ (t.gate g).timer = none ∧ t.field = s.field

/-- What R86 reports of a gate: a change of state, or of position in MANUAL. -/
abbrev GateChanged (a b : Gate) : Prop := b.state ≠ a.state ∨ b.state = .manual ∧ b.position ≠ a.position

/-- R86: a change that is reported goes to the gate's segment, where it has one, behind the events `before`,
and as one GATE notice with this cause; no other event is delivered and no other notice produced. -/
def GateTells (before : List Instr) (cause : GateCause) (g : Nat) (s t : State) : Prop :=
  t.deliveries = before ++
    (if GateChanged (s.gate g) (t.gate g) ∧ (segmentOfGate s g).isSome = true then
      [.gateReportToSegment g] else []) ∧
  NoticeIf (GateChanged (s.gate g) (t.gate g)) g
    (.gate (t.gate g).state cause (t.gate g).position (t.gate g).cause) s t

/-- R86: the cause of the notice that a report of the station sends, by the gate before it. -/
def reportCause (g : Gate) (r : GateReport) : GateCause :=
  if r.lever then
    if g.state = .manual then .manualMove
    else if g.state = .retreat ∧ g.cause = some .obstructionLimit then .obstructionLimit
    else .leverEngaged
  else match g.state with
    | .manual => .leverReleased
    | .lowering => if r.position = .down then .reached else .obstruction
    | .raising => .reached
    | .retreat => if g.cause = some .obstructionLimit then .obstructionLimit else .retreated
    | .opened | .wait | .closed => .positionConflict
    | .unknown | .fault | .offline => .positionSettled

/-- R90: a line's record after one reported condition that does not confirm a new state: the count of
reports towards the new condition, or none pending where the condition is the present one. -/
def Counted (r : Line) (c : Condition) : Line :=
  if differs r.state c then
    { r with pending := some c, confirm := if r.pending = some c then r.confirm + 1 else 1 }
  else { r with pending := none, confirm := 0 }

/-- R90–R92: the lines whose state an event of a TRIP station changes, in ascending input order, each with
the state it takes: the condition that reaches the debounce count, or UNMONITORED at a loss. -/
def lineChanges (s : State) : Instr → List (Nat × LineState)
  | .tripReport x r | .tripStationReturn x r => (stationLines s.image x).filterMap fun l =>
    let c := conditionAt r (inputOf s l)
    if s.image.debounce ≤ (Counted (s.line l) c).confirm then some (l, stateOf c) else none
  | .tripStationLost x => (stationLines s.image x).filterMap fun l =>
    if (s.line l).state = .unmonitored then none else some (l, .unmonitored)
  | _ => []

/-- R94, R95, R103–R105: what changes of lines do at the zones, behind the events `before`. The firing
lines of a zone join its fired list, but in SWEEP; a zone in QUIET or WATCH with one is TRIPPED, and a
detector event goes to each segment it threatens; the deciding zones follow, with the zone demands of the
whole event in ascending sign index. -/
def ZonesFollowLines (before : List Instr) (changes : List (Nat × LineState)) (s t : State) : Prop :=
  let firing (z : Nat) : List Nat := (changes.filter fun x =>
    (imageLine s.image x.1).zone = some z ∧ fires s z x.2 = true).map (·.1)
  let trips (z : Nat) : Prop := firing z ≠ [] ∧ ((s.zone z).state = .quiet ∨ (s.zone z).state = .watch)
  (∀ z < 10,
    (t.zone z).level = (s.zone z).level ∧ (t.zone z).permit = (s.zone z).permit ∧
    (trips z → (t.zone z).state = .tripped) ∧ (¬trips z → (t.zone z).state = (s.zone z).state) ∧
    (t.zone z).fired = (if (s.zone z).state = .sweep then (s.zone z).fired
      else (s.zone z).fired ++ (firing z).filter fun l => l ∉ (s.zone z).fired) ∧
    DegradedByLines t z) ∧
  (∃ (zs : List Nat) (d : List Instr), zs.Nodup ∧ (∀ z, z ∈ zs ↔ z < 10 ∧ trips z) ∧
    t.deliveries = before ++
      (zs.flatMap fun z => (imageZone s.image z).threatened.map fun i => Instr.detectorEvent i z) ++ d ∧
    (d.filterMap deliveredSign).Pairwise (· ≤ ·) ∧ (∀ c ∈ d, ∃ n e, c = .internalDelivery n .zone e) ∧
    ∀ n < 24, let i := (imageSign s.image n).segment
      t.shownZone i ≠ s.shownZone i →
        (d.filter fun c => deliveredSign c = some n).getLast? =
          some (Instr.internalDelivery n .zone ((t.shownZone i).map (zoneForm s.image)))) ∧
  ZonesDecided t

/-- The lines of a zone that refuse its clearance without the bypass option (R98). -/
def Refusing (s : State) (z : Nat) : List Nat :=
  (lineList s.image z).filter fun l =>
    (s.line l).state = .fired ∨ (s.line l).state = .cut ∨ (s.line l).state = .unmonitored

/-- The frame at the head of a port's queue is replaced by one with the probe flag clear. -/
def withoutProbe (s : State) (p : Nat) (body : List Byte) : State :=
  s.setPort p { s.port p with
    intake := body.set 1 (bodyFlags body &&& 0xFD#8) :: (s.port p).intake.drop 1 }

/-- R138, R139: what follows at one sign once its stack has changed: where the winner is another demand
the face is the composed one, the re-render timer starts afresh and the beacon pattern follows;
otherwise the sign's output stands. -/
def WinnerFollowed (won : Prop) (s t : State) (n : Nat) : Prop :=
  (won → (t.out n).face = composeFace t n ∧
    (t.out n).beacon = patternOf (t.stack n) ∧ (t.out n).timer = some 60 ∧ (t.out n).owed = false ∧
    (t.out n).target = (s.out n).target ∧
    (composeFace t n = (s.out n).face → (t.out n).output = (s.out n).output ∧
      (t.out n).carried = (s.out n).carried) ∧
    (composeFace t n ≠ (s.out n).face →
      (t.out n).checksum = faceChecksum (composeFace t n) ∧ (t.out n).carried = false ∧ (t.out n).mismatches = 0 ∧
      (t.out n).output = if (s.out n).target.isSome then .pending else .dark)) ∧
  (¬won → t.out n = s.out n)

/-- A change of stacks leaves the texts of the library, every cursor, the flash timing and the field
stations, and of an exchange on the field bus it changes at most what that carries. -/
def BesideStacks (s t : State) : Prop :=
  t.library.cursors = s.library.cursors ∧
  (∀ m < 128, 96 ≤ m → t.userSlot m = { s.userSlot m with refs := (t.userSlot m).refs }) ∧
  t.arbiter.elapsed = s.arbiter.elapsed ∧
  t.field = { s.field with exchange := t.field.exchange } ∧
  (∀ e, t.field.exchange = some e → ∃ f, s.field.exchange = some f ∧
    e = { f with carries := e.carries } ∧ (e.carries = f.carries ∨ e.carries = .nothing)) ∧
  ChangesOnly [.ports, .arbiter, .library, .field] s t

/-- The demands whose keys satisfy `p` leave the stacks of the given signs, with the consequences of
R139; every other demand and sign stands, and no serial is taken. -/
def DemandsLeave (p : DemandKey → Bool) (signs : List Nat) (s t : State) : Prop :=
  (∀ n ∈ signs, t.stack n = withoutKeys p (s.stack n) ∧
    WinnerFollowed (winnerKey (t.stack n) ≠ winnerKey (s.stack n)) s t n) ∧
  (∀ n, n ∉ signs → t.stack n = s.stack n ∧ t.out n = s.out n) ∧
  t.arbiter.arrival = s.arbiter.arrival ∧ LinesKept s t

/-- R139: exactly one SIGN notice for each of these signs whose winner is another demand, in this order. -/
def WinnersTold (signs : List Nat) (cause : SignCause) (s t : State) : Prop :=
  NoticesSent ((signs.filter fun n => winnerKey (t.stack n) ≠ winnerKey (s.stack n)).map fun n =>
    (n, .sign (t.out n).output cause (winnerKey (t.stack n)))) s t

/-- The output record of a sign after a composition (R147, R149): the composed face, a transfer begun
where it differs, the re-render timer afresh. -/
def Recomposed (s : State) (n : Nat) : SignOut :=
  let o := s.out n
  if composeFace s n = o.face then { o with timer := some 60, owed := false }
  else { o with
    face := composeFace s n, checksum := faceChecksum (composeFace s n), carried := false,
    mismatches := 0, output := if o.target.isSome then .pending else .dark,
    timer := some 60, owed := false }

/-- R11, R12: what a changed table hands on: one retarget event for each sign whose target changed, in
ascending order, behind the events `before`; a station that is a target no longer and still ACTIVE is
marked for blanking, and the mark of a station that is a target ends. -/
def TableReplaced (before : List Instr) (s t : State) : Prop :=
  t.deliveries = before ++ ((List.range 24).filterMap fun n =>
    if s.target n = t.target n then none else some (Instr.retarget n (s.target n) (t.target n))) ∧
  (∀ y < 32, t.station y = { s.station y with
    blankOwed :=
      if ∃ n ∈ List.range 24, t.target n = some y then false
      else if (∃ n ∈ List.range 24, s.target n = some y) ∧ t.panelUp y = true then true
      else (s.station y).blankOwed })

/-- The sign's standby where it is ACTIVE and no other sign's target (R8). -/
def freeStandby (s : State) (n : Nat) : Option Nat :=
  (imageSign s.image n).standby.filter fun y =>
    s.panelUp y && (List.range 24).all fun m => m == n || s.target m != some y

/-- The sign is the lowest-numbered of those that wait for the station as their standby (R8, R10, R13). -/
abbrev NextFor (s : State) (x n : Nat) : Prop := waitsFor s x n = true ∧ ∀ m < n, waitsFor s x m = false

/-- R71, R150, R152, R153, R165: what a poll of an ACTIVE station carries, by its type: the order owed to its
gate, STOP ahead of the direction order; the face of the sign whose target it is, as last told (log 10),
where that is not yet carried; to the panel of no sign the blank face where it is owed (log 26); the pattern
of the sign whose beacon it is, where that is not yet carried. -/
def PollCarries (s : State) (x : Nat) (c : Carriage) : Prop :=
  match imageType s.image x with
  | .gate =>
    (∀ g < 8, (imageGate s.image g).station = some x → c =
      if (s.gate g).stopOwed then .stop g
      else if (s.gate g).driveOwed = none then .nothing else .drive g) ∧
    ((∀ g < 8, (imageGate s.image g).station ≠ some x) → c = .nothing)
  | .sign =>
    (∀ n < 24, (s.out n).target = some x → (∀ m < n, (s.out m).target ≠ some x) → c =
      if (s.out n).carried then .nothing else .face n) ∧
    ((∀ n < 24, (s.out n).target ≠ some x) → c =
      if (s.station x).blankOwed then .blank else .nothing)
  | .beacon =>
    (∀ n < 24, (imageSign s.image n).beacon = some x → c =
      if (s.out n).beaconOwed then .pattern n else .nothing) ∧
    ((∀ n < 24, (imageSign s.image n).beacon ≠ some x) → c = .nothing)
  | .trip | .unused => c = .nothing

/-- A station stands in a state with the power and the indicator of that state (R162). -/
def StationIn (t : State) (x : Nat) (st : StationState) (cause : Option StationFault) : Prop :=
  (t.station x).state = st ∧ (t.station x).cause = cause ∧ (t.station x).power = st.power ∧
  (t.station x).indicator = st.indicator

/-- R9, R82, R91, R153, R167, R168: station `x` has entered QUIESCING and is no longer in its role. `u` is
`s` with what waited of the station taken by the owner of its role; the departure follows at once: a SIGN
is no sign's target and its sign has the standby that is free, as its output has; a GATE leaves its gate
OFFLINE, or in the FAULT it had; the lines of a TRIP are UNMONITORED, with what follows at their zones; a
BEACON is not driven. -/
def Quiesced (s u t : State) (x : Nat) : Prop :=
  StationIn t x .quiescing none ∧ (t.station x).quiesceTries = 0 ∧ (t.station x).blankOwed = false ∧
  (∀ y, y ≠ x → t.station y = { s.station y with blankOwed := (t.station y).blankOwed }) ∧
  (match imageType s.image x with
    | .sign =>
      t.panelUp x = false ∧ (∀ y, y ≠ x → t.panelUp y = u.panelUp y) ∧
      t.placement.primaries = u.placement.primaries ∧
      (∀ n < 24, t.target n =
        if u.target n = some x then (freeStandby u n).filter (· != x) else u.target n) ∧
      (∀ n < 24, u.target n = some x → (t.out n).target = t.target n ∧ (t.out n).carried = false ∧
        (t.out n).output = if (t.target n).isSome then .pending else .dark) ∧
      (∀ n a b, Instr.retarget n a b ∉ t.deliveries) ∧
      (∀ c, (∀ n a b, c ≠ .retarget n a b) → t.deliveries.count c = u.deliveries.count c)
    | .gate => ∀ g, gateOfStation s.image x = some g →
      (t.gate g).stationUp = false ∧ (t.gate g).stopOwed = false ∧ (t.gate g).driveOwed = none ∧
      (t.gate g).timer = none ∧ (t.gate g).position = (u.gate g).position ∧
      (if (u.gate g).state = .fault then (t.gate g).state = .fault ∧ (t.gate g).cause = (u.gate g).cause
      else (t.gate g).state = .offline) ∧
      (∀ y, y ≠ g → t.gate y = u.gate y) ∧
      t.deliveries = u.deliveries ++
        (if (t.gate g).state ≠ (u.gate g).state then [.gateReportToSegment g] else [])
    | .trip =>
      (∀ l < 24, t.line l =
        if l ∈ stationLines s.image x ∧ (u.line l).state ≠ .unmonitored then
          { state := .unmonitored, pending := none, confirm := 0 }
        else u.line l) ∧
      ZonesFollowLines u.deliveries (lineChanges u (.tripStationLost x)) u t
    | .beacon => t.deliveries = u.deliveries ∧ ∀ n < 24, t.out n =
      if signOfBeacon s.image x = some n then
        { u.out n with beaconDriven := false, beaconOwed := false, lamp1 := false, lamp2 := false }
      else u.out n
    | .unused => True) ∧
  LinesKept s t ∧ ChangesOnly [.ports, .gates, .zones, .arbiter, .placement, .field, .deliveries] s t

/-- No station but `x` changes, but for a request of identification that is sent on the freed bus. -/
def OthersStand (s t : State) (x : Nat) : Prop :=
  ∀ y, y ≠ x → t.station y = { s.station y with identDue := (t.station y).identDue }

/-- Every segment threatened by a zone in WORK is CLOSED and under zone lock. -/
def WorkIsShut (s : State) : Prop :=
  ∀ z < 10, (s.zone z).state = .work → ∀ i ∈ (imageZone s.image z).threatened,
    (s.seg i).state = .closed ∧ (s.seg i).zoneLock = true

end Sys2Proof
end

