-- ==== Sys2Proof/Certificates/Slice0/Obligations.lean ====
section
/-! DEFINITION. The statements about the part, for the provers. A statement over the tables assumes
`TablesOk` (every table has its size and the image in effect passes the loader's checks), which is
itself stated to hold at reset and to be kept by every step. -/

open Sys2Proof Sys2Proof.Machine

/-! ## Steps, outcomes and checks -/

/-- The command at the front of the queue is carried out on the state with the rest of the queue. -/
def Obligations.StepTakesFrontCommand : Prop :=
  ∀ (c : Instr) (rest : List Instr) (s : State),
    step { s with pending := c :: rest } = exec c { s with pending := rest }

/-- Every command that names objects the part has completes in every state and leaves the queue, and a
queue of such commands therefore runs without a fault; every other command raises the one fault: the
model's choice (log 22). -/
def Obligations.WellFormedCommandsComplete : Prop :=
  (∀ (c : Instr) (s : State), c.wellFormed = true →
    ∃ t, exec c s = .next t ∧ t.pending = s.pending) ∧
  (∀ (c : Instr) (s : State), c.wellFormed = false → exec c s = .fault .noSuchObject) ∧
  ∀ s : State, QueueOk s → SafeStep s

/-- On an empty queue the oldest event between blocks is taken, and with none the part idles; an agent
command whose frame is not at the head of its port's queue, or waits for the reply of the command before
it, does nothing: the model's choices (logs 2 and 3). -/
def Obligations.PartIdlesWithoutWork : Prop :=
  (∀ s : State, s.pending = [] →
    (∀ c rest, s.deliveries = c :: rest → step s = exec c s) ∧
    (s.deliveries = [] → step s = .next s)) ∧
  ∀ (c : Instr) (p : Nat) (k : CmdKind) (s : State),
    agentCommand c = some (p, k) → portOk p = true → (¬∃ body, Ready s p k body) →
    exec c s = .next s

/-- R27: on a bound port that is not LINKED every command but PRESENCE, STATUS, SUBSCRIBE and PORT
CLEAR is refused with STATE and changes nothing else; those four are never refused by this check, and
a PRESENCE makes the port LINKED. -/
def Obligations.LinkCheckRefusesOnUnlinkedPort : Prop :=
  ∀ (c : Instr) (p : Nat) (k : CmdKind) (s : State) (body : List Byte),
    agentCommand c = some (p, k) → Ready s p k body → TablesOk s →
    (s.sourceOf p).isSome = true → (s.portLink p).state ≠ .linked →
    (k ≠ .presence → k ≠ .status → k ≠ .subscribe → k ≠ .portClear →
      exec c s = .next (answered s p k .state [])) ∧
    (k = .presence ∨ k = .status ∨ k = .subscribe ∨ k = .portClear →
      ∃ t r, exec c s = .next t ∧ (t.port p).owed = (s.port p).owed ++ [r] ∧ r.code ≠ .state) ∧
    (k = .presence → Accepted presenceCommand s p () →
      ∃ t, exec c s = .next t ∧ (t.portLink p).state = .linked)

/-- R40, R174, R176, orders 1 to 5: a kind byte that no command has is answered UNKNOWN with that byte, in
the bytes of R176; then binding, link state, authority and the form of flags and guard are checked in this
order, and the first that fails decides the reply, with nothing else changed. That a probed UNKNOWN carries
no data, by R40 and against the kind byte of R176, is the model's reading (log 20). -/
def Obligations.ChecksRefuseInOrder : Prop :=
  (∀ (s : State) (p : Nat) (body : List Byte),
    portOk p = true → nextFrame s p = some body → assignedKind (bodyKind body) = false →
    exec (.unknownKind p) s = .next ((popFrame s p).owe p
      { kind := if (bodyKind body).toNat < 128 then bodyKind body + 0x80#8 else 0xFF#8,
        code := .unknown, data := if bodyProbe body then [] else [bodyKind body],
        executed := true })) ∧
  ∀ (c : Instr) (p : Nat) (k : CmdKind) (s : State) (body : List Byte),
    agentCommand c = some (p, k) → Ready s p k body →
    (bindingOk s p k = false → exec c s = .next (answered s p k .denied [])) ∧
    (bindingOk s p k = true → linkOk s p k = false → exec c s = .next (answered s p k .state [])) ∧
    (bindingOk s p k = true → linkOk s p k = true → k ≠ .status →
      authorized k (agentOf s p) s.auth.keyLine = false →
      exec c s = .next (answered s p k .denied [])) ∧
    (Admitted s p k →
      (bodyHeaderOk body = false ∨
        ∃ g, bodyGuard body = some g ∧
          (12 ≤ g.segment ∨ g.stateForm = true ∧ (g.high ≠ 0 ∨ 4 < g.low.toNat))) →
      exec c s = .next (answered s p k .badarg []))

/-- R34, R37, R38, R39, R143: the guard check of every command that may carry a guard, on the segment it
names where it reaches one and on any segment where it reaches none, and then the hold check of those that
are subject to holds; WITHDRAW ALL, which reaches all twelve segments, is refused with BADARG under any
guard. -/
def Obligations.GuardAndHoldChecks : Prop :=
  GuardRefuses holdCommand .hold ∧ GuardRefuses unholdCommand .unhold ∧
  GuardRefuses claimCommand .claim ∧ GuardRefuses releaseCommand .release ∧
  GuardRefuses forceReleaseCommand .forceRelease ∧
  GuardRefuses restartConfirmCommand .restartConfirm ∧ GuardRefuses postCommand .post ∧
  GuardRefuses withdrawCommand .withdraw ∧ GuardRefuses setLevelCommand .setLevel ∧
  GuardRefuses beginSweepCommand .beginSweep ∧ GuardRefuses zoneClearCommand .zoneClear ∧
  GuardRefuses permitRequestCommand .permitRequest ∧ GuardRefuses permitEndCommand .permitEnd ∧
  GuardRefuses presenceCommand .presence ∧ GuardRefuses statusCommand .status ∧
  GuardRefuses subscribeCommand .subscribe ∧ GuardRefuses portClearCommand .portClear ∧
  GuardRefuses setTimeCommand .setTime ∧ GuardRefuses remapCommand .remap ∧
  GuardRefuses readingCommand .reading ∧ GuardRefuses gateFaultClearCommand .gateFaultClear ∧
  GuardRefuses forceChannelCommand .forceChannel ∧ GuardRefuses unforceCommand .unforce ∧
  GuardRefuses cursorCommand .cursor ∧ GuardRefuses writeTextCommand .writeText ∧
  GuardRefuses libraryClearCommand .libraryClear ∧ GuardRefuses stationOffCommand .stationOff ∧
  GuardRefuses stationRestartCommand .stationRestart ∧ GuardRefuses imageWriteCommand .imageWrite ∧
  GuardRefuses imageCommitCommand .imageCommit ∧
  (∀ (s : State) (p : Nat) (body : List Byte), Ready s p .withdrawAll body →
    Admitted s p .withdrawAll → bodyGuarded body = true →
    exec (.withdrawAll p) s = .next (answered s p .withdrawAll .badarg [])) ∧
  HoldRefuses holdCommand .hold ∧ HoldRefuses claimCommand .claim ∧
  HoldRefuses releaseCommand .release ∧ HoldRefuses restartConfirmCommand .restartConfirm ∧
  HoldRefuses postCommand .post ∧ HoldRefuses withdrawCommand .withdraw

/-! ## Start-up, clock and key line -/

/-- R189 with the starting values of R7, R17, R18, R24, R30, R68, R69, R84, R87, R89, R109, R110, R112,
R119, R124, R153, R154, R156, R157, R162, R163, R172, R173, R177, R187: START_UP sets every block from the
image it loads. What it keeps is the model's choice (log 28): the queue, the key line, the presence
contacts, the commit marker and, where no write was running, configuration memory; so are the one event it
delivers, the first station-link grant (log 13) and the fields of logs 10, 21 and 23. -/
def Obligations.StartUpSetsEveryBlock : Prop :=
  ∀ s : State, ∃ t, exec .startUp s = .next t ∧
    t.pending = s.pending ∧ t.clock.seconds = 0 ∧ t.clock.timeOfDay = none ∧
    t.auth.keyLine = s.auth.keyLine ∧
    (∀ p < 4, t.portLink p =
      { state := if (t.sourceOf p).isSome then .silent else .unbound, lower := none, window := none }) ∧
    (∀ p < 4, t.port p =
      { assembly := .hunting, crcErrors := 0, intake := [], owed := [], notices := [],
        overflowOwed := false, subscription := 0, lastSent := [] }) ∧
    (∀ i < 12, t.hold i = none ∧ (t.seg i).revision = 0 ∧ (t.seg i).barrierFault = false ∧
      (t.seg i).reopenPending = false ∧ (t.seg i).zoneLock = false ∧ (t.seg i).stamp = .absent ∧
      if (imageSegment t.image i).restartHold then
        (t.seg i).state = .prewarn ∧ (t.seg i).dwell = some t.image.minDwell ∧
        (t.seg i).claims = { ClaimSet.none with rst := some Claim.restart }
      else
        (t.seg i).state = (if gateList t.image i = [] then .opened else .raising) ∧
        (t.seg i).dwell = none ∧ (t.seg i).claims = ClaimSet.none) ∧
    (∀ g < 8, t.gate g =
      { state := .unknown, position := none, attempts := 0, timer := none, cause := none,
        stopOwed := false, driveOwed := none, stationUp := false, lever := false }) ∧
    t.gates.startLimit = some 120 ∧
    (∀ z < 10, (t.zone z).level = 0 ∧ (t.zone z).state = .quiet ∧ (t.zone z).fired = [] ∧
      (t.zone z).permit = none ∧ ((t.zone z).degraded = true ↔ lineList t.image z ≠ [])) ∧
    (∀ l < 24, (t.line l).state = .unmonitored ∧ (t.line l).pending = none ∧ (t.line l).confirm = 0) ∧
    (∀ i < 12, t.shownZone i = none) ∧
    (let first := (List.range 8).find? fun h => headFitted t.image h
     t.weather.exchange = first.map LinkExchange.poll ∧
     ∀ h < 8, t.head h = { reachable := false, lastReply := none,
                           pollDue := headFitted t.image h && decide (first ≠ some h) }) ∧
    (∀ c < 24, t.channel c =
      { lastGood := none, lastGoodTime := none, stale := none, status := .stale, forced := .absent,
        lastSample := none }) ∧
    t.weather.waiting = none ∧ t.weather.slot = .empty ∧ t.weather.sampleTimer = t.image.samplePeriod ∧
    (∀ i < 12, t.eval i = { score := 0, cond := { cls := 0, up := 0, down := 0 },
                            wind := { cls := 0, up := 0, down := 0 } }) ∧
    t.evaluator.timer = t.image.evalPeriod ∧
    (let closing (n : Nat) : Option DemandContent :=
      closureForm t.image (t.seg (imageSign t.image n).segment).state
     let serial (n : Nat) : Word := BitVec.ofNat 32 ((List.range n).filter fun k => (closing k).isSome).length
     t.arbiter.arrival = serial 24 ∧
     ∀ n < 24, t.stack n = match closing n with
      | none => []
      | some c => [{ key := .internal .closure, slot := c.slot, severity := c.severity, flash := c.flash,
                     expiry := none, arrival := serial n }]) ∧
    (∀ n < 24, t.out n =
      { face := composeFace t n, checksum := faceChecksum (composeFace t n), carried := false,
        output := .dark, mismatches := 0, timer := none, owed := false, target := none,
        beacon := patternOf (t.stack n), beaconDriven := false, beaconOwed := false, lamp1 := false,
        lamp2 := false }) ∧
    t.arbiter.elapsed = 0 ∧
    (∀ m < 128, 96 ≤ m → t.userSlot m =
      { text := List.replicate 60 0x20#8, picto := 0, defined := false, refs := 0 }) ∧
    (∀ p < 4, t.cursor p = { slot := none, line := 0, column := 0, locked := false }) ∧
    (∀ n < 24, t.primary n = (imageSign t.image n).primary ∧ t.target n = none) ∧
    (∀ x < 32, t.panelUp x = false) ∧
    (∀ x < 32, (t.station x).state = .absent ∧ (t.station x).cause = none ∧ (t.station x).missed = 0 ∧
      (t.station x).power = false ∧ (t.station x).indicator = .dark ∧ (t.station x).serial = none ∧
      (t.station x).quiesceTries = 0 ∧ (t.station x).lostWait = 0 ∧ (t.station x).identDue = false ∧
      (t.station x).blankOwed = false) ∧
    (TablesOk s → ∀ x < 32, (t.station x).contactClosed = (s.station x).contactClosed) ∧
    t.field.exchange = none ∧ t.field.round = [] ∧ t.field.roundsDue = 0 ∧
    (TablesOk s → t.field.startSeq = (List.range 32).filter fun x =>
      imageType t.image x ≠ .unused ∧ (s.station x).contactClosed = true) ∧
    t.deliveries = (if t.field.startSeq = [] then [] else [.startupSequenceBegin]) ∧
    t.loader.marker = s.loader.marker ∧ t.loader.staging = t.loader.memory ∧
    t.loader.writing = false ∧ (s.loader.writing = false → t.loader.memory = s.loader.memory)

/-- R132, R184, R185, R186, R188: START_UP puts the image of configuration memory in effect, clamped as at
load, exactly where the commit marker is set, the CRC-32 of memory agrees (in the bit order of log 9), its
bytes spell an image (a free value, log 5) and that image passes every condition of the load check; in every other case the built-in
safe image is in effect. Memory is the one before, unless a write was abandoned. -/
def Obligations.StartUpLoadsOnlyAcceptedImages : Prop :=
  ∀ s t : State, exec .startUp s = .next t →
    imageAccepted t.image = true ∧
    (t.loader.marker = false ∨ crcOk t.loader.memory = false →
      t.image = safeImage ∧ t.loader.safe = true) ∧
    (t.loader.marker = true → crcOk t.loader.memory = true →
      match Config.parseImage (t.loader.memory.bytes 0 8188) with
      | none => t.image = safeImage ∧ t.loader.safe = true
      | some img =>
        let clamped : Image := { img with
          condMap := img.condMap.map fun e => { e with severity := max 1 (min 5 e.severity) }
          windMap := img.windMap.map fun e => { e with severity := max 1 (min 5 e.severity) } }
        if imageAccepted clamped = true then t.image = clamped ∧ t.loader.safe = false
        else t.image = safeImage ∧ t.loader.safe = true) ∧
    (s.loader.writing = false → t.loader.memory = s.loader.memory)

/-- R17, R18, R165: a second boundary counts corridor seconds, advances the time of day, takes one second
off every running duration and makes one more poll round due; it changes nothing else. That a duration at
0 stays at 0 until its expiry is taken is the model's choice (log 11). -/
def Obligations.SecondBoundaryCountsEveryDuration : Prop :=
  ∀ s : State, ∃ t, exec .secondBoundary s = .next t ∧
    t.clock.seconds = s.clock.seconds + 1 ∧
    (s.clock.timeOfDay = none → t.clock.timeOfDay = none) ∧
    (∀ d, s.clock.timeOfDay = some d → d.hours < 24 → d.minutes < 60 → d.seconds < 60 →
      ∃ e, t.clock.timeOfDay = some e ∧ e.hours < 24 ∧ e.minutes < 60 ∧ e.seconds < 60 ∧
        secondsOfDay e = (secondsOfDay d + 1) % 86400) ∧
    (∀ p, t.portLink p = { s.portLink p with lower := (s.portLink p).lower.map (· - 1),
                                             window := (s.portLink p).window.map (· - 1) }) ∧
    (∀ i, t.hold i = (s.hold i).map fun h => { h with remaining := h.remaining - 1 }) ∧
    t.auth.keyLine = s.auth.keyLine ∧
    (∀ i, t.seg i = { s.seg i with dwell := (s.seg i).dwell.map (· - 1) }) ∧
    (∀ g, t.gate g = { s.gate g with timer := (s.gate g).timer.map (· - 1) }) ∧
    t.gates.startLimit = s.gates.startLimit.map (· - 1) ∧
    (∀ z, t.zone z = { s.zone z with permit := (s.zone z).permit.map (· - 1) }) ∧
    t.zones.lines = s.zones.lines ∧ t.zones.shown = s.zones.shown ∧
    (∀ c, t.channel c = { s.channel c with stale := (s.channel c).stale.map (· - 1) }) ∧
    t.weather.sampleTimer = s.weather.sampleTimer - 1 ∧
    (∀ r v u d, s.weather.slot = .ready r v u d → t.weather.slot = .ready r v u (d - 1)) ∧
    ((∀ r v u d, s.weather.slot ≠ .ready r v u d) → t.weather.slot = s.weather.slot) ∧
    t.weather.heads = s.weather.heads ∧ t.weather.exchange = s.weather.exchange ∧
    t.weather.waiting = s.weather.waiting ∧
    t.evaluator.timer = s.evaluator.timer - 1 ∧ t.evaluator.recs = s.evaluator.recs ∧
    (∀ n, t.stack n = (s.stack n).map fun d => { d with expiry := d.expiry.map (· - 1) }) ∧
    (∀ n, t.out n = { s.out n with timer := (s.out n).timer.map (· - 1) }) ∧
    t.arbiter.arrival = s.arbiter.arrival ∧ t.arbiter.elapsed = s.arbiter.elapsed ∧
    t.field = { s.field with roundsDue := s.field.roundsDue + 1 } ∧
    ChangesOnly [.clock, .auth, .segments, .gates, .zones, .weather, .evaluator, .arbiter, .field] s t

/-- R22, R23: the key line stands as given and changes nothing else; with it inactive the cabinet's
keyed commands are denied, and with it active only the cabinet may send them; PERMIT END is AVS's at any
time and the cabinet's under the active line. -/
def Obligations.KeyLineDecidesKeyedCommands : Prop :=
  ∀ (s : State) (active : Bool), ∃ t, exec (.keyLineChange active) s = .next t ∧
    t.auth = { s.auth with keyLine := active } ∧ ChangesOnly [.auth] s t ∧
    ∀ k ∈ [CmdKind.forceRelease, .forceChannel, .unforce, .gateFaultClear, .imageWrite, .imageCommit],
      ∀ src, authorized k src t.auth.keyLine = (decide (src = AgentSource.cab) && active) ∧
        authorized .permitEnd src t.auth.keyLine =
          (decide (src = AgentSource.avs) || decide (src = AgentSource.cab) && active)

/-! ## Agent ports -/

/-- R172, R173, R176: a whole frame with a right CRC arrives at its port. With fewer than six frames waiting
an urgent one stands behind the urgent and ahead of the routine ones, a routine one at the end; with
six waiting it is answered BUSY with its kind byte, in the bytes of R176, or discarded when six BUSY replies
are owed. Nothing else changes. That the BUSY of a probed frame carries its kind byte too, where R40 gives
the reply of a probed command no data, is the model's reading (log 20). -/
def Obligations.FrameArrivalQueuesFrame : Prop :=
  ∀ (s : State) (p : Nat) (body : List Byte),
    TablesOk s → portOk p = true → (s.port p).assembly = .hunting →
    1 ≤ body.length → body.length ≤ 200 →
    let queued := if bodyUrgent body then
        (s.port p).intake.filter bodyUrgent ++ [body] ++
          (s.port p).intake.filter (fun b => !bodyUrgent b)
      else (s.port p).intake ++ [body]
    let busy : Reply :=
      { kind := replyKind (bodyKind body), code := .busy, data := [bodyKind body], executed := false }
    ∃ t, exec (.frameArrival p (frameOf body)) s = .next t ∧
      (∀ r, r ≠ p → t.port r = s.port r) ∧ ChangesOnly [.ports] s t ∧
      t.port p =
        if (s.port p).intake.length < 6 then { s.port p with intake := queued }
        else if busyOwed (s.port p) < 6 then { s.port p with owed := (s.port p).owed ++ [busy] }
        else s.port p

/-- R172: a start byte begins a frame; a frame with a wrong CRC, with a length outside 1–200 or with a
gap of more than 50 ms is discarded silently and counted up to 255, and the late byte is then taken
as a hunting byte (the model's reading, log 4). -/
def Obligations.FaultyFramesAreDiscarded : Prop :=
  ∀ (s : State) (p : Nat), TablesOk s → portOk p = true →
    let q := s.port p
    let counted : Port := { q with assembly := .hunting, crcErrors := min 255 (q.crcErrors + 1) }
    (q.assembly = .hunting →
      (∃ t, exec (.startByteBeginsFrame p) s = .next t ∧ t.port p = { q with assembly := .frame [] } ∧
        exec (.frameArrival p [0x7E#8]) s = .next t ∧ ChangesOnly [.ports] s t) ∧
      (∀ (body : List Byte) (hi lo : Byte), 1 ≤ body.length → body.length ≤ 200 →
        [hi, lo] ≠ be16 (crc16 (byteOf body.length :: body)) →
        ∃ t, exec (.frameArrival p (0x7E#8 :: byteOf body.length :: body ++ [hi, lo])) s = .next t ∧
          t.port p = counted ∧ ChangesOnly [.ports] s t) ∧
      ∀ len : Byte, len = 0 ∨ 200 < len.toNat →
        ∃ t, exec (.frameArrival p [0x7E#8, len]) s = .next t ∧ t.port p = counted ∧
          ChangesOnly [.ports] s t) ∧
    ∀ (bs : List Byte) (late : Byte), q.assembly = .frame bs →
      ∃ t, exec (.interByteGapDiscard p late) s = .next t ∧
        t.port p = { counted with assembly := if late = 0x7E#8 then .frame [] else .hunting } ∧
        (∀ r, r ≠ p → t.port r = s.port r) ∧ ChangesOnly [.ports] s t

/-- R55, R86, R107, R116, R134, R139, R171, R176, R177, R178, R181, R182: the first owed reply leaves first, as
one frame; a notice leaves only when no reply is owed, with the overflow flag when overflow is owed, which it
settles, in the layout of R182: its kind, index, new state, cause, corridor seconds and the data of its kind,
each encoded as R181 says. The class byte of every SEGMENT notice and the bypassed count of a CLEARED notice
alone (log 19), and the field that holds the frame sent last (log 21), are the model's. -/
def Obligations.RepliesLeaveBeforeNotices : Prop :=
  ∀ (s : State) (p : Nat), TablesOk s → portOk p = true →
    let q := s.port p
    (∀ r rs, q.owed = r :: rs → ∃ t, exec (.replySent p) s = .next t ∧
      t.port p = { q with owed := rs, lastSent := frameOf (r.kind :: r.code.byte :: r.data) } ∧
      (∀ k, k ≠ p → t.port k = s.port k) ∧ ChangesOnly [.ports] s t) ∧
    (∀ n ns, q.owed = [] → q.notices = n :: ns → ∃ t, exec (.noticeSent p) s = .next t ∧
      t.port p = { q with
        notices := ns, overflowOwed := false,
        lastSent := frameOf (noticeFrame n q.overflowOwed) } ∧
      (∀ k, k ≠ p → t.port k = s.port k) ∧ ChangesOnly [.ports] s t) ∧
    (q.owed ≠ [] → exec (.noticeSent p) s = .next s)

/-- R18, R178, R179, R180, R181, R183: SUBSCRIBE replaces the port's set; PORT CLEAR empties the port's
queues, subscription and error count, and leaves its owed replies and its receive assembly; STATUS answers
the record of its kind in the layout of R183 and the encodings of R181, and changes nothing; SET TIME sets
the time of day. The order of values of two names (log 17), the bytes of an unbound port's record
(log 18), the fields of a channel not fitted (log 34) and the input byte of a line not fitted (log 38) are
the model's choices. -/
def Obligations.PortAndClockCommands : Prop :=
  ∀ (s : State) (p : Nat), TablesOk s →
    (∀ set, Accepted subscribeCommand s p set → ∃ t, exec (.subscribe p) s = .next t ∧
      (t.port p).subscription = set ∧ (t.port p).notices = (s.port p).notices ∧
      Replied p .subscribe .done [set.setWidth 8] s t ∧ ChangesOnly [.ports] s t) ∧
    (Accepted portClearCommand s p () → ∃ t, exec (.portClear p) s = .next t ∧
      (t.port p).intake = [] ∧ (t.port p).notices = [] ∧ (t.port p).overflowOwed = false ∧
      (t.port p).subscription = 0 ∧ (t.port p).crcErrors = 0 ∧
      (t.port p).assembly = (s.port p).assembly ∧ (t.port p).lastSent = (s.port p).lastSent ∧
      (t.port p).owed = (s.port p).owed ++
        [Reply.mk 0x84#8 .done
          [byteOf ((s.port p).intake.length - 1), byteOf (s.port p).notices.length] true] ∧
      (∀ q, q ≠ p → t.port q = s.port q) ∧ ChangesOnly [.ports] s t) ∧
    (∀ kind index, Accepted statusCommand s p (kind, index) →
      exec (.status p) s =
        .next (answered s p .status .done (recordOf (popFrame s p) kind index))) ∧
    (∀ time, Accepted setTimeCommand s p time → ∃ t, exec (.setTime p) s = .next t ∧
      t.clock = { s.clock with timeOfDay := some time } ∧
      Replied p .setTime .done (encStamp (some s.clock.seconds)) s t ∧ NoNotice s t ∧
      LinesKept s t ∧ ChangesOnly [.ports, .clock] s t)

/-! ## Presence, links and holds -/

/-- R24, R25: an accepted PRESENCE makes its port LINKED and starts both timers, with a PORT notice on
the other ports where the port was not LINKED; while the lower-bound timer runs it is refused with
EARLY; the lower bound's expiry lets a PRESENCE in again. -/
def Obligations.PresenceLinksPort : Prop :=
  ∀ (s : State) (p : Nat) (b : PortBinding), TablesOk s → imagePort s.image p = some b →
    (Accepted presenceCommand s p () →
      ((s.portLink p).state ≠ .linked ∨ (s.portLink p).lower = none →
        ∃ t, exec (.presence p) s = .next t ∧
          t.portLink p = { state := .linked, lower := if b.lower = 0 then none else some b.lower,
                           window := some b.upper } ∧
          (∀ q, q ≠ p → t.portLink q = s.portLink q) ∧ t.auth.holds = s.auth.holds ∧
          t.auth.keyLine = s.auth.keyLine ∧
          Replied p .presence .done (2#8 :: (enc16 b.upper ++ enc16 b.lower)) s t ∧ LinesKept s t ∧
          ((s.portLink p).state = .linked → NoNotice s t) ∧
          ((s.portLink p).state ≠ .linked →
            OneNotice (some p) p (.port .linked .presence (some b.source)) s t) ∧
          ChangesOnly [.ports, .auth] s t) ∧
      ((s.portLink p).state = .linked → (s.portLink p).lower ≠ none →
        exec (.presence p) s = .next (answered s p .presence .early []))) ∧
    (portOk p = true → (s.portLink p).lower = some 0 → ∃ t, exec (.lowerBoundExpiry p) s = .next t ∧
      t.portLink p = { s.portLink p with lower := none } ∧
      (∀ q, q ≠ p → t.portLink q = s.portLink q) ∧ t.auth.holds = s.auth.holds ∧
      ChangesOnly [.auth] s t)

/-- R26, R28, R30, R177: when a LINKED port's window runs out the port is LOST with both timers absent, every
hold of its source is dropped and no other, with a HOLD_LOST notice each, and one removal event is delivered
where the loss action is WITHDRAW; a PORT notice goes to every other port; claims, queues and demands stand.
That the expiry does nothing before that (log 1), the ascending order of the HOLD_LOST notices ahead of the
PORT notice (log 24) and the HOLD_LOST notices on the lost port's own queue (log 30) are the model's
choices. -/
def Obligations.WindowExpiryLosesLink : Prop :=
  ∀ (s : State) (p : Nat) (b : PortBinding), TablesOk s → imagePort s.image p = some b →
    portOk p = true →
    if (s.portLink p).state = .linked ∧ (s.portLink p).window = some 0 then
      ∃ t, exec (.windowExpiry p) s = .next t ∧
        t.portLink p = { state := .lost, lower := none, window := none } ∧
        (∀ q, q ≠ p → t.portLink q = s.portLink q) ∧
        (∀ i < 12, t.hold i = match s.hold i with
          | some h => if h.holder = b.source then none else some h
          | none => none) ∧
        t.deliveries = s.deliveries ++
          (if b.loss = .withdraw then [.linkLossRemoval b.source] else []) ∧
        (∀ q < 4, (t.port q).intake = (s.port q).intake ∧ (t.port q).owed = (s.port q).owed) ∧
        (∀ q < 4,
          let lost := (List.range 12).filter fun i => (s.hold i).map (·.holder) = some b.source
          let n := withNotices s ((lost.map fun i =>
              (i, .segment (s.seg i).state .holdLost (s.seg i).revision (s.seg i).barrierFault none)) ++
            if q = p then [] else [(p, .port .lost .windowExpiry (some b.source))]) (s.port q)
          (t.port q).notices = n.notices ∧ (t.port q).overflowOwed = n.overflowOwed) ∧
        t.auth.keyLine = s.auth.keyLine ∧
        LinesKept s t ∧ ChangesOnly [.ports, .auth, .deliveries] s t
    else exec (.windowExpiry p) s = .next s

/-- R30–R33: HOLD takes or renews the listed holds for its source at the full duration; UNHOLD drops the
source's own ones; each hold taken or dropped sends its SEGMENT notice, those of UNHOLD in list order (the
model's choice, log 24); a hold whose seconds have run out is dropped with cause HOLD_EXPIRED, and before that
the expiry does nothing (the model's choice, log 1); no other hold changes. -/
def Obligations.HoldsAreTakenAndDropped : Prop :=
  ∀ (s : State) (p : Nat), TablesOk s →
    (∀ segs, Accepted holdCommand s p segs → ∃ t, exec (.hold p) s = .next t ∧
      (∀ i < 12, t.hold i =
        if i ∈ segs then some { holder := agentOf s p, remaining := s.image.holdDuration }
        else s.hold i) ∧
      t.auth.links = s.auth.links ∧ t.auth.keyLine = s.auth.keyLine ∧
      NoticesSent ((segs.filter fun i => (s.hold i).isNone).map fun i =>
        (i, .segment (s.seg i).state .holdTaken (s.seg i).revision (s.seg i).barrierFault none)) s t ∧
      Replied p .hold .done
        [byteOf (segs.filter fun i => (s.hold i).isNone).length,
         byteOf (segs.filter fun i => (s.hold i).isSome).length] s t ∧
      LinesKept s t ∧ ChangesOnly [.ports, .auth] s t) ∧
    (∀ segs, Accepted unholdCommand s p segs → ∃ t, exec (.unhold p) s = .next t ∧
      (∀ i < 12, t.hold i =
        if i ∈ segs ∧ (s.hold i).map (·.holder) = some (agentOf s p) then none else s.hold i) ∧
      t.auth.links = s.auth.links ∧ t.auth.keyLine = s.auth.keyLine ∧
      NoticesSent ((segs.filter fun i => (s.hold i).map (·.holder) = some (agentOf s p)).map fun i =>
        (i, .segment (s.seg i).state .holdReleased (s.seg i).revision (s.seg i).barrierFault none)) s t ∧
      Replied p .unhold .done
        [byteOf (segs.filter fun i => (s.hold i).map (·.holder) = some (agentOf s p)).length] s t ∧
      LinesKept s t ∧ ChangesOnly [.ports, .auth] s t) ∧
    ∀ i < 12, ∀ h, s.hold i = some h →
      if h.remaining = 0 then
        ∃ t, exec (.holdExpiry i) s = .next t ∧ t.hold i = none ∧
          (∀ j, j ≠ i → t.hold j = s.hold j) ∧ t.auth.links = s.auth.links ∧
          OneNotice none i (.segment (s.seg i).state .holdExpired (s.seg i).revision
            (s.seg i).barrierFault none) s t ∧ ChangesOnly [.ports, .auth] s t
      else exec (.holdExpiry i) s = .next s

/-! ## Corridor table -/

/-- R46, R47, R55, R56, R57, R58, R60, R62, R63, R66, R138: a CLAIM gives each listed segment the source's
claim (an earlier claim keeps its placed-at time and its immediate flag), and changes no other claim and no
other segment. A claim that joins an empty set takes OPEN to PREWARN with the dwell of its kind, and RAISING
to LOWERING, or to CLOSED where every gate is accounted for; in PREWARN an immediate one leaves the dwell at
most the minimum dwell; zone lock stands, and the stamp but for an entry to CLOSED. Gate requests, closure
demands and the SEGMENT notices of the changed revisions follow, the demands of the one event in ascending
sign index (the model's order, log 24). -/
def Obligations.ClaimClosesSegments : Prop :=
  ∀ (s : State) (p : Nat) (a : ClaimArgs), TablesOk s → SegmentsOk s → Accepted claimCommand s p a →
    let src := claimSourceFor (agentOf s p)
    let claims := fun i => (s.seg i).claims
    ∃ t, exec (.claim p) s = .next t ∧
      (∀ i < 12, i ∉ a.segs → t.seg i = s.seg i) ∧
      (∀ i ∈ a.segs, ∀ x, (t.seg i).claims.get x =
        if x ≠ src then (claims i).get x
        else some { reason := a.reason
                    placedAt := (((claims i).get src).map (·.placedAt)).getD s.clock.seconds
                    immediate := a.immediate || ((claims i).get src).any (·.immediate)
                    zones := [] }) ∧
      (∀ i ∈ a.segs, (t.seg i).zoneLock = (s.seg i).zoneLock ∧
        match (s.seg i).state with
        | .opened => (t.seg i).state = .prewarn ∧
          (t.seg i).dwell = some (if a.immediate then s.image.minDwell else s.image.preWarning) ∧
          (t.seg i).reopenPending = false ∧ (t.seg i).barrierFault = (s.seg i).barrierFault ∧
          (t.seg i).stamp = (s.seg i).stamp
        | .raising => TurnsDown s t i
        | .prewarn | .lowering | .closed => StaysDown s t i a.immediate) ∧
      Replied p .claim .done
        (byteOf (a.segs.filter fun i => ((claims i).get src).isNone).length ::
         byteOf (a.segs.filter fun i => ((claims i).get src).isSome).length ::
         a.segs.flatMap fun i => byteOf (t.seg i).state.code :: be16 (t.seg i).revision) s t ∧
      ClosuresFollow s.deliveries a.segs s t ∧ SegmentsTold a.segs .claim s t ∧
      LinesKept s t ∧ ChangesOnly [.ports, .segments, .deliveries] s t

/-- R48, R49, R50, R55, R56, R59, R61, R62, R66, R138: RELEASE removes the source's claim from each listed
segment that has one, FORCE RELEASE the claim of any named source and RESTART CONFIRM the RST claim, both
refused with STATE where there is none. Each segment that loses a claim sends its SEGMENT notice. Gate
requests and closure demands follow, the demands of one RELEASE in ascending sign index (the model's order,
log 24). -/
def Obligations.ReleasesRemoveClaims : Prop :=
  ∀ (s : State) (p : Nat), TablesOk s → SegmentsOk s →
    (∀ segs, Accepted releaseCommand s p segs → ∃ t, exec (.release p) s = .next t ∧
      (∀ i ∈ segs, ((s.seg i).claims.get (claimSourceFor (agentOf s p))).isSome = true →
        ClaimLeaves s t i (claimSourceFor (agentOf s p))) ∧
      (∀ i < 12, i ∉ segs ∨ (s.seg i).claims.get (claimSourceFor (agentOf s p)) = none →
        t.seg i = s.seg i) ∧
      Replied p .release .done
        (byteOf (segs.filter fun i =>
          ((s.seg i).claims.get (claimSourceFor (agentOf s p))).isSome).length ::
         segs.flatMap fun i => byteOf (t.seg i).state.code :: be16 (t.seg i).revision) s t ∧
      ClosuresFollow s.deliveries segs s t ∧ SegmentsTold segs .release s t ∧
      LinesKept s t ∧ ChangesOnly [.ports, .segments, .deliveries] s t) ∧
    (∀ i src, Accepted forceReleaseCommand s p (i, src) →
      if ((s.seg i).claims.get src).isSome then
        ∃ t, exec (.forceRelease p) s = .next t ∧ ClaimLeaves s t i src ∧
          (∀ j, j ≠ i → t.seg j = s.seg j) ∧
          Replied p .forceRelease .done (byteOf (t.seg i).state.code :: be16 (t.seg i).revision) s t ∧
          ClosuresFollow s.deliveries [i] s t ∧ SegmentsTold [i] .forceRelease s t ∧
          LinesKept s t ∧ ChangesOnly [.ports, .segments, .deliveries] s t
      else exec (.forceRelease p) s = .next (answered s p .forceRelease .state [])) ∧
    ∀ i, Accepted restartConfirmCommand s p i →
      if ((s.seg i).claims.get .rst).isSome then
        ∃ t, exec (.restartConfirm p) s = .next t ∧ ClaimLeaves s t i .rst ∧
          (∀ j, j ≠ i → t.seg j = s.seg j) ∧
          Replied p .restartConfirm .done (byteOf (t.seg i).state.code :: be16 (t.seg i).revision) s t ∧
          ClosuresFollow s.deliveries [i] s t ∧ SegmentsTold [i] .restartConfirm s t ∧
          LinesKept s t ∧ ChangesOnly [.ports, .segments, .deliveries] s t
      else exec (.restartConfirm p) s = .next (answered s p .restartConfirm .state [])

/-- R51, R52, R55, R56, R58, R60, R61, R62, R63, R64, R66, R67, R100: a detector event adds the zone to the
DET claim, or places an immediate one: OPEN enters PREWARN, RAISING turns back down, and a dwell is at most
the minimum dwell; a zone clearance takes the zone out, and with the last one the claim, and ends the lock
where it says so and no zone that threatens the segment is in WORK or SWEEP by then (the model's choice,
log 36), which opens a segment left without claim and lock; a lock start sets the zone lock and turns a
RAISING segment back down. Gate requests, closure demands and, with a new stamp, placeholder changes follow,
in this order (the model's, log 24), and the SEGMENT notice; no other segment changes. -/
def Obligations.ZoneEventsReachSegment : Prop :=
  ∀ (s : State) (i z : Nat), TablesOk s → SegmentsOk s → segOk i = true → zoneOk z = true →
    (∃ t, exec (.detectorEvent i z) s = .next t ∧
      (∃ k, (t.seg i).claims.det = some k ∧ k.immediate = true ∧ k.reason = 0 ∧
        match (s.seg i).claims.det with
        | none => k.zones = [z] ∧ k.placedAt = s.clock.seconds
        | some k' => k.zones = (if z ∈ k'.zones then k'.zones else k'.zones ++ [z]) ∧
            k.placedAt = k'.placedAt) ∧
      (∀ x, x ≠ .det → (t.seg i).claims.get x = (s.seg i).claims.get x) ∧
      (t.seg i).zoneLock = (s.seg i).zoneLock ∧
      (match (s.seg i).state with
        | .opened => (t.seg i).state = .prewarn ∧ (t.seg i).dwell = some s.image.minDwell ∧
          (t.seg i).reopenPending = false ∧ (t.seg i).barrierFault = (s.seg i).barrierFault ∧
          (t.seg i).stamp = (s.seg i).stamp
        | .raising => TurnsDown s t i
        | .prewarn | .lowering | .closed =>
          StaysDown s t i (decide (∀ k ∈ (s.seg i).claims.det.toList, z ∉ k.zones))) ∧
      (∀ j, j ≠ i → t.seg j = s.seg j) ∧ SegmentsTold [i] .detector s t ∧
      ClosuresFollow (s.taking (.detectorEvent i z)).deliveries [i] s t ∧ LinesKept s t ∧
      ChangesOnly [.ports, .segments, .deliveries] s t) ∧
    (∀ ends, ∃ t, exec (.zoneClearanceEvent i z ends) s = .next t ∧
      ((t.seg i).zoneLock = true ↔ (s.seg i).zoneLock = true ∧ (ends = false ∨
        ∃ y ∈ zoneList s.image i, (s.zone y).state = .work ∨ (s.zone y).state = .sweep)) ∧
      (match (s.seg i).claims.det with
        | none => (t.seg i).claims.det = none
        | some k =>
          if k.zones = [z] then (t.seg i).claims.det = none
          else (t.seg i).claims.det = some { k with zones := k.zones.erase z }) ∧
      (∀ x, x ≠ .det → (t.seg i).claims.get x = (s.seg i).claims.get x) ∧
      (t.seg i).state = (if (t.seg i).claims.isEmpty then emptiedState s i (t.seg i).zoneLock
        else (s.seg i).state) ∧
      OpensUp s t i ∧ (∀ j, j ≠ i → t.seg j = s.seg j) ∧
      NoticeIf ((t.seg i).revision ≠ (s.seg i).revision ∨ (t.seg i).zoneLock ≠ (s.seg i).zoneLock) i
        (.segment (t.seg i).state .zoneCleared (t.seg i).revision (t.seg i).barrierFault none) s t ∧
      ClosuresFollow (s.taking (.zoneClearanceEvent i z ends)).deliveries [i] s t ∧ LinesKept s t ∧
      ChangesOnly [.ports, .segments, .deliveries] s t) ∧
    ∃ t, exec (.lockStartEvent i) s = .next t ∧
      (t.seg i).zoneLock = true ∧ (t.seg i).claims = (s.seg i).claims ∧
      (if (s.seg i).state = .raising then TurnsDown s t i
      else t.seg i = { s.seg i with zoneLock := true }) ∧
      (∀ j, j ≠ i → t.seg j = s.seg j) ∧
      OneNotice none i (.segment (t.seg i).state .zoneLock (t.seg i).revision (t.seg i).barrierFault none)
        s t ∧
      ClosuresFollow (s.taking (.lockStartEvent i)).deliveries [i] s t ∧ LinesKept s t ∧
      ChangesOnly [.ports, .segments, .deliveries] s t

/-- R55, R56, R58, R60, R63, R65, R66, R67, R86, R149: when the dwell has run out a PREWARN segment enters
LOWERING and asks for every gate that is not CLOSED; a gate report completes LOWERING in CLOSED, with barrier
fault and closure stamp decided there and the notice GATES_DOWN, and RAISING in OPEN with GATES_UP; until
then, and in every other state, neither changes the segment (for the dwell the model's choice, log 1). The
report of a gate that is not fitted reaches no segment. Gate requests, closure demands and, with a new stamp,
placeholder changes follow, in this order (the model's, log 24). -/
def Obligations.DwellAndGateReportsMoveSegment : Prop :=
  ∀ (s : State) (i : Nat), TablesOk s → segOk i = true →
    (if (s.seg i).state = .prewarn ∧ (s.seg i).dwell = some 0 then
      ∃ t, exec (.dwellExpiry i) s = .next t ∧ TurnsDown s t i ∧
        (t.seg i).claims = (s.seg i).claims ∧ (t.seg i).zoneLock = (s.seg i).zoneLock ∧
        (t.seg i).revision = (s.seg i).revision + 1 ∧
        ClosuresFollow s.deliveries [i] s t ∧
        OneNotice none i (.segment (t.seg i).state .dwellExpiry (t.seg i).revision
          (t.seg i).barrierFault none) s t ∧
        (∀ j, j ≠ i → t.seg j = s.seg j) ∧ LinesKept s t ∧
        ChangesOnly [.ports, .segments, .deliveries] s t
    else exec (.dwellExpiry i) s = .next s) ∧
    ∀ g, gateOk g = true →
      (segmentOfGate s g = none →
        exec (.gateReportToSegment g) s = .next (s.taking (.gateReportToSegment g))) ∧
      (segmentOfGate s g = some i →
        ∃ t, exec (.gateReportToSegment g) s = .next t ∧ (∀ j, j ≠ i → t.seg j = s.seg j) ∧
          ClosuresFollow (s.taking (.gateReportToSegment g)).deliveries [i] s t ∧
          LinesKept s t ∧ ChangesOnly [.ports, .segments, .deliveries] s t ∧
          if (s.seg i).state = .lowering ∧ loweringDone s i = true then
            EntersClosed s t i ∧ (t.seg i).claims = (s.seg i).claims ∧
            (t.seg i).zoneLock = (s.seg i).zoneLock ∧
            OneNotice none i (.segment .closed .gatesDown (t.seg i).revision
              (t.seg i).barrierFault none) s t
          else if (s.seg i).state = .raising ∧ raisingDone s i = true then
            t.seg i = { s.seg i with state := .opened, dwell := none, barrierFault := false,
                                     reopenPending := false, revision := (s.seg i).revision + 1 } ∧
            OneNotice none i (.segment .opened .gatesUp (t.seg i).revision false none) s t
          else t.seg i = s.seg i ∧ NoNotice s t)

/-! ## Gate controller -/

/-- R71, R72, R73, R86: a lower request in a LOWERING or CLOSED segment, and a raise request in a RAISING
one, act by the gate's state as the tables of the two rules say, and otherwise change no gate; a gate
that changes state sends a GATE notice with cause ORDER and tells its segment. A request at a gate that is
not fitted does nothing. Which order in flight on the field bus a new one replaces (log 16) and the station
ACTIVE as last told (log 10) are the model's choices. -/
def Obligations.RequestsDriveGate : Prop :=
  ∀ (s : State) (g : Nat), TablesOk s → gateOk g = true →
    match segmentOfGate s g with
    | none =>
      exec (.lowerRequest g) s = .next (s.taking (.lowerRequest g)) ∧
      exec (.raiseRequest g) s = .next (s.taking (.raiseRequest g))
    | some i =>
      (∃ t, exec (.lowerRequest g) s = .next t ∧ (∀ y, y ≠ g → t.gate y = s.gate y) ∧
        t.gates.startLimit = s.gates.startLimit ∧
        t.deliveries = (s.taking (.lowerRequest g)).deliveries ++
          (if (t.gate g).state ≠ (s.gate g).state then [.gateReportToSegment g] else []) ∧
        NoticeIf ((t.gate g).state ≠ (s.gate g).state) g
          (.gate .lowering .order (s.gate g).position none) s t ∧
        ((t.gate g).state = (s.gate g).state → t.field = s.field) ∧
        LinesKept s t ∧ ChangesOnly [.ports, .gates, .field, .deliveries] s t ∧
        if (s.seg i).state = .lowering ∨ (s.seg i).state = .closed then
          match (s.gate g).state with
          | .opened => GateOrdered s t g .lowering .lower false ∧ (t.gate g).attempts = 0
          | .raising => GateOrdered s t g .lowering .lower true ∧ (t.gate g).attempts = 0
          | .unknown =>
            if (s.gate g).stationUp then
              GateOrdered s t g .lowering .lower false ∧ (t.gate g).attempts = 0
            else t.gate g = s.gate g
          | .lowering | .closed | .retreat | .wait | .fault | .manual | .offline => t.gate g = s.gate g
        else t.gate g = s.gate g) ∧
      ∃ t, exec (.raiseRequest g) s = .next t ∧ (∀ y, y ≠ g → t.gate y = s.gate y) ∧
        t.gates.startLimit = s.gates.startLimit ∧
        t.deliveries = (s.taking (.raiseRequest g)).deliveries ++
          (if (t.gate g).state ≠ (s.gate g).state then [.gateReportToSegment g] else []) ∧
        NoticeIf ((t.gate g).state ≠ (s.gate g).state) g
          (.gate (t.gate g).state .order (s.gate g).position none) s t ∧
        LinesKept s t ∧ ChangesOnly [.ports, .gates, .field, .deliveries] s t ∧
        (t.gate g).attempts = (s.gate g).attempts ∧
        if (s.seg i).state = .raising then
          match (s.gate g).state with
          | .closed => GateOrdered s t g .raising .raise false
          | .lowering => GateOrdered s t g .raising .raise true
          | .unknown =>
            if (s.gate g).stationUp then GateOrdered s t g .raising .raise false
            else t.gate g = s.gate g ∧ t.field = s.field
          | .retreat =>
            t.field = s.field ∧
            if (s.gate g).cause = none then t.gate g = { s.gate g with state := .raising }
            else t.gate g = s.gate g
          | .wait => t.gate g = { s.gate g with state := .opened, timer := none, cause := none } ∧
            t.field = s.field
          | .opened | .raising | .fault | .manual | .offline => t.gate g = s.gate g ∧ t.field = s.field
        else t.gate g = s.gate g ∧ t.field = s.field

/-- R70, R71, R74–R81, R86: what a report makes of a gate whose station is ACTIVE, by the gate's state:
arrival, obstruction with retreat or final retreat, the manual lever engaged or released, unordered movement,
settling with its orders; any other report changes nothing but position and lever. A reported change goes to
the gate's segment and as a GATE notice with its cause. A gate whose station is not ACTIVE, as the gate was
last told (the model's choice, log 10), takes no report, and no other gate changes. The settling of a gate
without a reported position (log 25) and which order in flight a new one replaces (log 16) are the model's
reading. -/
def Obligations.GateReportMovesGate : Prop :=
  ∀ (s : State) (g : Nat) (r : GateReport), TablesOk s → gateOk g = true →
    ((s.gate g).stationUp = false →
      exec (.gateReport g r) s = .next (s.taking (.gateReport g r))) ∧
    ((s.gate g).stationUp = true →
      let u : Gate := { s.gate g with position := some r.position, lever := r.lever }
      ∃ t, exec (.gateReport g r) s = .next t ∧ (∀ y, y ≠ g → t.gate y = s.gate y) ∧
        (t.gate g).position = some r.position ∧ (t.gate g).lever = r.lever ∧
        (t.gate g).stationUp = true ∧ t.gates.startLimit = s.gates.startLimit ∧
        GateTells (s.taking (.gateReport g r)).deliveries (reportCause (s.gate g) r) g s t ∧
        LinesKept s t ∧ ChangesOnly [.ports, .gates, .field, .deliveries] s t ∧
        if r.lever then
          t.field = s.field ∧ t.gate g =
            if (s.gate g).state = .manual ∨ (s.gate g).state = .fault then u
            else if (s.gate g).state = .retreat ∧ (s.gate g).cause = some .obstructionLimit then
              { u with state := .fault, timer := none, cause := some .obstructionLimit }
            else { u with state := .manual, timer := none, cause := none, stopOwed := false,
                          driveOwed := none }
        else match (s.gate g).state with
          | .lowering =>
            if r.position = .down then
              t.gate g = { u with state := .closed, timer := none, cause := none } ∧ t.field = s.field
            else if r.blocked then
              t.gate g = { u with
                state := .retreat, stopOwed := true, driveOwed := some .raise,
                timer := some s.image.travelLimit,
                cause := if (s.gate g).attempts < s.image.retryLimit then none
                  else some .obstructionLimit } ∧ OrdersReplace g true s t
            else t.gate g = u ∧ t.field = s.field
          | .raising => t.field = s.field ∧ t.gate g =
            if r.position = .up then { u with state := .opened, timer := none, cause := none } else u
          | .retreat => t.field = s.field ∧ t.gate g =
            if r.position = .up then
              if (s.gate g).cause = some .obstructionLimit then { u with state := .fault, timer := none }
              else { u with state := .wait, timer := some s.image.retryInterval }
            else u
          | .opened | .wait => t.field = s.field ∧ t.gate g =
            if r.position = .up then u
            else { u with state := .fault, timer := none, cause := some .positionConflict }
          | .closed => t.field = s.field ∧ t.gate g =
            if r.position = .down then u
            else { u with state := .fault, timer := none, cause := some .positionConflict }
          | .manual => SettledBy s t g ∧
            ((t.gate g).state ≠ .lowering → (t.gate g).attempts = (s.gate g).attempts)
          | .unknown =>
            if (s.gate g).position = some r.position then t.gate g = u ∧ t.field = s.field
            else SettledBy s t g ∧
              ((t.gate g).state ≠ .lowering → (t.gate g).attempts = (s.gate g).attempts)
          | .fault | .offline => t.gate g = u ∧ t.field = s.field)

/-- R71, R74, R76, R77, R84, R86: an expired travel limit stops the boom in FAULT, with the cause of the final
retreat where it is one; an expired retry interval orders the next descent where the segment still
calls for the gate down, and leaves the gate OPEN otherwise; the start-up limit puts every gate still
UNKNOWN without its station OFFLINE, once. Each change goes to the gate's segment and as a GATE notice with
its cause. That each does nothing before its time (log 1), the station ACTIVE as last told (log 10), which
order in flight a new one replaces (log 16) and the ascending order of the gates at the start-up limit
(log 24) are the model's choices. -/
def Obligations.GateTimersExpire : Prop :=
  ∀ s : State, TablesOk s →
    (∀ g, gateOk g = true →
      (if (s.gate g).moving = true ∧ (s.gate g).timer = some 0 then
        let final : Prop := (s.gate g).state = .retreat ∧ (s.gate g).cause = some .obstructionLimit
        ∃ t, exec (.travelTimeout g) s = .next t ∧
          (final → t.gate g = { s.gate g with
              state := .fault, timer := none, stopOwed := true, driveOwed := none,
              cause := some .obstructionLimit } ∧
            GateTells s.deliveries .obstructionLimit g s t) ∧
          (¬final → t.gate g = { s.gate g with
              state := .fault, timer := none, stopOwed := true, driveOwed := none,
              cause := some .travelTimeout } ∧
            GateTells s.deliveries .travelTimeout g s t) ∧
          OrdersReplace g true s t ∧ (∀ y, y ≠ g → t.gate y = s.gate y) ∧ LinesKept s t ∧
          ChangesOnly [.ports, .gates, .field, .deliveries] s t
      else exec (.travelTimeout g) s = .next s) ∧
      (if (s.gate g).state = .wait ∧ (s.gate g).timer = some 0 then
        ∃ t, exec (.retryIntervalExpiry g) s = .next t ∧
          (∀ y, y ≠ g → t.gate y = s.gate y) ∧ LinesKept s t ∧
          ChangesOnly [.ports, .gates, .field, .deliveries] s t ∧
          if callsDown s g then
            t.gate g = { s.gate g with
              state := .lowering, attempts := (s.gate g).attempts + 1, driveOwed := some .lower,
              timer := some s.image.travelLimit } ∧
            OrdersReplace g false s t ∧ GateTells s.deliveries .retry g s t
          else
            t.gate g = { s.gate g with state := .opened, timer := none, cause := none } ∧
            t.field = s.field ∧ GateTells s.deliveries .order g s t
      else exec (.retryIntervalExpiry g) s = .next s)) ∧
    if s.gates.startLimit = some 0 then
      let late := (List.range 8).filter fun g =>
        (s.gate g).state = .unknown ∧ (s.gate g).stationUp = false
      ∃ t, exec .startupLimit s = .next t ∧ t.gates.startLimit = none ∧
        (∀ g < 8, t.gate g =
          if g ∈ late then
            { s.gate g with state := .offline, position := none, timer := none, cause := none }
          else s.gate g) ∧
        t.deliveries = s.deliveries ++
          (late.filter fun g => (segmentOfGate s g).isSome).map Instr.gateReportToSegment ∧
        NoticesSent (late.map fun g => (g, .gate .offline .startupLimit none none)) s t ∧
        LinesKept s t ∧ ChangesOnly [.ports, .gates, .deliveries] s t
    else exec .startupLimit s = .next s

/-- R71, R78, R82, R83, R85, R86: the loss of its station leaves a gate in FAULT or OFFLINE by its state, with
no order owed; its return leaves a FAULT standing, takes an engaged lever to MANUAL and settles every
other gate with its orders; GATE FAULT CLEAR takes a gate out of FAULT in the same way, and is refused with
STATE for another gate. Each change goes to the gate's segment and as a GATE notice with its cause. The
settling of a gate without a reported position (log 25), the station ACTIVE as last told (log 10) and which
order in flight a new one replaces (log 16) are the model's choices. -/
def Obligations.StationLossReturnAndClear : Prop :=
  ∀ (s : State) (g : Nat), TablesOk s → GatesOk s → gateOk g = true →
    (∃ t, exec (.gateStationLost g) s = .next t ∧
      (let u : Gate := { s.gate g with
        stopOwed := false, driveOwed := none, timer := none, stationUp := false }
      t.gate g = match (s.gate g).state with
        | .lowering | .raising => { u with state := .fault, cause := some .stationLost }
        | .retreat => { u with
            state := .fault,
            cause := if (s.gate g).cause = some .obstructionLimit then some .obstructionLimit
              else some .stationLost }
        | .opened | .closed | .wait | .unknown | .manual => { u with state := .offline, cause := none }
        | .fault | .offline => u) ∧
      GateTells (s.taking (.gateStationLost g)).deliveries
        (if (s.gate g).moving then .stationLost else .stationOffline) g s t ∧
      (∀ y, y ≠ g → t.gate y = s.gate y) ∧ t.gates.startLimit = s.gates.startLimit ∧ LinesKept s t ∧
      ChangesOnly [.ports, .gates, .deliveries] s t) ∧
    (∀ r, ∃ t, exec (.gateStationReturn g r) s = .next t ∧
      (t.gate g).stationUp = true ∧ (t.gate g).position = some r.position ∧
      (t.gate g).lever = r.lever ∧
      (let u : Gate := { s.gate g with position := some r.position, lever := r.lever, stationUp := true }
      if (s.gate g).state = .fault then t.gate g = u ∧ t.field = s.field
      else if r.lever then
        t.gate g = { u with state := .manual, timer := none, cause := none, stopOwed := false,
                            driveOwed := none } ∧ t.field = s.field
      else SettledBy s t g ∧
        ((t.gate g).state ≠ .lowering → (t.gate g).attempts = (s.gate g).attempts)) ∧
      GateTells (s.taking (.gateStationReturn g r)).deliveries .stationReturn g s t ∧
      (∀ y, y ≠ g → t.gate y = s.gate y) ∧ t.gates.startLimit = s.gates.startLimit ∧ LinesKept s t ∧
      ChangesOnly [.ports, .gates, .field, .deliveries] s t) ∧
    ∀ p, Accepted gateFaultClearCommand s p g →
      if (s.gate g).state = .fault then
        ∃ t, exec (.gateFaultClear p) s = .next t ∧
          (t.gate g).attempts = 0 ∧ (t.gate g).cause = none ∧
          (t.gate g).position = (s.gate g).position ∧ (t.gate g).lever = (s.gate g).lever ∧
          (t.gate g).stationUp = (s.gate g).stationUp ∧
          (let u : Gate := { s.gate g with attempts := 0, cause := none, timer := none }
          if (s.gate g).stationUp = false then
            t.gate g = { u with state := .offline } ∧ t.field = s.field
          else if (s.gate g).lever then
            t.gate g = { u with state := .manual, stopOwed := false, driveOwed := none } ∧
            t.field = s.field
          else SettledBy s t g) ∧
          GateTells s.deliveries .faultClear g s t ∧
          Replied p .gateFaultClear .done
            [(t.gate g).state.code, codePosition (t.gate g).position] s t ∧
          (∀ y, y ≠ g → t.gate y = s.gate y) ∧ t.gates.startLimit = s.gates.startLimit ∧
          LinesKept s t ∧ ChangesOnly [.ports, .gates, .field, .deliveries] s t
      else exec (.gateFaultClear p) s = .next (answered s p .gateFaultClear .state [])

/-! ## Zone monitor -/

/-- R90–R93: a report, and the conditions of an identification in the same way, reach each fitted line
of the station and no other: a condition unlike the line's present one is counted, and at the debounce
count the line takes the state of that condition. The loss of the station leaves each of its lines
UNMONITORED with nothing pending, a BYPASSED one too, and each zone's degraded field is derived again. What
the zones make of it is stated in FiringLineTripsZone. -/
def Obligations.TripStationsReportAndFail : Prop :=
  (∀ (s : State) (x : Nat) (r : TripReport), TablesOk s → stationOk x = true →
    ∀ c ∈ [Instr.tripReport x r, Instr.tripStationReturn x r], ∃ t, exec c s = .next t ∧
      (∀ l < 24, l ∉ stationLines s.image x → t.line l = s.line l) ∧
      (∀ l ∈ stationLines s.image x,
        let n := Counted (s.line l) (conditionAt r (inputOf s l))
        t.line l =
          if s.image.debounce ≤ n.confirm then
            { state := stateOf (conditionAt r (inputOf s l)), pending := none, confirm := 0 }
          else n) ∧
      LinesKept s t ∧ ChangesOnly [.ports, .zones, .deliveries] s t) ∧
  ∀ (s : State) (x : Nat), TablesOk s → ZonesOk s → stationOk x = true →
    ∃ t, exec (.tripStationLost x) s = .next t ∧
      (∀ l < 24, t.line l =
        if l ∈ stationLines s.image x ∧ (s.line l).state ≠ .unmonitored then
          { state := .unmonitored, pending := none, confirm := 0 }
        else s.line l) ∧
      (∀ z < 10, ((t.zone z).degraded = true ↔
        ∃ l ∈ lineList s.image z, (t.line l).state = .unmonitored ∨ (t.line l).state = .bypassed)) ∧
      LinesKept s t ∧ ChangesOnly [.ports, .zones, .deliveries] s t

/-- R93, R94, R95, R103, R104, R105, R138: a line that becomes FIRED, CUT, or UNMONITORED in a fail-closed
zone, trips a zone in QUIET or WATCH: the zone is TRIPPED at its level with the line in its fired list, one
detector event is delivered for each threatened segment, and the zone demands follow the deciding zones. In
TRIPPED and WORK the line only joins the list, and in SWEEP it does not. Any other change of a line changes
no zone's state. A trip report, an identification and the loss of a TRIP station do this at the zone of
every line they change; the order of the deliveries of one event is the model's (log 24). -/
def Obligations.FiringLineTripsZone : Prop :=
  (∀ (s : State) (l z : Nat) (st : LineState), TablesOk s → ZonesOk s → lineOk l = true →
    (imageLine s.image l).zone = some z →
    let t := lineEnters s l st
    t.line l = { state := st, pending := none, confirm := 0 } ∧
      (t.zone z).level = (s.zone z).level ∧ (t.zone z).permit = (s.zone z).permit ∧
      (∀ y, y ≠ z → t.zone y = s.zone y) ∧ DegradedByLines t z ∧ ZonesDecided t ∧
      (t.zone z).fired = (if fires s z st ∧ (s.zone z).state ≠ .sweep ∧ l ∉ (s.zone z).fired then
        (s.zone z).fired ++ [l] else (s.zone z).fired) ∧
      (if fires s z st ∧ ((s.zone z).state = .quiet ∨ (s.zone z).state = .watch) then
        (t.zone z).state = .tripped ∧
        t.deliveries = s.deliveries ++
          ((imageZone s.image z).threatened.map fun i => Instr.detectorEvent i z) ++ zoneDemands s t ∧
        OneNotice none z (.zone .tripped .trip (s.zone z).level (t.zone z).degraded
          (some (l, st)) none) s t
      else
        (t.zone z).state = (s.zone z).state ∧ t.deliveries = s.deliveries ∧
        OneNotice none z (.zone (s.zone z).state .line (s.zone z).level (t.zone z).degraded
          (some (l, st)) none) s t)) ∧
  ∀ (s : State) (x : Nat), TablesOk s → ZonesOk s → stationOk x = true →
    ∀ c, c = Instr.tripStationLost x ∨
        (∃ r, c = Instr.tripReport x r ∨ c = Instr.tripStationReturn x r) →
      ∃ t, exec c s = .next t ∧
        ZonesFollowLines (s.taking c).deliveries (lineChanges s c) s t ∧
        LinesKept s t ∧ ChangesOnly [.ports, .zones, .deliveries] s t

/-- R96, R97, R103, R104, R105, R106: SET LEVEL stores the level and decides QUIET or WATCH by it, and a level
change reaches the signs; BEGIN SWEEP takes TRIPPED to SWEEP and delivers a lock start for each threatened
segment no other zone locks, and is refused with STATE in every other state. Both hand the signs the
demands of the deciding zones; the order of the deliveries of one event is the model's (log 24). -/
def Obligations.LevelAndSweepCommands : Prop :=
  ∀ (s : State) (p : Nat), TablesOk s → ZonesOk s →
    (∀ z v, Accepted setLevelCommand s p (z, v) → ∃ t, exec (.setLevel p) s = .next t ∧
      t.zone z = { s.zone z with
        level := v,
        state := if (s.zone z).state = .quiet ∨ (s.zone z).state = .watch then
          (if s.image.watchThreshold ≤ v then .watch else .quiet) else (s.zone z).state } ∧
      v ≤ 5 ∧ (∀ y, y ≠ z → t.zone y = s.zone y) ∧ t.zones.lines = s.zones.lines ∧
      t.deliveries = s.deliveries ++ zoneDemands s t ++
        (if v = (s.zone z).level then [] else (imageZone s.image z).threatened.flatMap fun i =>
          (signList s.image i).map Instr.placeholderChange) ∧
      ZonesDecided t ∧
      Replied p .setLevel .done [byteOf v, (t.zone z).state.code] s t ∧
      NoticeIf (t.zone z ≠ s.zone z) z
        (.zone (t.zone z).state .level v (s.zone z).degraded none none) s t ∧
      LinesKept s t ∧ ChangesOnly [.ports, .zones, .deliveries] s t) ∧
    ∀ z, Accepted beginSweepCommand s p z →
      if (s.zone z).state = .tripped then
        ∃ t, exec (.beginSweep p) s = .next t ∧ t.zone z = { s.zone z with state := .sweep } ∧
          (∀ y, y ≠ z → t.zone y = s.zone y) ∧ t.zones.lines = s.zones.lines ∧
          t.deliveries = s.deliveries ++
            (((imageZone s.image z).threatened.filter fun i => !lockedByOther s z i).map
              Instr.lockStartEvent) ++ zoneDemands s t ∧
          ZonesDecided t ∧
          Replied p .beginSweep .done [4#8] s t ∧
          OneNotice none z (.zone .sweep .sweep (s.zone z).level (s.zone z).degraded none none) s t ∧
          LinesKept s t ∧ ChangesOnly [.ports, .zones, .deliveries] s t
      else exec (.beginSweep p) s = .next (answered s p .beginSweep .state [])

/-- R93, R98, R99, R103, R104, R105, R107: ZONE CLEAR is refused with STATE outside SWEEP and with LINE, naming them, where lines are
FIRED, CUT or UNMONITORED and no bypass is given; otherwise those lines are BYPASSED, the fired list is
emptied, the level decides QUIET or WATCH, and one zone-clearance event is delivered for each
threatened segment, ending its lock where no other zone holds it. The zone demands follow the deciding zones;
the CLEARED notice is followed by a LINE notice for each bypassed line in ascending input order. That the
CLEARED notice goes first, the tie of two lines of one input, and the order of the deliveries are the
model's (log 24). -/
def Obligations.ZoneClearReleasesZone : Prop :=
  ∀ (s : State) (p z : Nat) (bypass : Bool), TablesOk s → ZonesOk s →
    Accepted zoneClearCommand s p (z, bypass) →
    let ls := Refusing s z
    if (s.zone z).state ≠ .sweep then
      exec (.zoneClear p) s = .next (answered s p .zoneClear .state [])
    else if ls ≠ [] ∧ bypass = false then
      exec (.zoneClear p) s = .next (answered s p .zoneClear .line
        (byteOf ls.length :: ls.flatMap fun l => [byteOf l, (s.line l).state.code]))
    else
      ∃ t, exec (.zoneClear p) s = .next t ∧
        (t.zone z).state = (if s.image.watchThreshold ≤ (s.zone z).level then .watch else .quiet) ∧
        (t.zone z).fired = [] ∧ (t.zone z).level = (s.zone z).level ∧
        (∀ y, y ≠ z → t.zone y = s.zone y) ∧
        (∀ l < 24, t.line l = if l ∈ ls then
          { state := .bypassed, pending := none, confirm := 0 } else s.line l) ∧
        t.deliveries = s.deliveries ++
          ((imageZone s.image z).threatened.map fun i =>
            Instr.zoneClearanceEvent i z (!lockedByOther s z i)) ++ zoneDemands s t ∧
        ZonesDecided t ∧ DegradedByLines t z ∧
        NoticesSent
          ((z, .zone (t.zone z).state .cleared (s.zone z).level (t.zone z).degraded none (some ls.length)) ::
            ((List.range 4).flatMap fun inp => ls.filter fun l => inputOf s l = inp).map fun l =>
              (z, .zone (t.zone z).state .line (s.zone z).level (t.zone z).degraded
                (some (l, .bypassed)) none)) s t ∧
        Replied p .zoneClear .done [byteOf ls.length, (t.zone z).state.code] s t ∧
        LinesKept s t ∧ ChangesOnly [.ports, .zones, .deliveries] s t

/-- R55, R100–R105: PERMIT REQUEST is refused with STATE in SWEEP, and naming the first threatened segment
that is not CLOSED or has its barrier fault set; otherwise the zone is in WORK for sixty times the
minutes, of which more than 120 are taken as 120, and every threatened segment is under zone lock, each with
a ZONE_LOCK notice where it was not; PERMIT END and the expiry take WORK to SWEEP. Each entry hands the signs
the demands of the deciding zones. That the ZONE_LOCK notices go in the order of the zone's list ahead of the
PERMIT notice (log 24), and that an expiry that is not due does nothing (log 1), are the model's choices. -/
def Obligations.PermitsOpenAndEnd : Prop :=
  ∀ (s : State) (z : Nat), TablesOk s → ZonesOk s → zoneOk z = true →
    let open? := (imageZone s.image z).threatened.find? fun i =>
      (s.seg i).state ≠ .closed ∨ (s.seg i).barrierFault = true
    (∀ p minutes, Accepted permitRequestCommand s p (z, minutes) →
      1 ≤ minutes ∧
      (∀ body, nextFrame s p = some body → minutes = min ((bodyArgs body).getD 1 0).toNat 120) ∧
      if (s.zone z).state = .sweep then
        exec (.permitRequest p) s = .next (answered s p .permitRequest .state [])
      else match open? with
        | some i =>
          exec (.permitRequest p) s = .next (answered s p .permitRequest .state [byteOf i])
        | none =>
          ∃ t, exec (.permitRequest p) s = .next t ∧
            t.zone z = { s.zone z with state := .work, permit := some (60 * minutes) } ∧
            (∀ y, y ≠ z → t.zone y = s.zone y) ∧
            ((s.zone z).state ≠ .work → ∀ i ∈ (imageZone s.image z).threatened,
              t.seg i = { s.seg i with zoneLock := true }) ∧
            (∀ i < 12, i ∉ (imageZone s.image z).threatened ∨ (s.zone z).state = .work →
              t.seg i = s.seg i) ∧
            t.deliveries = s.deliveries ++ zoneDemands s t ∧ ZonesDecided t ∧
            (if (s.zone z).state = .work then
              OneNotice none z
                (.zone .work .permitRenewed (s.zone z).level (s.zone z).degraded none none) s t
            else NoticesSent
              ((((imageZone s.image z).threatened.filter fun i => (s.seg i).zoneLock = false).map fun i =>
                  (i, .segment .closed .zoneLock (s.seg i).revision false none)) ++
                [(z, .zone .work .permit (s.zone z).level (s.zone z).degraded none none)]) s t) ∧
            Replied p .permitRequest .done [byteOf minutes] s t ∧
            LinesKept s t ∧ ChangesOnly [.ports, .segments, .zones, .deliveries] s t) ∧
    (∀ p, Accepted permitEndCommand s p z →
      if (s.zone z).state = .work then
        ∃ t, exec (.permitEnd p) s = .next t ∧
          t.zone z = { s.zone z with state := .sweep, permit := none } ∧
          (∀ y, y ≠ z → t.zone y = s.zone y) ∧ Replied p .permitEnd .done [4#8] s t ∧
          t.deliveries = s.deliveries ++ zoneDemands s t ∧ ZonesDecided t ∧
          OneNotice none z
            (.zone .sweep .permitEnd (s.zone z).level (s.zone z).degraded none none) s t ∧
          ChangesOnly [.ports, .zones, .deliveries] s t
      else exec (.permitEnd p) s = .next (answered s p .permitEnd .state [])) ∧
    (if (s.zone z).state = .work ∧ (s.zone z).permit = some 0 then
      ∃ t, exec (.permitExpiry z) s = .next t ∧
        t.zone z = { s.zone z with state := .sweep, permit := none } ∧
        (∀ y, y ≠ z → t.zone y = s.zone y) ∧
        t.deliveries = s.deliveries ++ zoneDemands s t ∧ ZonesDecided t ∧
        OneNotice none z
          (.zone .sweep .permitExpiry (s.zone z).level (s.zone z).degraded none none) s t ∧
        ChangesOnly [.ports, .zones, .deliveries] s t
    else exec (.permitExpiry z) s = .next s)

/-! ## Weather unit and condition evaluator -/

/-- R109–R114, R116: when the sample period runs out every fitted head's poll is due and the period starts
again; the answer to the poll in progress makes its head reachable, stamps it and gives each fitted
channel the code of its own input as a sample, in ascending input order, with the placeholder changes and
CHANNEL notices that follow; an exchange that is not answered leaves its head unreachable and no channel
changed; the free link goes to a waiting immediate sample, else to the lowest due poll. A stale limit's
placeholder changes are stated here. That a sample period or a stale limit that has not run out (log 1), and
an answer outside a poll of its head (log 16), do nothing, and the order of one channel's placeholder changes
(log 24), are the model's choices. -/
def Obligations.HeadsArePolledAndAnswer : Prop :=
  ∀ s : State, TablesOk s →
    (if s.weather.sampleTimer = 0 then
      let due (h : Nat) : Bool := headFitted s.image h || (s.head h).pollDue
      ∃ t, exec .samplePeriodExpiry s = .next t ∧ t.weather.sampleTimer = s.image.samplePeriod ∧
        (if s.weather.exchange = none then LinkTakes due s t
        else t.weather.exchange = s.weather.exchange ∧ t.weather.waiting = s.weather.waiting ∧
          ∀ h < 8, (t.head h).pollDue = due h) ∧
        (∀ h < 8, (t.head h).reachable = (s.head h).reachable ∧
          (t.head h).lastReply = (s.head h).lastReply) ∧
        t.weather.channels = s.weather.channels ∧ t.weather.slot = s.weather.slot ∧
        ChangesOnly [.weather] s t
    else exec .samplePeriodExpiry s = .next s) ∧
    (∀ h c0 c1 c2 c3, headOk h = true →
      if s.weather.exchange = some (.poll h) then
        ∃ t, exec (.headPollReply h c0 c1 c2 c3) s = .next t ∧
          (t.head h).reachable = true ∧ (t.head h).lastReply = some s.clock.seconds ∧
          (∀ c < 24, ∀ e inp, imageChannel s.image c = some e → e.place = some (h, inp) →
            SampleTaken s t c e (codeAt c0 c1 c2 c3 inp)) ∧
          (∀ c < 24, (∀ e inp, imageChannel s.image c = some e → e.place ≠ some (h, inp)) →
            t.channel c = s.channel c) ∧
          SamplesTold (channelsOf s.image h) s t ∧ ExchangeEnds h s t ∧
          t.weather.slot = s.weather.slot ∧ LinesKept s t ∧
          ChangesOnly [.ports, .weather, .deliveries] s t
      else exec (.headPollReply h c0 c1 c2 c3) s = .next s) ∧
    (∀ h, s.weather.exchange = some (.poll h) → headOk h = true →
      ∃ t, exec .headReplyLimit s = .next t ∧ (t.head h).reachable = false ∧
        (t.head h).lastReply = (s.head h).lastReply ∧ t.weather.channels = s.weather.channels ∧
        ExchangeEnds h s t ∧ t.weather.slot = s.weather.slot ∧ ChangesOnly [.weather] s t) ∧
    ∀ c, channelOk c = true →
      ((s.channel c).stale ≠ some 0 → exec (.staleLimit c) s = .next s) ∧
      ((imageChannel s.image c).isSome = true → (s.channel c).stale = some 0 →
        ∃ t, exec (.staleLimit c) s = .next t ∧ t.deliveries = s.deliveries ++ placeholdersOf s t c)

/-- R110, R113, R116, R119–R123: READING latches a request into the EMPTY slot and answers DEFERRED, repeats DEFERRED for
the same PENDING request, hands over a READY one and empties the slot, and answers BUSY to another
request; the immediate sample's answer, or its reply limit, makes the slot READY; the discard time
empties it; an unfitted channel is refused with STATE. The answer's code is a sample of the channel with its
placeholder changes (in the model's order, log 24) and its CHANNEL notice, and the link goes to the lowest due
poll. That a discard time that has not run out does nothing (log 1) and the value bytes of a DONE reply
without a reading (log 20) are the model's choices. -/
def Obligations.ReadingSlotServesOneRequest : Prop :=
  ∀ (s : State), TablesOk s →
    (∀ p (r : Request), Accepted readingCommand s p r →
      match imageChannel s.image r.channel, s.weather.slot with
      | none, _ => exec (.reading p) s = .next (answered s p .reading .state [])
      | some e, .empty => ∃ t, exec (.reading p) s = .next t ∧ t.weather.slot = .pending r ∧
          (∀ h inp, e.place = some (h, inp) →
            (s.weather.exchange = none → s.weather.waiting = none →
              t.weather.exchange = some (.immediate h inp)) ∧
            (∀ x, s.weather.exchange = some x → t.weather.exchange = some x ∧
              t.weather.waiting = some (h, inp))) ∧
          Replied p .reading .deferred [byteOf r.channel, r.form.code] s t ∧
          ChangesOnly [.ports, .weather] s t
      | some _, .pending q => exec (.reading p) s = .next (answered s p .reading
          (if q = r then .deferred else .busy) [byteOf q.channel, q.form.code])
      | some _, .ready q v u _ =>
        if q = r then ∃ t, exec (.reading p) s = .next t ∧ t.weather.slot = .empty ∧
          t.weather.exchange = s.weather.exchange ∧ t.weather.channels = s.weather.channels ∧
          Replied p .reading .done (readingData r v u) s t ∧ ChangesOnly [.ports, .weather] s t
        else exec (.reading p) s =
          .next (answered s p .reading .busy [byteOf q.channel, q.form.code])) ∧
    (∀ (r : Request) (e : ChannelEntry) (h inp : Nat) (code : RawCode),
      s.weather.slot = .pending r → imageChannel s.image r.channel = some e →
      s.weather.exchange = some (.immediate h inp) → headOk h = true →
      (∃ t, exec (.immediateSampleReply code) s = .next t ∧
        t.weather.slot = .ready r (.ok (match r.form with
          | .raw => (code.toNat : Int)
          | .calibrated => calibrate e code.toNat)) s.clock.seconds 60 ∧
        SampleTaken s t r.channel e code ∧ (∀ c, c ≠ r.channel → t.channel c = s.channel c) ∧
        SamplesTold [r.channel] s t ∧ ExchangeEnds h s t ∧
        (t.head h).reachable = true ∧ (t.head h).lastReply = some s.clock.seconds ∧ LinesKept s t ∧
        ChangesOnly [.ports, .weather, .deliveries] s t) ∧
      ∃ t, exec .headReplyLimit s = .next t ∧
        t.weather.slot = .ready r .noReply s.clock.seconds 60 ∧ ExchangeEnds h s t ∧
        (t.head h).reachable = false ∧ (t.head h).lastReply = (s.head h).lastReply ∧
        t.weather.channels = s.weather.channels ∧ ChangesOnly [.weather] s t) ∧
    ∀ r v u d, s.weather.slot = .ready r v u d →
      ∃ t, exec .discardTimerExpiry s = .next t ∧
        t.weather = { s.weather with slot := if d = 0 then .empty else .ready r v u d } ∧
        ChangesOnly [.weather] s t

/-- R114: an expired stale timer makes FRESH and IMPLAUSIBLE STALE and leaves FORCED and STALE; a good
sample taken first starts the timer afresh, and the expiry does not happen; taken after it, it makes
the channel FRESH, with a second notice: both orders end FRESH with a running timer. -/
def Obligations.StaleLimitLeavesChannelStale : Prop :=
  ∀ (s : State) (c : Nat) (e : ChannelEntry), TablesOk s →
    imageChannel s.image c = some e →
    ((s.channel c).stale = some 0 →
      ∃ t, exec (.staleLimit c) s = .next t ∧
        t.channel c = { s.channel c with
          stale := none,
          status := if (s.channel c).status = .forced then .forced else .stale } ∧
        (∀ k, k ≠ c → t.channel k = s.channel k) ∧
        NoticeIf ((s.channel c).status = .fresh ∨ (s.channel c).status = .implausible) c
          (.channel .stale .staleLimit (some (effectiveOf e (t.channel c)))) s t ∧
        ChangesOnly [.ports, .weather, .deliveries] s t) ∧
    ∀ code, plausible e (calibrate e code.toNat) = true → (s.channel c).status ≠ .forced →
      let u := sampleAt s c e code
      (u.channel c).stale = some e.staleLimit ∧ (u.channel c).status = .fresh ∧
      exec (.staleLimit c) u = .next u ∧
      ∀ t, exec (.staleLimit c) s = .next t →
        ((sampleAt t c e code).channel c).status = .fresh ∧
        ((sampleAt t c e code).channel c).stale = some e.staleLimit ∧
        ((s.channel c).stale = some 0 →
          OneNotice none c (.channel .fresh .goodSample (some (calibrate e code.toNat))) t
            (sampleAt t c e code))

/-- R112, R115, R116, R117, R118: FORCE CHANNEL gives a fitted channel the clamped value or the failure, and
its effective value follows; UNFORCE of a FORCED channel leaves it FRESH or STALE by its stale timer;
each answers with what it left, sends its CHANNEL notice and tells the sign arbiter of a changed value; an
unfitted channel, or one that is not FORCED, is refused with STATE. The order of the placeholder changes is
the model's (log 24). -/
def Obligations.ForcingDecidesEffectiveValue : Prop :=
  ∀ (s : State) (p c : Nat), TablesOk s →
    (∀ v, Accepted forceChannelCommand s p (c, v) →
      match imageChannel s.image c with
      | none => exec (.forceChannel p) s = .next (answered s p .forceChannel .state [])
      | some e =>
        let clamped := v.map fun x => max (typeLow e.type) (min (typeHigh e.type) x)
        ∃ t, exec (.forceChannel p) s = .next t ∧
          t.channel c = { s.channel c with
            status := .forced,
            forced := match clamped with
              | some x => .value x
              | none => .failure } ∧
          effective t c = some (clamped.getD (faultValue e (s.channel c))) ∧
          Replied p .forceChannel .done
            ([3#8, if clamped.isSome then 1 else 2] ++ weatherValue clamped ++
              weatherValue (effective t c)) s t ∧
          OneNotice none c (.channel .forced .forced (effective t c)) s t ∧
          t.deliveries = s.deliveries ++ placeholdersOf s t c ∧
          t.weather = { s.weather with channels := t.weather.channels } ∧
          (∀ k, k ≠ c → t.channel k = s.channel k) ∧ LinesKept s t ∧
          ChangesOnly [.ports, .weather, .deliveries] s t) ∧
    (Accepted unforceCommand s p c →
      if (imageChannel s.image c).isSome = true ∧ (s.channel c).status = .forced then
        ∃ t, exec (.unforce p) s = .next t ∧
          t.channel c = { s.channel c with
            forced := .absent, status := if (s.channel c).stale = none then .stale else .fresh } ∧
          Replied p .unforce .done
            ((if (s.channel c).stale = none then 1#8 else 0#8) :: weatherValue (effective t c)) s t ∧
          OneNotice none c (.channel (t.channel c).status .unforced (effective t c)) s t ∧
          t.deliveries = s.deliveries ++ placeholdersOf s t c ∧
          t.weather = { s.weather with channels := t.weather.channels } ∧
          (∀ k, k ≠ c → t.channel k = s.channel k) ∧ LinesKept s t ∧
          ChangesOnly [.ports, .weather, .deliveries] s t
      else exec (.unforce p) s = .next (answered s p .unforce .state []))

/-- R127, R128: the stages of the risk score with their ranges and corner values; the score of an
evaluated segment lies in 0–1000 and is stored at its evaluation. -/
def Obligations.RiskScoreStages : Prop :=
  (∀ ts : Int, coldTerm ts = max 0 (min (6 * (30 - ts)) 360) ∧ 0 ≤ coldTerm ts ∧ coldTerm ts ≤ 360 ∧
    (30 ≤ ts → coldTerm ts = 0) ∧ (ts ≤ -30 → coldTerm ts = 360) ∧
    (-30 ≤ ts → ts < 30 → coldTerm ts = coldTerm (ts + 1) + 6) ∧
    (-400 ≤ ts → ts ≤ 600 → -3420 ≤ 6 * (30 - ts) ∧ 6 * (30 - ts) ≤ 2580)) ∧
  (∀ ts : Int, frostMargin ts none = 100 ∧ ∀ td : Int, frostMargin ts (some td) = ts - td ∧
    (-400 ≤ ts → ts ≤ 600 → -400 ≤ td → td ≤ 600 →
      -1000 ≤ frostMargin ts (some td) ∧ frostMargin ts (some td) ≤ 1000)) ∧
  (∀ p f : Int, (0 < p → waterTerm p f = min (2 * p) 300 ∧ 2 ≤ waterTerm p f ∧
      (150 ≤ p ↔ waterTerm p f = 300)) ∧
    (p = 0 → waterTerm p f = max 0 (min (5 * (20 - f)) 150) ∧ waterTerm p f ≤ 150 ∧
      (20 ≤ f ↔ waterTerm p f = 0) ∧ (f ≤ -10 ↔ waterTerm p f = 150))) ∧
  (∀ sn : Int, snowTerm sn = min (3 * sn / 2) 400 ∧ (267 ≤ sn ↔ snowTerm sn = 400)) ∧
  snowTerm 266 = 399 ∧
  (∀ a b : Int, discounted a b = if 0 < a then b else b / 4) ∧
  (∀ (ts : Int) (td : Option Int) (p sn : Int), 0 ≤ p → 0 ≤ sn →
    riskScore ts td p sn =
      min (coldTerm ts + discounted (coldTerm ts) (waterTerm p (frostMargin ts td)) + snowTerm sn) 1000 ∧
    0 ≤ riskScore ts td p sn ∧ riskScore ts td p sn ≤ 1000) ∧
  ∀ (s : State) (i : Nat) (ts : Int), TablesOk s → s.evaluator.timer = 0 → i < 12 →
    roleValue s (imageSegment s.image i).ts = some ts →
    ∃ t, exec .evaluationEvent s = .next t ∧
      (t.eval i).score = (riskScore ts (roleValue s (imageSegment s.image i).td)
        ((roleValue s (imageSegment s.image i).p).getD 0)
        ((roleValue s (imageSegment s.image i).s).getD 0)).toNat

/-- R125, R126, R129, R130, R131, R132, R133, R134: when the period has run out every evaluated segment takes
the score of its effective values, and each of its two filters takes one verdict: the class moves one step
when the confirmation count is reached, and only then; the period starts again, and a segment that is not
evaluated stands. Each changed class is delivered to every sign of its segment, in ascending sign index,
and sends its notice, in ascending segment index (the model's orders, log 24). That an evaluation that is
not due does nothing is the model's choice (log 1). -/
def Obligations.EvaluationStepsClasses : Prop :=
  ∀ s : State, TablesOk s →
    if s.evaluator.timer = 0 then
      ∃ t, exec .evaluationEvent s = .next t ∧ t.evaluator.timer = s.image.evalPeriod ∧
        LinesKept s t ∧ ChangesOnly [.ports, .evaluator, .deliveries] s t ∧
        (∀ i < 12,
          (evaluated s.image i = false → t.eval i = s.eval i) ∧
          ∀ c, (imageSegment s.image i).ts = some c → ∀ ts, effective s c = some ts →
            ((t.eval i).score : Int) = (scoreOf s (imageSegment s.image i) ts).toNat ∧
            FilterStep s.image.thresholds s.image.hysteresis s.image.confirmation
              (scoreOf s (imageSegment s.image i) ts) (s.eval i).cond (t.eval i).cond ∧
            match roleValue s (imageSegment s.image i).w with
            | some w => FilterStep [150, 250] 20 s.image.confirmation w (s.eval i).wind (t.eval i).wind
            | none => (t.eval i).wind = (s.eval i).wind) ∧
        t.deliveries = s.deliveries ++ ((List.range 24).flatMap fun n =>
          let i := (imageSign s.image n).segment
          (if (t.eval i).cond.cls = (s.eval i).cond.cls then []
            else [Instr.internalDelivery n .cond (classForm s.image.condMap (t.eval i).cond.cls)]) ++
          (if (t.eval i).wind.cls = (s.eval i).wind.cls then []
            else [Instr.internalDelivery n .wind (classForm s.image.windMap (t.eval i).wind.cls)])) ∧
        NoticesSent ((List.range 12).flatMap fun i =>
          (if (t.eval i).cond.cls = (s.eval i).cond.cls then []
            else [(i, .segment (s.seg i).state .condClass (s.seg i).revision (s.seg i).barrierFault
              (some (t.eval i).cond.cls))]) ++
          (if (t.eval i).wind.cls = (s.eval i).wind.cls then []
            else [(i, .segment (s.seg i).state .windClass (s.seg i).revision (s.seg i).barrierFault
              (some (t.eval i).wind.cls))])) s t
    else exec .evaluationEvent s = .next s

/-! ## Probes -/

/-- R40: under the probe flag every command leaves nothing but its owed reply, whose code is the one its
execution would have given and which carries data only for STALE and for a READING that is not handed
over: the data of a probed READING is the model's reading (log 20). -/
def Obligations.ProbeChangesOnlyTheReply : Prop :=
  ∀ (c : Instr) (p : Nat) (k : CmdKind) (s : State) (body : List Byte), TablesOk s →
    agentCommand c = some (p, k) → Ready s p k body → bodyProbe body = true →
    ∃ code data, exec c s = .next (answered s p k code data) ∧
      (data ≠ [] → code = .stale ∨ k = .reading ∧ (code = .busy ∨ code = .deferred)) ∧
      ∃ u r, exec c (withoutProbe s p body) = .next u ∧
        (u.port p).owed = (s.port p).owed ++ [r] ∧ r.code = code ∧ r.executed = true

/-! ## Sign arbiter -/

/-- R138–R141: POST is refused with FULL, and places nothing, where a sign of the span lacks the key and
holds four agent demands; otherwise every sign of the span, in ascending order, holds the demand with
the severity clamped to the source and the next arrival serial in place of one with its key, every
other demand and sign stands, each sign whose winner it changed sends a SIGN notice, and the reply counts
placements and replacements. -/
def Obligations.PostPlacesOnSpan : Prop :=
  ∀ (s : State) (p : Nat) (a : PostArgs), TablesOk s → Accepted postCommand s p a →
    let key := DemandKey.agent (agentOf s p) a.tag
    let signs := (List.range a.count).map (a.first + ·)
    let severity := min a.severity (maxSeverity (agentOf s p))
    if ∃ n ∈ signs, hasKey key (s.stack n) = false ∧ 4 ≤ agentCount (s.stack n) then
      exec (.post p) s = .next (answered s p .post .full [])
    else ∃ t, exec (.post p) s = .next t ∧
      (∀ k < a.count,
        { key, slot := a.slot, severity, flash := a.flash, expiry := a.expiry,
          arrival := s.arbiter.arrival + BitVec.ofNat 32 k } ∈ t.stack (a.first + k)) ∧
      (∀ n ∈ signs,
        withoutKeys (· == key) (t.stack n) = withoutKeys (· == key) (s.stack n) ∧
        ((t.stack n).filter (fun d => d.key == key)).length = 1 ∧
        WinnerFollowed (winnerKey (t.stack n) = some key ∨ winnerKey (s.stack n) = some key) s t n) ∧
      (∀ n, n ∉ signs → t.stack n = s.stack n ∧ t.out n = s.out n) ∧
      t.arbiter.arrival = s.arbiter.arrival + BitVec.ofNat 32 a.count ∧
      Replied p .post .done [byteOf severity,
        byteOf (signs.filter fun n => !hasKey key (s.stack n)).length,
        byteOf (signs.filter fun n => hasKey key (s.stack n)).length] s t ∧
      NoticesSent ((signs.filter fun n =>
          winnerKey (t.stack n) = some key ∨ winnerKey (s.stack n) = some key).map fun n =>
        (n, .sign (t.out n).output .post (winnerKey (t.stack n)))) s t ∧
      LinesKept s t ∧ BesideStacks s t

/-- R29, R139, R142–R144: WITHDRAW removes the source's demand with one tag from the signs of a span, WITHDRAW
ALL and the removal of a lost link every demand of a source from every sign, an expiry the demand whose
seconds have run out; each sign whose winner changes sends a SIGN notice with the event's cause, in ascending
sign; both replies count the demands removed. That an expiry that is not due does nothing (log 1), the one
composition of several tags of one sign (log 32), a demand posted between the loss and its removal (log 31)
and the order of the notices of a lost link's removal (log 24) are the model's choices. -/
def Obligations.RemovalsTakeDemands : Prop :=
  ∀ s : State, TablesOk s →
    (∀ p first count tag, Accepted withdrawCommand s p (first, count, tag) →
      let key := DemandKey.agent (agentOf s p) tag
      let signs := (List.range count).map (first + ·)
      ∃ t, exec (.withdraw p) s = .next t ∧ DemandsLeave (· == key) signs s t ∧
        WinnersTold signs .withdraw s t ∧
        Replied p .withdraw .done [byteOf (signs.filter fun n => hasKey key (s.stack n)).length] s t ∧
        BesideStacks s t) ∧
    (∀ p, Accepted withdrawAllCommand s p () →
      ∃ t, exec (.withdrawAll p) s = .next t ∧
        DemandsLeave (DemandKey.ofSource (agentOf s p)) (List.range 24) s t ∧
        WinnersTold (List.range 24) .withdraw s t ∧
        Replied p .withdrawAll .done [byteOf ((List.range 24).map fun n =>
          ((s.stack n).filter fun d => d.key.ofSource (agentOf s p)).length).sum] s t ∧
        BesideStacks s t) ∧
    (∀ src, ∃ t, exec (.linkLossRemoval src) s = .next t ∧
      DemandsLeave (DemandKey.ofSource src) (List.range 24) s t ∧
      WinnersTold (List.range 24) .linkLoss s t ∧
      BesideStacks (s.taking (.linkLossRemoval src)) t) ∧
    ∀ n src tag, signOk n = true → tagOk tag = true →
      if ∃ d ∈ s.stack n, d.key = .agent src tag ∧ d.expiry = some 0 then
        ∃ t, exec (.demandExpiry n src tag) s = .next t ∧
          DemandsLeave (· == .agent src tag) [n] s t ∧
          NoticeIf (winnerKey (t.stack n) ≠ winnerKey (s.stack n)) n
            (.sign (t.out n).output .expiry (winnerKey (t.stack n))) s t ∧
          BesideStacks s t
      else exec (.demandExpiry n src tag) s = .next s

/-- R145: a delivery with content places or replaces the topic's demand at its sign with the next serial,
one without content withdraws it; the change of the winner follows by R139 with the topic's cause. -/
def Obligations.InternalDeliveriesFillTopics : Prop :=
  ∀ (s : State) (n : Nat) (topic : Topic) (c : Option DemandContent), TablesOk s →
    signOk n = true → contentOk c = true →
    ∃ t, exec (.internalDelivery n topic c) s = .next t ∧
      withoutKeys (· == .internal topic) (t.stack n) =
        withoutKeys (· == .internal topic) (s.stack n) ∧
      (∀ m, m ≠ n → t.stack m = s.stack m ∧ t.out m = s.out m) ∧
      (match c with
        | some d =>
          { key := .internal topic, slot := d.slot, severity := d.severity, flash := d.flash,
            expiry := none, arrival := s.arbiter.arrival } ∈ t.stack n ∧
          t.arbiter.arrival = s.arbiter.arrival + 1
        | none => hasKey (.internal topic) (t.stack n) = false ∧
          t.arbiter.arrival = s.arbiter.arrival) ∧
      (let won := winnerKey (t.stack n) = some (.internal topic) ∨
          winnerKey (s.stack n) = some (.internal topic)
       WinnerFollowed won s t n ∧
       NoticeIf won n (.sign (t.out n).output (topicCause topic) (winnerKey (t.stack n))) s t) ∧
      LinesKept s t ∧ BesideStacks (s.taking (.internalDelivery n topic c)) t

/-- R149–R151: a placeholder change composes the face at once, or is owed while the re-render timer runs,
and its expiry composes where one is owed; the checksum of a carried face confirms it, or counts a
mismatch and sends it again, and the third mismatch in succession reports a face-check failure. That a
re-render timer that has not run out does nothing is the model's choice (log 1). -/
def Obligations.FacesAreComposedAndConfirmed : Prop :=
  ∀ s : State, TablesOk s →
    (∀ n, signOk n = true →
      (∃ t, exec (.placeholderChange n) s = .next t ∧
        t.out n = (if (s.out n).timer = none then Recomposed s n
          else { s.out n with owed := true }) ∧
        (∀ m, m ≠ n → t.out m = s.out m) ∧ t.arbiter.demands = s.arbiter.demands ∧
        NoticeIf ((s.out n).timer = none ∧ (s.out n).output = .shown ∧ (t.out n).output = .pending) n
          (.sign .pending .recomposed (winnerKey (s.stack n))) s t ∧
        BesideStacks (s.taking (.placeholderChange n)) t) ∧
      if (s.out n).timer = some 0 then
        ∃ t, exec (.reRenderTimerExpiry n) s = .next t ∧
          t.out n = (if (s.out n).owed then Recomposed s n else { s.out n with timer := none }) ∧
          (∀ m, m ≠ n → t.out m = s.out m) ∧ t.arbiter.demands = s.arbiter.demands ∧
          NoticeIf ((s.out n).owed = true ∧ (s.out n).output = .shown ∧ (t.out n).output = .pending) n
            (.sign .pending .recomposed (winnerKey (s.stack n))) s t ∧ BesideStacks s t
      else exec (.reRenderTimerExpiry n) s = .next s) ∧
    ∀ x v, stationOk x = true →
      match signOfTarget s x with
      | none => exec (.checksum x v) s = .next (s.taking (.checksum x v))
      | some n =>
        let o := s.out n
        if o.carried = false then exec (.checksum x v) s = .next (s.taking (.checksum x v))
        else ∃ t, exec (.checksum x v) s = .next t ∧ (∀ m, m ≠ n → t.out m = s.out m) ∧
          t.arbiter.demands = s.arbiter.demands ∧ ChangesOnly [.ports, .arbiter, .deliveries] s t ∧
          if v = o.checksum then
            t.out n = { o with
              mismatches := 0, output := if o.output = .pending then .shown else o.output } ∧
            t.deliveries = (s.taking (.checksum x v)).deliveries ∧
            NoticeIf (o.output = .pending) n (.sign .shown .confirmed (winnerKey (s.stack n))) s t
          else if o.mismatches < 2 then
            t.out n = { o with mismatches := o.mismatches + 1, carried := false, output := .pending } ∧
            t.deliveries = (s.taking (.checksum x v)).deliveries ∧
            NoticeIf (o.output = .shown) n (.sign .pending .mismatch (winnerKey (s.stack n))) s t
          else
            t.out n = { o with mismatches := 0 } ∧
            t.deliveries = (s.taking (.checksum x v)).deliveries ++ [.faceCheckFailure x] ∧
            NoNotice s t

/-- R12, R152, R153: a retarget leaves the face and stack of its sign, which is PENDING with a target and DARK
without one, and marks for blanking an ACTIVE station that it leaves without a sign; a beacon station is given its sign's pattern when it enters ACTIVE and is not driven after
it left; at each flash boundary the time within the period moves to the next of the half, the end of the
on-time and the start of a period, and the lamps of a driven station stand as its pattern asks. The mark
(log 26), carried set to no for a retarget to none too (log 28), the flash timing (log 23) and the target
as last told (log 10) are the model's choices. -/
def Obligations.RetargetsAndBeaconsDriveSigns : Prop :=
  ∀ s : State, TablesOk s →
    (∀ n old new, signOk n = true → optOk stationOk old = true → optOk stationOk new = true →
      ∃ t, exec (.retarget n old new) s = .next t ∧
        t.out n = { s.out n with
          target := new, carried := false, mismatches := 0,
          output := if new.isSome then .pending else .dark } ∧
        (∀ m, m ≠ n → t.out m = s.out m) ∧ t.arbiter.demands = s.arbiter.demands ∧
        t.arbiter.arrival = s.arbiter.arrival ∧
        (∀ x < 32, t.station x =
          if old = some x ∧ new ≠ some x ∧ (∀ m ∈ List.range 24, s.target m ≠ some x) ∧
              s.panelUp x = true then
            { s.station x with blankOwed := true }
          else s.station x) ∧
        t.field = { s.field with stations := t.field.stations, exchange := t.field.exchange } ∧
        OneNotice none n (.sign (if new.isSome then .pending else .dark) .retarget
          (winnerKey (s.stack n))) s t ∧
        LinesKept s t ∧ ChangesOnly [.ports, .arbiter, .field, .deliveries] s t) ∧
    (∀ x n, stationOk x = true → signOfBeacon s.image x = some n →
      (∃ t, exec (.beaconStationEntry x) s = .next t ∧
        (t.out n).beaconDriven = true ∧ (t.out n).beaconOwed = true ∧
        (t.out n).beacon = (s.out n).beacon ∧ (t.out n).face = (s.out n).face ∧
        (t.out n).output = (s.out n).output ∧
        ((t.out n).lamp1, (t.out n).lamp2) = lampsOf s.image s.arbiter.elapsed (s.out n).beacon ∧
        (∀ m, m ≠ n → t.out m = s.out m) ∧ ChangesOnly [.arbiter, .deliveries] s t) ∧
      ∃ t, exec (.beaconStationDeparture x) s = .next t ∧
        t.out n = { s.out n with
          beaconDriven := false, beaconOwed := false, lamp1 := false, lamp2 := false } ∧
        (∀ m, m ≠ n → t.out m = s.out m) ∧ ChangesOnly [.arbiter, .deliveries] s t) ∧
    ∃ t, exec .beaconFlashTiming s = .next t ∧ t.arbiter.elapsed < s.image.flashPeriod ∧
      t.arbiter.elapsed =
        (let half := s.image.flashPeriod / 2
         let on := s.image.flashPeriod * s.image.flashOnTime / 100
         if s.arbiter.elapsed < min half on then min half on
         else if s.arbiter.elapsed < max half on then max half on else 0) ∧
      t.arbiter.demands = s.arbiter.demands ∧
      (∀ n < 24, t.out n = { s.out n with lamp1 := (t.out n).lamp1, lamp2 := (t.out n).lamp2 } ∧
        if (s.out n).beaconDriven then
          match (s.out n).beacon with
          | .dark => (t.out n).lamp1 = false ∧ (t.out n).lamp2 = false
          | .alternate => ((t.out n).lamp1 = true ↔ t.arbiter.elapsed < s.image.flashPeriod / 2) ∧
            (t.out n).lamp2 = !(t.out n).lamp1
          | .unison => ((t.out n).lamp1 = true ↔
              t.arbiter.elapsed < s.image.flashPeriod * s.image.flashOnTime / 100) ∧
            (t.out n).lamp2 = (t.out n).lamp1
        else (t.out n).lamp1 = false ∧ (t.out n).lamp2 = false) ∧
      ChangesOnly [.arbiter] s t

/-! ## Placement table -/

/-- R8–R12: a station that leaves ACTIVE is no sign's target, and its sign takes its standby where that is
free, or none; a station that enters ACTIVE is taken by the sign whose primary it is, and the standby which
that sign leaves by the lowest-numbered sign that waits for it; a station that is no sign's primary is taken
by the lowest-numbered sign that waits for it as its standby, or by none; every other target stands. The
ascending order of the retargets (log 24), the mark for blanking (log 26) and ACTIVE as last told (log 10)
are the model's choices. -/
def Obligations.PlacementFollowsStations : Prop :=
  ∀ (s : State) (x : Nat), TablesOk s → PlacementOk s → stationOk x = true →
    (∃ t, exec (.placementDeparture x) s = .next t ∧ t.panelUp x = false ∧
      (∀ y, y ≠ x → t.panelUp y = s.panelUp y) ∧ t.placement.primaries = s.placement.primaries ∧
      (∀ n < 24, t.target n =
        if s.target n = some x then (freeStandby s n).filter (· != x) else s.target n) ∧
      TableReplaced (s.taking (.placementDeparture x)).deliveries s t ∧
      ChangesOnly [.placement, .field, .deliveries] s t) ∧
    ∃ t, exec (.placementEntry x) s = .next t ∧ t.panelUp x = true ∧
      (∀ y, y ≠ x → t.panelUp y = s.panelUp y) ∧ t.placement.primaries = s.placement.primaries ∧
      (∀ n < 24, t.target n =
        if s.primary n = some x then some x
        else match (List.range 24).find? fun a => s.primary a = some x with
          | some a => (match s.target a with
            | some y => if y ≠ x ∧ NextFor s y n then some y else s.target n
            | none => s.target n)
          | none =>
            if (∀ m ∈ List.range 24, s.target m ≠ some x) ∧ NextFor s x n then some x else s.target n) ∧
      PlacementOk t ∧ TableReplaced (s.taking (.placementEntry x)).deliveries s t ∧
      ChangesOnly [.placement, .field, .deliveries] s t

/-- R8, R11, R12, R13: REMAP is refused with STATE where the station is another sign's primary, and does
nothing more than answer where it is the sign's own; otherwise it is the sign's primary, and the sign takes
it if it is ACTIVE, and else the standby that is free, or none. A sign that had the station as its standby
loses it, the station that the sign leaves goes to the lowest-numbered sign that waits for it, and every
other target stands. A previous primary that stays the sign's choice as its standby (log 29), the targets of
two events that meet (log 37), the ascending order of the retargets (log 24), the mark for blanking (log 26)
and ACTIVE as last told (log 10) are the model's choices. -/
def Obligations.RemapGivesSignPrimary : Prop :=
  ∀ (s : State) (p n x : Nat), TablesOk s → PlacementOk s → Accepted remapCommand s p (n, x) →
    if ∃ m ∈ List.range 24, m ≠ n ∧ s.primary m = some x then
      exec (.remap p) s = .next (answered s p .remap .state [])
    else if s.primary n = some x then exec (.remap p) s = .next (answered s p .remap .done [])
    else ∃ t, exec (.remap p) s = .next t ∧ t.primary n = some x ∧
      (∀ m, m ≠ n → t.primary m = s.primary m) ∧ t.placement.up = s.placement.up ∧
      t.target n = (if s.panelUp x then some x else freeStandby s n) ∧
      (∀ m < 24, m ≠ n → t.target m =
        if s.target m = some x ∧ t.target n = some x then none
        else match s.target n with
          | some y => if t.target n ≠ some y ∧ NextFor s y m then some y else s.target m
          | none => s.target m) ∧
      PlacementOk t ∧ TableReplaced s.deliveries s t ∧ Replied p .remap .done [] s t ∧
      NoNotice s t ∧ LinesKept s t ∧ ChangesOnly [.ports, .placement, .field, .deliveries] s t

/-! ## Message library -/

/-- R156–R160: CURSOR, WRITE TEXT and LIBRARY CLEAR are refused with IN_USE while a demand names the slot;
CURSOR places the port's cursor and may set the pictogram; WRITE TEXT stores characters from the cursor
on until the last place locks it, and a first one defines the slot; LIBRARY CLEAR blanks the slot and
leaves every cursor. No other slot and no other cursor changes. -/
def Obligations.CursorTextAndClear : Prop :=
  ∀ (s : State) (p : Nat), TablesOk s → LibraryOk s →
    (∀ a, Accepted cursorCommand s p a →
      if (s.userSlot a.slot).refs ≠ 0 then
        exec (.cursor p) s = .next (answered s p .cursor .inUse [])
      else ∃ t, exec (.cursor p) s = .next t ∧
        t.cursor p = { slot := some a.slot, line := a.line, column := a.column, locked := false } ∧
        (∀ q, q ≠ p → t.cursor q = s.cursor q) ∧
        t.userSlot a.slot = { s.userSlot a.slot with
          picto := a.picto.getD (s.userSlot a.slot).picto } ∧
        (∀ m < 128, 96 ≤ m → m ≠ a.slot → t.userSlot m = s.userSlot m) ∧
        Replied p .cursor .done [byteOf a.slot, byteOf a.line, byteOf a.column, 0#8] s t ∧
        NoNotice s t ∧ LinesKept s t ∧ ChangesOnly [.ports, .library] s t) ∧
    (∀ chars, Accepted writeTextCommand s p chars →
      match (s.cursor p).slot with
      | none => exec (.writeText p) s = .next (answered s p .writeText .state [])
      | some m =>
        let c := s.cursor p
        let u := s.userSlot m
        let from? := 20 * c.line + c.column
        let stored := if c.locked then 0 else min chars.length (60 - from?)
        let next? := from? + stored
        if u.refs ≠ 0 then exec (.writeText p) s = .next (answered s p .writeText .inUse [])
        else ∃ t, exec (.writeText p) s = .next t ∧
          (∀ j < 60, (t.userSlot m).text.getD j 0 =
            if from? ≤ j ∧ j < next? then storedChar (chars.getD (j - from?) 0)
            else u.text.getD j 0) ∧
          (t.userSlot m).text.length = 60 ∧ (t.userSlot m).picto = u.picto ∧
          (t.userSlot m).refs = u.refs ∧
          ((t.userSlot m).defined = true ↔ u.defined = true ∨ stored ≠ 0) ∧
          t.cursor p = (if c.locked then c
            else if next? < 60 then
              { slot := some m, line := next? / 20, column := next? % 20, locked := false }
            else { slot := some m, line := 2, column := 19, locked := true }) ∧
          (∀ q, q ≠ p → t.cursor q = s.cursor q) ∧
          (∀ k < 128, 96 ≤ k → k ≠ m → t.userSlot k = s.userSlot k) ∧
          Replied p .writeText .done [byteOf stored, byteOf m, byteOf (t.cursor p).line,
            byteOf (t.cursor p).column, codeBool (t.cursor p).locked] s t ∧
          NoNotice s t ∧ LinesKept s t ∧ ChangesOnly [.ports, .library] s t) ∧
    ∀ m, Accepted libraryClearCommand s p m →
      if (s.userSlot m).refs ≠ 0 then
        exec (.libraryClear p) s = .next (answered s p .libraryClear .inUse [])
      else ∃ t, exec (.libraryClear p) s = .next t ∧
        t.userSlot m = { text := List.replicate 60 0x20#8, picto := 0, defined := false, refs := 0 } ∧
        t.library.cursors = s.library.cursors ∧
        (∀ k < 128, 96 ≤ k → k ≠ m → t.userSlot k = s.userSlot k) ∧
        Replied p .libraryClear .done [] s t ∧ NoNotice s t ∧ LinesKept s t ∧
        ChangesOnly [.ports, .library] s t

/-! ## Field stations -/

/-- R162, R163: the start-up sequence begins with its first drop; a contact that closes powers an ABSENT
drop that is not NONE; one that opens leaves the drop ABSENT and unpowered, with its departure
delivered; at the settling limit a powered drop is IDENTIFYING and the sequence goes on. That a contact
report without a change (log 1) and a settling limit outside POWERING (log 12) do nothing is the model's
choice. -/
def Obligations.StationsPowerUpAndDown : Prop :=
  ∀ (s : State) (x : Nat), TablesOk s → StationsOk s → stationOk x = true →
    (s.field.startSeq.head? = some x →
      if (s.station x).state = .absent then
        ∃ t, exec .startupSequenceBegin s = .next t ∧ StationIn t x .powering none ∧
          (∀ y, y ≠ x → t.station y = s.station y) ∧ t.field.startSeq = s.field.startSeq ∧
          OneNotice none x (.station .powering .presenceClosed none) s t ∧
          ChangesOnly [.ports, .field, .deliveries] s t
      else exec .startupSequenceBegin s = .next (s.taking .startupSequenceBegin)) ∧
    (if (s.station x).contactClosed then exec (.presenceContactCloses x) s = .next s
    else ∃ t, exec (.presenceContactCloses x) s = .next t ∧ (t.station x).contactClosed = true ∧
      (if imageType s.image x ≠ .unused ∧ (s.station x).state = .absent then
        StationIn t x .powering none ∧
        OneNotice none x (.station .powering .presenceClosed none) s t
      else t.station x = { s.station x with contactClosed := true } ∧ NoNotice s t) ∧
      (∀ y, y ≠ x → t.station y = s.station y) ∧ ChangesOnly [.ports, .field] s t) ∧
    (if (s.station x).contactClosed then
      ∃ t, exec (.presenceContactOpens x) s = .next t ∧ (t.station x).contactClosed = false ∧
        StationIn t x .absent none ∧
        t.deliveries = s.deliveries ++
          (if (s.station x).state = .active then departureEvents s x else []) ∧
        ((s.station x).state ≠ .absent → ∀ e, t.field.exchange = some e → e.station ≠ x) ∧
        ((s.station x).state ≠ .powering → OthersStand s t x) ∧ LinesKept s t ∧
        ChangesOnly [.ports, .field, .deliveries] s t
    else exec (.presenceContactOpens x) s = .next s) ∧
    if (s.station x).state = .powering then
      ∃ t, exec (.powerSettleExpiry x) s = .next t ∧ StationIn t x .identifying none ∧
        (∀ y l, s.field.startSeq = x :: y :: l → (s.station y).state = .absent →
          (t.station y).state = .powering) ∧
        (s.field.startSeq.head? = some x → t.field.startSeq = s.field.startSeq.drop 1) ∧
        (s.field.startSeq.head? ≠ some x → OthersStand s t x ∧
          OneNotice none x (.station .identifying .settled none) s t) ∧
        LinesKept s t ∧ ChangesOnly [.ports, .field] s t
    else exec (.powerSettleExpiry x) s = .next s

/-- R164, R166, R167: an IDENTIFYING station is asked as soon as the bus is free; its report makes it
ACTIVE, with the entry delivered to the owner of its role, where the type is the configured one;
another type, the identification limit, an over-current trip of a powered drop and a face-check
failure of an ACTIVE one leave it FAULTED and unpowered with that cause. That a request or a limit outside
IDENTIFYING, a trip of an unpowered drop (log 1) and a report outside its exchange (log 16) do nothing, and
the one mark and the order of waiting requests (log 33), are the model's choices. -/
def Obligations.StationsIdentifyOrFault : Prop :=
  ∀ (s : State) (x : Nat), TablesOk s → StationsOk s → stationOk x = true →
    (if (s.station x).state = .identifying then
      (∃ t, exec (.identRequest x) s = .next t ∧
        (s.field.exchange = none → (∀ y < x, (s.station y).identDue = false) →
          t.field.exchange = some { station := x, kind := .ident, carries := .nothing }) ∧
        (∀ e, s.field.exchange = some e → t.field.exchange = some e ∧
          t.station x = { s.station x with identDue := true }) ∧
        OthersStand s t x ∧ ChangesOnly [.field] s t) ∧
      (∃ t, exec (.identTimeout x) s = .next t ∧ StationIn t x .faulted (some .identTimeout) ∧
        OneNotice none x (.station .faulted .identTimeout (some .identTimeout)) s t ∧
        OthersStand s t x ∧ ChangesOnly [.ports, .field] s t)
    else exec (.identRequest x) s = .next s ∧ exec (.identTimeout x) s = .next s) ∧
    (∀ m serial,
      if onBus s x .ident = true ∧ (s.station x).state = .identifying then
        ∃ t, exec (.identificationReport x m serial) s = .next t ∧
          (t.station x).serial = some serial ∧ OthersStand s t x ∧
          ChangesOnly [.ports, .field, .deliveries] s t ∧
          if moduleType m = imageType s.image x then
            StationIn t x .active none ∧ (t.station x).missed = 0 ∧
            t.deliveries = s.deliveries ++ entryEvents s x m ∧
            OneNotice none x (.station .active .identified none) s t
          else
            StationIn t x .faulted (some .typeMismatch) ∧ t.deliveries = s.deliveries ∧
            OneNotice none x (.station .faulted .typeMismatch (some .typeMismatch)) s t
      else exec (.identificationReport x m serial) s = .next s) ∧
    (if (s.station x).power then
      ∃ t, exec (.overCurrentTrip x) s = .next t ∧ StationIn t x .faulted (some .powerFault) ∧
        t.deliveries = s.deliveries ++
          (if (s.station x).state = .active then departureEvents s x else []) ∧
        (∀ e, t.field.exchange = some e → e.station ≠ x) ∧
        ((s.station x).state ≠ .powering → OthersStand s t x) ∧ LinesKept s t ∧
        ChangesOnly [.ports, .field, .deliveries] s t
    else exec (.overCurrentTrip x) s = .next s) ∧
    if (s.station x).state = .active then
      ∃ t, exec (.faceCheckFailure x) s = .next t ∧ StationIn t x .faulted (some .faceCheck) ∧
        t.deliveries = (s.taking (.faceCheckFailure x)).deliveries ++ departureEvents s x ∧
        OneNotice none x (.station .faulted .faceCheck (some .faceCheck)) s t ∧
        OthersStand s t x ∧ ChangesOnly [.ports, .field, .deliveries] s t
    else exec (.faceCheckFailure x) s = .next (s.taking (.faceCheckFailure x))

/-- R71, R150, R152, R153, R165, R167, R168: a poll round begins with its lowest station when the round before
has ended; the poll of an ACTIVE station carries its gate's STOP ahead of a direction order, its sign's face
not yet carried, the blank face owed to a panel without a sign, or its sign's beacon pattern not yet
carried; its answer settles what the poll carried, clears its missed replies and is delivered to the owner of
its role; the third poll missed in succession leaves it LOST, with its departure delivered; a LOST
station that answers is identified afresh. A QUIESCING station of the round takes part in its quiescing
exchange, which carries the blank face to a SIGN and the darkening of both lamps to a BEACON station. When a
round begins (logs 1 and 14), how LOST rounds are counted (log 15), which answers settle what (log 16), the
target as last told (log 10) and the mark for blanking (log 26) are the model's choices. -/
def Obligations.PollsCarryAndCountMisses : Prop :=
  ∀ s : State, TablesOk s → StationsOk s →
    (if s.field.roundsDue = 0 ∨ roundRuns s = true then exec .pollRound s = .next s
    else ∃ t, exec .pollRound s = .next t ∧ t.field.roundsDue = s.field.roundsDue - 1 ∧
      (∀ x, s.field.exchange = none → identWaiting s = none →
        (List.range 32).find? (fun y => inRound (s.station y)) = some x →
        ∃ e, t.field.exchange = some e ∧ e.station = x ∧
          e.kind = (if (s.station x).state = .quiescing then .quiesce else .poll) ∧
          ((s.station x).state = .active → PollCarries s x e.carries) ∧
          ((s.station x).state = .lost → e.carries = .nothing) ∧
          ((s.station x).state = .quiescing → e.carries =
            if imageType s.image x = .sign then .blank
            else if imageType s.image x = .beacon then .darken else .nothing)) ∧
      (∀ x < 32, (t.station x).state = (s.station x).state ∧
        ((s.station x).state = .lost → (t.station x).lostWait =
          if (s.station x).lostWait ≤ 1 then 5 else (s.station x).lostWait - 1)) ∧
      ChangesOnly [.field] s t) ∧
    (∀ x a, stationOk x = true → onBus s x .poll = true → (s.station x).state = .active →
      answerType a = imageType s.image x →
      ∃ t, exec (.pollAnswered x a) s = .next t ∧
        t.deliveries = s.deliveries ++ answerEvents s x a ∧
        t.station x = { s.station x with
          missed := 0, blankOwed := (s.station x).blankOwed && decide (carrying s ≠ .blank) } ∧
        (∀ g < 8, t.gate g = { s.gate g with
          stopOwed := (s.gate g).stopOwed && decide (carrying s ≠ .stop g),
          driveOwed := if carrying s = .drive g then none else (s.gate g).driveOwed }) ∧
        (∀ n < 24, t.out n = { s.out n with
          carried := (s.out n).carried || decide (carrying s = .face n),
          beaconOwed := (s.out n).beaconOwed && decide (carrying s ≠ .pattern n),
          lamp1 := (t.out n).lamp1, lamp2 := (t.out n).lamp2 } ∧
          (carrying s ≠ .darken → (t.out n).lamp1 = (s.out n).lamp1 ∧
            (t.out n).lamp2 = (s.out n).lamp2)) ∧
        t.gates.startLimit = s.gates.startLimit ∧
        t.arbiter = { s.arbiter with outputs := t.arbiter.outputs } ∧
        OthersStand s t x ∧ ChangesOnly [.gates, .arbiter, .field, .deliveries] s t) ∧
    (∀ x, stationOk x = true → onBus s x .poll = true → (s.station x).state = .active →
      ∃ t, exec (.pollUnanswered x) s = .next t ∧ OthersStand s t x ∧
        if (s.station x).missed < 2 then
          t.station x = { s.station x with missed := (s.station x).missed + 1 } ∧
          t.deliveries = s.deliveries ∧ ChangesOnly [.field] s t
        else
          StationIn t x .lost none ∧ (t.station x).missed = 0 ∧
          t.deliveries = s.deliveries ++ departureEvents s x ∧
          OneNotice none x (.station .lost .noReply none) s t ∧
          ChangesOnly [.ports, .field, .deliveries] s t) ∧
    ∀ x a, stationOk x = true → onBus s x .poll = true → (s.station x).state = .lost →
      ∀ c ∈ [Instr.lostStationReply x, Instr.pollAnswered x a], ∃ t, exec c s = .next t ∧ StationIn t x .identifying none ∧ OthersStand s t x ∧
        OneNotice none x (.station .identifying .reply none) s t ∧ ChangesOnly [.ports, .field] s t

/-- R9, R82, R91, R153, R167–R170: the attention button and STATION OFF take an ACTIVE station to QUIESCING,
unless its gate is in motion as they are taken, and its departure is taken at once by the owner of its role,
behind what waited of the station there; a return that waits at a gate is recorded, and the gate not settled
(`roleTaken`; the model's choice, log 35); the button powers an OFF one again, as STATION RESTART does for OFF
and FAULTED; the answer to a quiescing exchange, or the third round without one, leaves the station OFF, its
face blank or its lamps dark as the answered exchange carried it. That the end of a refusal blink outside
ACTIVE (log 1) and a quiescing answer outside its exchange (log 12) do nothing, and the order of what the
departure of a TRIP station delivers (log 24), are the model's choices. -/
def Obligations.StationsQuiesceAndRestart : Prop :=
  ∀ (s : State) (x : Nat), TablesOk s → StationsOk s → PlacementOk s → ZonesOk s → GatesOk s →
    stationOk x = true →
    (match (s.station x).state with
      | .active =>
        if drivesMoving s x then
          ∃ t, exec (.attentionButton x) s = .next t ∧
            t.station x = { s.station x with indicator := .blink } ∧
            (∀ y, y ≠ x → t.station y = s.station y) ∧
            OneNotice none x (.station .active .attentionRefused none) s t ∧
            ChangesOnly [.ports, .field] s t
        else ∃ t, exec (.attentionButton x) s = .next t ∧ Quiesced s (roleTaken s x) t x ∧
          SoleStationNotice x (.station .quiescing .attention none) s t ∧
          (∀ q < 4, (t.port q).intake = (s.port q).intake ∧ (t.port q).owed = (s.port q).owed)
      | .off => ∃ t, exec (.attentionButton x) s = .next t ∧ StationIn t x .powering none ∧
          (∀ y, y ≠ x → t.station y = s.station y) ∧
          OneNotice none x (.station .powering .attention none) s t ∧ ChangesOnly [.ports, .field] s t
      | .absent | .powering | .identifying | .lost | .quiescing | .faulted =>
        exec (.attentionButton x) s = .next s) ∧
    (if (s.station x).state = .active then
      ∃ t, exec (.refusalBlinkEnd x) s = .next t ∧
        t.station x = { s.station x with indicator := .steady } ∧
        (∀ y, y ≠ x → t.station y = s.station y) ∧ ChangesOnly [.field] s t
    else exec (.refusalBlinkEnd x) s = .next s) ∧
    (if onBus s x .quiesce = true ∧ (s.station x).state = .quiescing then
      (∃ t, exec (.quiescingExchangeAnswered x) s = .next t ∧ StationIn t x .off none ∧
        OthersStand s t x ∧ OneNotice none x (.station .off .quiesced none) s t ∧
        (carrying s = .blank → (t.station x).blankOwed = false) ∧
        (carrying s = .nothing ∨ carrying s = .blank → ChangesOnly [.ports, .field] s t) ∧
        (carrying s = .darken →
          (∀ n < 24, t.out n = if signOfBeacon s.image x = some n then
            { s.out n with lamp1 := false, lamp2 := false } else s.out n) ∧
          t.arbiter.demands = s.arbiter.demands ∧ ChangesOnly [.ports, .arbiter, .field] s t) ∧
        ChangesOnly [.ports, .gates, .arbiter, .field] s t) ∧
      ∃ t, exec (.quiescingExchangeUnanswered x) s = .next t ∧ OthersStand s t x ∧
        ChangesOnly [.ports, .field] s t ∧
        if (s.station x).quiesceTries < 2 then
          t.station x = { s.station x with quiesceTries := (s.station x).quiesceTries + 1 } ∧ NoNotice s t
        else StationIn t x .off none ∧ OneNotice none x (.station .off .quiesced none) s t
    else exec (.quiescingExchangeAnswered x) s = .next s ∧
      exec (.quiescingExchangeUnanswered x) s = .next s) ∧
    (∀ p, Accepted stationOffCommand s p x →
      if (s.station x).state = .active ∧ drivesMoving s x = false then
        ∃ t, exec (.stationOff p) s = .next t ∧ Quiesced s (roleTaken s x) t x ∧
          SoleStationNotice x (.station .quiescing .stationOff none) s t ∧
          Replied p .stationOff .done [5#8] s t
      else exec (.stationOff p) s = .next (answered s p .stationOff .state [])) ∧
    ∀ p, Accepted stationRestartCommand s p x →
      if (s.station x).state = .off ∨ (s.station x).state = .faulted then
        ∃ t, exec (.stationRestart p) s = .next t ∧ StationIn t x .powering none ∧
          (∀ y, y ≠ x → t.station y = s.station y) ∧
          OneNotice none x (.station .powering .stationRestart none) s t ∧
          Replied p .stationRestart .done [1#8] s t ∧ ChangesOnly [.ports, .field] s t
      else exec (.stationRestart p) s = .next (answered s p .stationRestart .state [])

/-! ## Image loader -/

/-- R38, R39, R187, R188: IMAGE WRITE puts its bytes at its offset of the staging buffer and leaves every
other byte; IMAGE COMMIT, with or without a guard, is refused with BADARG where the buffer's CRC-32 does not
agree (in the bit order of log 9), with STALE where its guard does not hold, and otherwise clears the marker
and begins the write, during which both are refused with BUSY; its completion makes memory the buffer and
sets the marker. The image in effect stands. That a completion without a write does nothing is the model's
choice (log 1). -/
def Obligations.ImageIsStagedAndCommitted : Prop :=
  ∀ (s : State) (p : Nat), TablesOk s → BuffersOk s →
    (∀ offset data, Accepted imageWriteCommand s p (offset, data) →
      if s.loader.writing then exec (.imageWrite p) s = .next (answered s p .imageWrite .busy [])
      else ∃ t, exec (.imageWrite p) s = .next t ∧
        (∀ a, t.loader.staging.read a =
          if offset ≤ a ∧ a < offset + data.length then data.getD (a - offset) 0
          else s.loader.staging.read a) ∧
        t.loader = { s.loader with staging := t.loader.staging } ∧
        Replied p .imageWrite .done (enc16 offset ++ [byteOf data.length]) s t ∧
        NoNotice s t ∧ LinesKept s t ∧ ChangesOnly [.ports, .loader] s t) ∧
    (∀ body, Ready s p .imageCommit body → Admitted s p .imageCommit → bodyProbe body = false →
      bodyHeaderOk body = true → bodyArgs body = [] →
      (∀ g, bodyGuard body = some g →
        g.segment < 12 ∧ (g.stateForm = true → g.high = 0 ∧ g.low.toNat ≤ 4)) →
      if crcOk s.loader.staging = false then
        exec (.imageCommit p) s = .next (answered s p .imageCommit .badarg [])
      else if ∃ g ∈ (bodyGuard body).toList, g.holds s = false then
        ∃ g, bodyGuard body = some g ∧ exec (.imageCommit p) s = .next (answered s p .imageCommit .stale
          (be16 (s.seg g.segment).revision ++ [byteOf (s.seg g.segment).state.code]))
      else if s.loader.writing then
        exec (.imageCommit p) s = .next (answered s p .imageCommit .busy [])
      else ∃ t, exec (.imageCommit p) s = .next t ∧
        t.loader = { s.loader with writing := true, marker := false } ∧
        Replied p .imageCommit .done [] s t ∧ NoNotice s t ∧ LinesKept s t ∧
        ChangesOnly [.ports, .loader] s t) ∧
    if s.loader.writing then
      ∃ t, exec .commitCompletion s = .next t ∧
        t.loader = { s.loader with
          memory := s.loader.staging, marker := true, writing := false } ∧
        ChangesOnly [.loader] s t
    else exec .commitCompletion s = .next s

/-! ## Invariants -/

/-- Every property of the records between two steps holds at reset. -/
def Obligations.ResetStateIsConsistent : Prop :=
  TablesOk State.reset ∧ BuffersOk State.reset ∧ AuthorityOk State.reset ∧ PortsOk State.reset ∧
  SegmentsOk State.reset ∧
  GatesOk State.reset ∧ ZonesOk State.reset ∧ WeatherOk State.reset ∧ EvaluatorOk State.reset ∧
  StacksOk State.reset ∧ CountsOk State.reset ∧ LibraryOk State.reset ∧ PlacementOk State.reset ∧
  StationsOk State.reset

/-- R184, R185: every step keeps the sizes of the tables, an image in effect that passes the load check,
and the canonical form of both buffers. -/
def Obligations.StepsKeepTablesAndBuffers : Prop :=
  ∀ s t : State, step s = .next t →
    (TablesOk s → TablesOk t) ∧ (BuffersOk s → BuffersOk t)

/-- R24, R28, R30, R31, R173, R176, R177: every step keeps the bounds of the port queues, the urgent frames
ahead of the routine ones, at most one owed reply of an executed command, and no notice on an unbound port;
and every step keeps the presence timers within LINKED, a lower bound within its window, and every hold, with
at most the hold duration remaining, with a source whose port is LINKED. -/
def Obligations.StepsKeepPortsBounded : Prop :=
  ∀ s t : State, TablesOk s → step s = .next t →
    (PortsOk s → PortsOk t) ∧ (AuthorityOk s → AuthorityOk t)

/-- R43–R45, R57–R64: every step keeps the segment records consistent. -/
def Obligations.StepsKeepSegmentsConsistent : Prop :=
  ∀ s t : State, TablesOk s → SegmentsOk s → step s = .next t → SegmentsOk t

/-- R69–R77, R87–R94, R104: every step keeps the gate, zone and line records consistent. -/
def Obligations.StepsKeepGatesAndZonesConsistent : Prop :=
  ∀ s t : State, TablesOk s → step s = .next t →
    (GatesOk s → GatesOk t) ∧ (ZonesOk s → ZonesOk t)

/-- R110–R131: every step keeps the channels, the deferred slot with its sample on the station link, and
the evaluation records consistent. -/
def Obligations.StepsKeepWeatherConsistent : Prop :=
  ∀ s t : State, TablesOk s → step s = .next t →
    (WeatherOk s → WeatherOk t) ∧ (EvaluatorOk s → EvaluatorOk t)

/-- R136, R137, R156, R157: every step keeps the demand stacks in their order and bounds, the reference
counts equal to the demands that name the slots, and the library and its cursors within their ranges. -/
def Obligations.StepsKeepStacksAndCounts : Prop :=
  ∀ s t : State, TablesOk s → StacksOk s → CountsOk s → LibraryOk s → step s = .next t →
    StacksOk t ∧ CountsOk t ∧ LibraryOk t

/-- R8–R13, R162: every step keeps no two signs on one target or one primary, and the station records
consistent. That a target is ACTIVE is said as the placement table was last told (the model's choice,
log 10). -/
def Obligations.StepsKeepPlacementAndStations : Prop :=
  ∀ s t : State, TablesOk s → step s = .next t →
    (PlacementOk s → PlacementOk t) ∧ (StationsOk s → StationsOk t)

/-- R36: every command but START_UP raises a segment's revision by one, wrapping, where it changes its
claim set as R36 watches it, its state or its barrier fault, and otherwise leaves it. -/
def Obligations.RevisionCountsChanges : Prop :=
  ∀ (c : Instr) (s t : State), TablesOk s → SegmentsOk s → c ≠ .startUp → exec c s = .next t →
    ∀ i < 12, (t.seg i).revision = (s.seg i).revision +
      (if (t.seg i).state ≠ (s.seg i).state ∨
          (t.seg i).barrierFault ≠ (s.seg i).barrierFault ∨
          (t.seg i).claims.watched ≠ (s.seg i).claims.watched then 1 else 0)

/-- R100: a zone in WORK keeps every segment it threatens CLOSED and under zone lock, at every command in
whatever order the events are taken. That a clearance taken after the permit ends no lock is the model's
choice (log 36). -/
def Obligations.WorkZonesKeepSegmentsShut : Prop :=
  ∀ (c : Instr) (s t : State), TablesOk s → WorkIsShut s → exec c s = .next t → WorkIsShut t
end

