-- ==== Sys2Proof/Laws/State.lean ====
section
/-! SUPPORT. One lemma for each field after each update of the state, so that no later proof unfolds a
record update; then what a record reads as after its own update. -/

namespace Sys2Proof.Machine

open Sys2Proof

variable (s : State)

/-! ### setSeg -/

@[simp] theorem State.setSeg_clock (i : Nat) (v : Segment) : (s.setSeg i v).clock = s.clock := rfl
@[simp] theorem State.setSeg_auth (i : Nat) (v : Segment) : (s.setSeg i v).auth = s.auth := rfl
@[simp] theorem State.setSeg_ports (i : Nat) (v : Segment) : (s.setSeg i v).ports = s.ports := rfl
@[simp] theorem State.setSeg_segments (i : Nat) (v : Segment) :
    (s.setSeg i v).segments = s.segments.set i v := rfl
@[simp] theorem State.setSeg_gates (i : Nat) (v : Segment) : (s.setSeg i v).gates = s.gates := rfl
@[simp] theorem State.setSeg_zones (i : Nat) (v : Segment) : (s.setSeg i v).zones = s.zones := rfl
@[simp] theorem State.setSeg_weather (i : Nat) (v : Segment) : (s.setSeg i v).weather = s.weather := rfl
@[simp] theorem State.setSeg_evaluator (i : Nat) (v : Segment) : (s.setSeg i v).evaluator = s.evaluator := rfl
@[simp] theorem State.setSeg_arbiter (i : Nat) (v : Segment) : (s.setSeg i v).arbiter = s.arbiter := rfl
@[simp] theorem State.setSeg_library (i : Nat) (v : Segment) : (s.setSeg i v).library = s.library := rfl
@[simp] theorem State.setSeg_placement (i : Nat) (v : Segment) : (s.setSeg i v).placement = s.placement := rfl
@[simp] theorem State.setSeg_field (i : Nat) (v : Segment) : (s.setSeg i v).field = s.field := rfl
@[simp] theorem State.setSeg_loader (i : Nat) (v : Segment) : (s.setSeg i v).loader = s.loader := rfl
@[simp] theorem State.setSeg_deliveries (i : Nat) (v : Segment) : (s.setSeg i v).deliveries = s.deliveries := rfl
@[simp] theorem State.setSeg_pending (i : Nat) (v : Segment) : (s.setSeg i v).pending = s.pending := rfl

/-! ### setHold -/

@[simp] theorem State.setHold_clock (i : Nat) (v : Option Hold) : (s.setHold i v).clock = s.clock := rfl
@[simp] theorem State.setHold_auth (i : Nat) (v : Option Hold) :
    (s.setHold i v).auth = { s.auth with holds := s.auth.holds.set i v } := rfl
@[simp] theorem State.setHold_ports (i : Nat) (v : Option Hold) : (s.setHold i v).ports = s.ports := rfl
@[simp] theorem State.setHold_segments (i : Nat) (v : Option Hold) : (s.setHold i v).segments = s.segments := rfl
@[simp] theorem State.setHold_gates (i : Nat) (v : Option Hold) : (s.setHold i v).gates = s.gates := rfl
@[simp] theorem State.setHold_zones (i : Nat) (v : Option Hold) : (s.setHold i v).zones = s.zones := rfl
@[simp] theorem State.setHold_weather (i : Nat) (v : Option Hold) : (s.setHold i v).weather = s.weather := rfl
@[simp] theorem State.setHold_evaluator (i : Nat) (v : Option Hold) : (s.setHold i v).evaluator = s.evaluator := rfl
@[simp] theorem State.setHold_arbiter (i : Nat) (v : Option Hold) : (s.setHold i v).arbiter = s.arbiter := rfl
@[simp] theorem State.setHold_library (i : Nat) (v : Option Hold) : (s.setHold i v).library = s.library := rfl
@[simp] theorem State.setHold_placement (i : Nat) (v : Option Hold) : (s.setHold i v).placement = s.placement := rfl
@[simp] theorem State.setHold_field (i : Nat) (v : Option Hold) : (s.setHold i v).field = s.field := rfl
@[simp] theorem State.setHold_loader (i : Nat) (v : Option Hold) : (s.setHold i v).loader = s.loader := rfl
@[simp] theorem State.setHold_deliveries (i : Nat) (v : Option Hold) : (s.setHold i v).deliveries = s.deliveries := rfl
@[simp] theorem State.setHold_pending (i : Nat) (v : Option Hold) : (s.setHold i v).pending = s.pending := rfl

/-! ### setLink -/

@[simp] theorem State.setLink_clock (p : Nat) (v : PortLink) : (s.setLink p v).clock = s.clock := rfl
@[simp] theorem State.setLink_auth (p : Nat) (v : PortLink) :
    (s.setLink p v).auth = { s.auth with links := s.auth.links.set p v } := rfl
@[simp] theorem State.setLink_ports (p : Nat) (v : PortLink) : (s.setLink p v).ports = s.ports := rfl
@[simp] theorem State.setLink_segments (p : Nat) (v : PortLink) : (s.setLink p v).segments = s.segments := rfl
@[simp] theorem State.setLink_gates (p : Nat) (v : PortLink) : (s.setLink p v).gates = s.gates := rfl
@[simp] theorem State.setLink_zones (p : Nat) (v : PortLink) : (s.setLink p v).zones = s.zones := rfl
@[simp] theorem State.setLink_weather (p : Nat) (v : PortLink) : (s.setLink p v).weather = s.weather := rfl
@[simp] theorem State.setLink_evaluator (p : Nat) (v : PortLink) : (s.setLink p v).evaluator = s.evaluator := rfl
@[simp] theorem State.setLink_arbiter (p : Nat) (v : PortLink) : (s.setLink p v).arbiter = s.arbiter := rfl
@[simp] theorem State.setLink_library (p : Nat) (v : PortLink) : (s.setLink p v).library = s.library := rfl
@[simp] theorem State.setLink_placement (p : Nat) (v : PortLink) : (s.setLink p v).placement = s.placement := rfl
@[simp] theorem State.setLink_field (p : Nat) (v : PortLink) : (s.setLink p v).field = s.field := rfl
@[simp] theorem State.setLink_loader (p : Nat) (v : PortLink) : (s.setLink p v).loader = s.loader := rfl
@[simp] theorem State.setLink_deliveries (p : Nat) (v : PortLink) : (s.setLink p v).deliveries = s.deliveries := rfl
@[simp] theorem State.setLink_pending (p : Nat) (v : PortLink) : (s.setLink p v).pending = s.pending := rfl

/-! ### setPort -/

@[simp] theorem State.setPort_clock (p : Nat) (v : Port) : (s.setPort p v).clock = s.clock := rfl
@[simp] theorem State.setPort_auth (p : Nat) (v : Port) : (s.setPort p v).auth = s.auth := rfl
@[simp] theorem State.setPort_ports (p : Nat) (v : Port) :
    (s.setPort p v).ports = s.ports.set p v := rfl
@[simp] theorem State.setPort_segments (p : Nat) (v : Port) : (s.setPort p v).segments = s.segments := rfl
@[simp] theorem State.setPort_gates (p : Nat) (v : Port) : (s.setPort p v).gates = s.gates := rfl
@[simp] theorem State.setPort_zones (p : Nat) (v : Port) : (s.setPort p v).zones = s.zones := rfl
@[simp] theorem State.setPort_weather (p : Nat) (v : Port) : (s.setPort p v).weather = s.weather := rfl
@[simp] theorem State.setPort_evaluator (p : Nat) (v : Port) : (s.setPort p v).evaluator = s.evaluator := rfl
@[simp] theorem State.setPort_arbiter (p : Nat) (v : Port) : (s.setPort p v).arbiter = s.arbiter := rfl
@[simp] theorem State.setPort_library (p : Nat) (v : Port) : (s.setPort p v).library = s.library := rfl
@[simp] theorem State.setPort_placement (p : Nat) (v : Port) : (s.setPort p v).placement = s.placement := rfl
@[simp] theorem State.setPort_field (p : Nat) (v : Port) : (s.setPort p v).field = s.field := rfl
@[simp] theorem State.setPort_loader (p : Nat) (v : Port) : (s.setPort p v).loader = s.loader := rfl
@[simp] theorem State.setPort_deliveries (p : Nat) (v : Port) : (s.setPort p v).deliveries = s.deliveries := rfl
@[simp] theorem State.setPort_pending (p : Nat) (v : Port) : (s.setPort p v).pending = s.pending := rfl

/-! ### setGate -/

@[simp] theorem State.setGate_clock (g : Nat) (v : Gate) : (s.setGate g v).clock = s.clock := rfl
@[simp] theorem State.setGate_auth (g : Nat) (v : Gate) : (s.setGate g v).auth = s.auth := rfl
@[simp] theorem State.setGate_ports (g : Nat) (v : Gate) : (s.setGate g v).ports = s.ports := rfl
@[simp] theorem State.setGate_segments (g : Nat) (v : Gate) : (s.setGate g v).segments = s.segments := rfl
@[simp] theorem State.setGate_gates (g : Nat) (v : Gate) :
    (s.setGate g v).gates = { s.gates with recs := s.gates.recs.set g v } := rfl
@[simp] theorem State.setGate_zones (g : Nat) (v : Gate) : (s.setGate g v).zones = s.zones := rfl
@[simp] theorem State.setGate_weather (g : Nat) (v : Gate) : (s.setGate g v).weather = s.weather := rfl
@[simp] theorem State.setGate_evaluator (g : Nat) (v : Gate) : (s.setGate g v).evaluator = s.evaluator := rfl
@[simp] theorem State.setGate_arbiter (g : Nat) (v : Gate) : (s.setGate g v).arbiter = s.arbiter := rfl
@[simp] theorem State.setGate_library (g : Nat) (v : Gate) : (s.setGate g v).library = s.library := rfl
@[simp] theorem State.setGate_placement (g : Nat) (v : Gate) : (s.setGate g v).placement = s.placement := rfl
@[simp] theorem State.setGate_field (g : Nat) (v : Gate) : (s.setGate g v).field = s.field := rfl
@[simp] theorem State.setGate_loader (g : Nat) (v : Gate) : (s.setGate g v).loader = s.loader := rfl
@[simp] theorem State.setGate_deliveries (g : Nat) (v : Gate) : (s.setGate g v).deliveries = s.deliveries := rfl
@[simp] theorem State.setGate_pending (g : Nat) (v : Gate) : (s.setGate g v).pending = s.pending := rfl

/-! ### setZone -/

@[simp] theorem State.setZone_clock (z : Nat) (v : Zone) : (s.setZone z v).clock = s.clock := rfl
@[simp] theorem State.setZone_auth (z : Nat) (v : Zone) : (s.setZone z v).auth = s.auth := rfl
@[simp] theorem State.setZone_ports (z : Nat) (v : Zone) : (s.setZone z v).ports = s.ports := rfl
@[simp] theorem State.setZone_segments (z : Nat) (v : Zone) : (s.setZone z v).segments = s.segments := rfl
@[simp] theorem State.setZone_gates (z : Nat) (v : Zone) : (s.setZone z v).gates = s.gates := rfl
@[simp] theorem State.setZone_zones (z : Nat) (v : Zone) :
    (s.setZone z v).zones = { s.zones with zones := s.zones.zones.set z v } := rfl
@[simp] theorem State.setZone_weather (z : Nat) (v : Zone) : (s.setZone z v).weather = s.weather := rfl
@[simp] theorem State.setZone_evaluator (z : Nat) (v : Zone) : (s.setZone z v).evaluator = s.evaluator := rfl
@[simp] theorem State.setZone_arbiter (z : Nat) (v : Zone) : (s.setZone z v).arbiter = s.arbiter := rfl
@[simp] theorem State.setZone_library (z : Nat) (v : Zone) : (s.setZone z v).library = s.library := rfl
@[simp] theorem State.setZone_placement (z : Nat) (v : Zone) : (s.setZone z v).placement = s.placement := rfl
@[simp] theorem State.setZone_field (z : Nat) (v : Zone) : (s.setZone z v).field = s.field := rfl
@[simp] theorem State.setZone_loader (z : Nat) (v : Zone) : (s.setZone z v).loader = s.loader := rfl
@[simp] theorem State.setZone_deliveries (z : Nat) (v : Zone) : (s.setZone z v).deliveries = s.deliveries := rfl
@[simp] theorem State.setZone_pending (z : Nat) (v : Zone) : (s.setZone z v).pending = s.pending := rfl

/-! ### setLine -/

@[simp] theorem State.setLine_clock (l : Nat) (v : Line) : (s.setLine l v).clock = s.clock := rfl
@[simp] theorem State.setLine_auth (l : Nat) (v : Line) : (s.setLine l v).auth = s.auth := rfl
@[simp] theorem State.setLine_ports (l : Nat) (v : Line) : (s.setLine l v).ports = s.ports := rfl
@[simp] theorem State.setLine_segments (l : Nat) (v : Line) : (s.setLine l v).segments = s.segments := rfl
@[simp] theorem State.setLine_gates (l : Nat) (v : Line) : (s.setLine l v).gates = s.gates := rfl
@[simp] theorem State.setLine_zones (l : Nat) (v : Line) :
    (s.setLine l v).zones = { s.zones with lines := s.zones.lines.set l v } := rfl
@[simp] theorem State.setLine_weather (l : Nat) (v : Line) : (s.setLine l v).weather = s.weather := rfl
@[simp] theorem State.setLine_evaluator (l : Nat) (v : Line) : (s.setLine l v).evaluator = s.evaluator := rfl
@[simp] theorem State.setLine_arbiter (l : Nat) (v : Line) : (s.setLine l v).arbiter = s.arbiter := rfl
@[simp] theorem State.setLine_library (l : Nat) (v : Line) : (s.setLine l v).library = s.library := rfl
@[simp] theorem State.setLine_placement (l : Nat) (v : Line) : (s.setLine l v).placement = s.placement := rfl
@[simp] theorem State.setLine_field (l : Nat) (v : Line) : (s.setLine l v).field = s.field := rfl
@[simp] theorem State.setLine_loader (l : Nat) (v : Line) : (s.setLine l v).loader = s.loader := rfl
@[simp] theorem State.setLine_deliveries (l : Nat) (v : Line) : (s.setLine l v).deliveries = s.deliveries := rfl
@[simp] theorem State.setLine_pending (l : Nat) (v : Line) : (s.setLine l v).pending = s.pending := rfl

/-! ### setShown -/

@[simp] theorem State.setShown_clock (i : Nat) (v : Option Deciding) : (s.setShown i v).clock = s.clock := rfl
@[simp] theorem State.setShown_auth (i : Nat) (v : Option Deciding) : (s.setShown i v).auth = s.auth := rfl
@[simp] theorem State.setShown_ports (i : Nat) (v : Option Deciding) : (s.setShown i v).ports = s.ports := rfl
@[simp] theorem State.setShown_segments (i : Nat) (v : Option Deciding) : (s.setShown i v).segments = s.segments := rfl
@[simp] theorem State.setShown_gates (i : Nat) (v : Option Deciding) : (s.setShown i v).gates = s.gates := rfl
@[simp] theorem State.setShown_zones (i : Nat) (v : Option Deciding) :
    (s.setShown i v).zones = { s.zones with shown := s.zones.shown.set i v } := rfl
@[simp] theorem State.setShown_weather (i : Nat) (v : Option Deciding) : (s.setShown i v).weather = s.weather := rfl
@[simp] theorem State.setShown_evaluator (i : Nat) (v : Option Deciding) : (s.setShown i v).evaluator = s.evaluator := rfl
@[simp] theorem State.setShown_arbiter (i : Nat) (v : Option Deciding) : (s.setShown i v).arbiter = s.arbiter := rfl
@[simp] theorem State.setShown_library (i : Nat) (v : Option Deciding) : (s.setShown i v).library = s.library := rfl
@[simp] theorem State.setShown_placement (i : Nat) (v : Option Deciding) : (s.setShown i v).placement = s.placement := rfl
@[simp] theorem State.setShown_field (i : Nat) (v : Option Deciding) : (s.setShown i v).field = s.field := rfl
@[simp] theorem State.setShown_loader (i : Nat) (v : Option Deciding) : (s.setShown i v).loader = s.loader := rfl
@[simp] theorem State.setShown_deliveries (i : Nat) (v : Option Deciding) : (s.setShown i v).deliveries = s.deliveries := rfl
@[simp] theorem State.setShown_pending (i : Nat) (v : Option Deciding) : (s.setShown i v).pending = s.pending := rfl

/-! ### setWeather -/

@[simp] theorem State.setWeather_clock (w : Weather) : (s.setWeather w).clock = s.clock := rfl
@[simp] theorem State.setWeather_auth (w : Weather) : (s.setWeather w).auth = s.auth := rfl
@[simp] theorem State.setWeather_ports (w : Weather) : (s.setWeather w).ports = s.ports := rfl
@[simp] theorem State.setWeather_segments (w : Weather) : (s.setWeather w).segments = s.segments := rfl
@[simp] theorem State.setWeather_gates (w : Weather) : (s.setWeather w).gates = s.gates := rfl
@[simp] theorem State.setWeather_zones (w : Weather) : (s.setWeather w).zones = s.zones := rfl
@[simp] theorem State.setWeather_weather (w : Weather) :
    (s.setWeather w).weather = w := rfl
@[simp] theorem State.setWeather_evaluator (w : Weather) : (s.setWeather w).evaluator = s.evaluator := rfl
@[simp] theorem State.setWeather_arbiter (w : Weather) : (s.setWeather w).arbiter = s.arbiter := rfl
@[simp] theorem State.setWeather_library (w : Weather) : (s.setWeather w).library = s.library := rfl
@[simp] theorem State.setWeather_placement (w : Weather) : (s.setWeather w).placement = s.placement := rfl
@[simp] theorem State.setWeather_field (w : Weather) : (s.setWeather w).field = s.field := rfl
@[simp] theorem State.setWeather_loader (w : Weather) : (s.setWeather w).loader = s.loader := rfl
@[simp] theorem State.setWeather_deliveries (w : Weather) : (s.setWeather w).deliveries = s.deliveries := rfl
@[simp] theorem State.setWeather_pending (w : Weather) : (s.setWeather w).pending = s.pending := rfl

/-! ### setHead -/

@[simp] theorem State.setHead_clock (h : Nat) (v : Head) : (s.setHead h v).clock = s.clock := rfl
@[simp] theorem State.setHead_auth (h : Nat) (v : Head) : (s.setHead h v).auth = s.auth := rfl
@[simp] theorem State.setHead_ports (h : Nat) (v : Head) : (s.setHead h v).ports = s.ports := rfl
@[simp] theorem State.setHead_segments (h : Nat) (v : Head) : (s.setHead h v).segments = s.segments := rfl
@[simp] theorem State.setHead_gates (h : Nat) (v : Head) : (s.setHead h v).gates = s.gates := rfl
@[simp] theorem State.setHead_zones (h : Nat) (v : Head) : (s.setHead h v).zones = s.zones := rfl
@[simp] theorem State.setHead_weather (h : Nat) (v : Head) :
    (s.setHead h v).weather = { s.weather with heads := s.weather.heads.set h v } := rfl
@[simp] theorem State.setHead_evaluator (h : Nat) (v : Head) : (s.setHead h v).evaluator = s.evaluator := rfl
@[simp] theorem State.setHead_arbiter (h : Nat) (v : Head) : (s.setHead h v).arbiter = s.arbiter := rfl
@[simp] theorem State.setHead_library (h : Nat) (v : Head) : (s.setHead h v).library = s.library := rfl
@[simp] theorem State.setHead_placement (h : Nat) (v : Head) : (s.setHead h v).placement = s.placement := rfl
@[simp] theorem State.setHead_field (h : Nat) (v : Head) : (s.setHead h v).field = s.field := rfl
@[simp] theorem State.setHead_loader (h : Nat) (v : Head) : (s.setHead h v).loader = s.loader := rfl
@[simp] theorem State.setHead_deliveries (h : Nat) (v : Head) : (s.setHead h v).deliveries = s.deliveries := rfl
@[simp] theorem State.setHead_pending (h : Nat) (v : Head) : (s.setHead h v).pending = s.pending := rfl

/-! ### setChannel -/

@[simp] theorem State.setChannel_clock (c : Nat) (v : Channel) : (s.setChannel c v).clock = s.clock := rfl
@[simp] theorem State.setChannel_auth (c : Nat) (v : Channel) : (s.setChannel c v).auth = s.auth := rfl
@[simp] theorem State.setChannel_ports (c : Nat) (v : Channel) : (s.setChannel c v).ports = s.ports := rfl
@[simp] theorem State.setChannel_segments (c : Nat) (v : Channel) : (s.setChannel c v).segments = s.segments := rfl
@[simp] theorem State.setChannel_gates (c : Nat) (v : Channel) : (s.setChannel c v).gates = s.gates := rfl
@[simp] theorem State.setChannel_zones (c : Nat) (v : Channel) : (s.setChannel c v).zones = s.zones := rfl
@[simp] theorem State.setChannel_weather (c : Nat) (v : Channel) :
    (s.setChannel c v).weather = { s.weather with channels := s.weather.channels.set c v } := rfl
@[simp] theorem State.setChannel_evaluator (c : Nat) (v : Channel) : (s.setChannel c v).evaluator = s.evaluator := rfl
@[simp] theorem State.setChannel_arbiter (c : Nat) (v : Channel) : (s.setChannel c v).arbiter = s.arbiter := rfl
@[simp] theorem State.setChannel_library (c : Nat) (v : Channel) : (s.setChannel c v).library = s.library := rfl
@[simp] theorem State.setChannel_placement (c : Nat) (v : Channel) : (s.setChannel c v).placement = s.placement := rfl
@[simp] theorem State.setChannel_field (c : Nat) (v : Channel) : (s.setChannel c v).field = s.field := rfl
@[simp] theorem State.setChannel_loader (c : Nat) (v : Channel) : (s.setChannel c v).loader = s.loader := rfl
@[simp] theorem State.setChannel_deliveries (c : Nat) (v : Channel) : (s.setChannel c v).deliveries = s.deliveries := rfl
@[simp] theorem State.setChannel_pending (c : Nat) (v : Channel) : (s.setChannel c v).pending = s.pending := rfl

/-! ### setEval -/

@[simp] theorem State.setEval_clock (i : Nat) (v : Evaluation) : (s.setEval i v).clock = s.clock := rfl
@[simp] theorem State.setEval_auth (i : Nat) (v : Evaluation) : (s.setEval i v).auth = s.auth := rfl
@[simp] theorem State.setEval_ports (i : Nat) (v : Evaluation) : (s.setEval i v).ports = s.ports := rfl
@[simp] theorem State.setEval_segments (i : Nat) (v : Evaluation) : (s.setEval i v).segments = s.segments := rfl
@[simp] theorem State.setEval_gates (i : Nat) (v : Evaluation) : (s.setEval i v).gates = s.gates := rfl
@[simp] theorem State.setEval_zones (i : Nat) (v : Evaluation) : (s.setEval i v).zones = s.zones := rfl
@[simp] theorem State.setEval_weather (i : Nat) (v : Evaluation) : (s.setEval i v).weather = s.weather := rfl
@[simp] theorem State.setEval_evaluator (i : Nat) (v : Evaluation) :
    (s.setEval i v).evaluator = { s.evaluator with recs := s.evaluator.recs.set i v } := rfl
@[simp] theorem State.setEval_arbiter (i : Nat) (v : Evaluation) : (s.setEval i v).arbiter = s.arbiter := rfl
@[simp] theorem State.setEval_library (i : Nat) (v : Evaluation) : (s.setEval i v).library = s.library := rfl
@[simp] theorem State.setEval_placement (i : Nat) (v : Evaluation) : (s.setEval i v).placement = s.placement := rfl
@[simp] theorem State.setEval_field (i : Nat) (v : Evaluation) : (s.setEval i v).field = s.field := rfl
@[simp] theorem State.setEval_loader (i : Nat) (v : Evaluation) : (s.setEval i v).loader = s.loader := rfl
@[simp] theorem State.setEval_deliveries (i : Nat) (v : Evaluation) : (s.setEval i v).deliveries = s.deliveries := rfl
@[simp] theorem State.setEval_pending (i : Nat) (v : Evaluation) : (s.setEval i v).pending = s.pending := rfl

/-! ### setStack -/

@[simp] theorem State.setStack_clock (n : Nat) (v : List Demand) : (s.setStack n v).clock = s.clock := rfl
@[simp] theorem State.setStack_auth (n : Nat) (v : List Demand) : (s.setStack n v).auth = s.auth := rfl
@[simp] theorem State.setStack_ports (n : Nat) (v : List Demand) : (s.setStack n v).ports = s.ports := rfl
@[simp] theorem State.setStack_segments (n : Nat) (v : List Demand) : (s.setStack n v).segments = s.segments := rfl
@[simp] theorem State.setStack_gates (n : Nat) (v : List Demand) : (s.setStack n v).gates = s.gates := rfl
@[simp] theorem State.setStack_zones (n : Nat) (v : List Demand) : (s.setStack n v).zones = s.zones := rfl
@[simp] theorem State.setStack_weather (n : Nat) (v : List Demand) : (s.setStack n v).weather = s.weather := rfl
@[simp] theorem State.setStack_evaluator (n : Nat) (v : List Demand) : (s.setStack n v).evaluator = s.evaluator := rfl
@[simp] theorem State.setStack_arbiter (n : Nat) (v : List Demand) :
    (s.setStack n v).arbiter = { s.arbiter with demands := s.arbiter.demands.set n v } := rfl
@[simp] theorem State.setStack_library (n : Nat) (v : List Demand) : (s.setStack n v).library = s.library := rfl
@[simp] theorem State.setStack_placement (n : Nat) (v : List Demand) : (s.setStack n v).placement = s.placement := rfl
@[simp] theorem State.setStack_field (n : Nat) (v : List Demand) : (s.setStack n v).field = s.field := rfl
@[simp] theorem State.setStack_loader (n : Nat) (v : List Demand) : (s.setStack n v).loader = s.loader := rfl
@[simp] theorem State.setStack_deliveries (n : Nat) (v : List Demand) : (s.setStack n v).deliveries = s.deliveries := rfl
@[simp] theorem State.setStack_pending (n : Nat) (v : List Demand) : (s.setStack n v).pending = s.pending := rfl

/-! ### setArrival -/

@[simp] theorem State.setArrival_clock (v : Word) : (s.setArrival v).clock = s.clock := rfl
@[simp] theorem State.setArrival_auth (v : Word) : (s.setArrival v).auth = s.auth := rfl
@[simp] theorem State.setArrival_ports (v : Word) : (s.setArrival v).ports = s.ports := rfl
@[simp] theorem State.setArrival_segments (v : Word) : (s.setArrival v).segments = s.segments := rfl
@[simp] theorem State.setArrival_gates (v : Word) : (s.setArrival v).gates = s.gates := rfl
@[simp] theorem State.setArrival_zones (v : Word) : (s.setArrival v).zones = s.zones := rfl
@[simp] theorem State.setArrival_weather (v : Word) : (s.setArrival v).weather = s.weather := rfl
@[simp] theorem State.setArrival_evaluator (v : Word) : (s.setArrival v).evaluator = s.evaluator := rfl
@[simp] theorem State.setArrival_arbiter (v : Word) :
    (s.setArrival v).arbiter = { s.arbiter with arrival := v } := rfl
@[simp] theorem State.setArrival_library (v : Word) : (s.setArrival v).library = s.library := rfl
@[simp] theorem State.setArrival_placement (v : Word) : (s.setArrival v).placement = s.placement := rfl
@[simp] theorem State.setArrival_field (v : Word) : (s.setArrival v).field = s.field := rfl
@[simp] theorem State.setArrival_loader (v : Word) : (s.setArrival v).loader = s.loader := rfl
@[simp] theorem State.setArrival_deliveries (v : Word) : (s.setArrival v).deliveries = s.deliveries := rfl
@[simp] theorem State.setArrival_pending (v : Word) : (s.setArrival v).pending = s.pending := rfl

/-! ### setOut -/

@[simp] theorem State.setOut_clock (n : Nat) (v : SignOut) : (s.setOut n v).clock = s.clock := rfl
@[simp] theorem State.setOut_auth (n : Nat) (v : SignOut) : (s.setOut n v).auth = s.auth := rfl
@[simp] theorem State.setOut_ports (n : Nat) (v : SignOut) : (s.setOut n v).ports = s.ports := rfl
@[simp] theorem State.setOut_segments (n : Nat) (v : SignOut) : (s.setOut n v).segments = s.segments := rfl
@[simp] theorem State.setOut_gates (n : Nat) (v : SignOut) : (s.setOut n v).gates = s.gates := rfl
@[simp] theorem State.setOut_zones (n : Nat) (v : SignOut) : (s.setOut n v).zones = s.zones := rfl
@[simp] theorem State.setOut_weather (n : Nat) (v : SignOut) : (s.setOut n v).weather = s.weather := rfl
@[simp] theorem State.setOut_evaluator (n : Nat) (v : SignOut) : (s.setOut n v).evaluator = s.evaluator := rfl
@[simp] theorem State.setOut_arbiter (n : Nat) (v : SignOut) :
    (s.setOut n v).arbiter = { s.arbiter with outputs := s.arbiter.outputs.set n v } := rfl
@[simp] theorem State.setOut_library (n : Nat) (v : SignOut) : (s.setOut n v).library = s.library := rfl
@[simp] theorem State.setOut_placement (n : Nat) (v : SignOut) : (s.setOut n v).placement = s.placement := rfl
@[simp] theorem State.setOut_field (n : Nat) (v : SignOut) : (s.setOut n v).field = s.field := rfl
@[simp] theorem State.setOut_loader (n : Nat) (v : SignOut) : (s.setOut n v).loader = s.loader := rfl
@[simp] theorem State.setOut_deliveries (n : Nat) (v : SignOut) : (s.setOut n v).deliveries = s.deliveries := rfl
@[simp] theorem State.setOut_pending (n : Nat) (v : SignOut) : (s.setOut n v).pending = s.pending := rfl

/-! ### setSlot -/

@[simp] theorem State.setSlot_clock (n : Nat) (v : UserSlot) : (s.setSlot n v).clock = s.clock := rfl
@[simp] theorem State.setSlot_auth (n : Nat) (v : UserSlot) : (s.setSlot n v).auth = s.auth := rfl
@[simp] theorem State.setSlot_ports (n : Nat) (v : UserSlot) : (s.setSlot n v).ports = s.ports := rfl
@[simp] theorem State.setSlot_segments (n : Nat) (v : UserSlot) : (s.setSlot n v).segments = s.segments := rfl
@[simp] theorem State.setSlot_gates (n : Nat) (v : UserSlot) : (s.setSlot n v).gates = s.gates := rfl
@[simp] theorem State.setSlot_zones (n : Nat) (v : UserSlot) : (s.setSlot n v).zones = s.zones := rfl
@[simp] theorem State.setSlot_weather (n : Nat) (v : UserSlot) : (s.setSlot n v).weather = s.weather := rfl
@[simp] theorem State.setSlot_evaluator (n : Nat) (v : UserSlot) : (s.setSlot n v).evaluator = s.evaluator := rfl
@[simp] theorem State.setSlot_arbiter (n : Nat) (v : UserSlot) : (s.setSlot n v).arbiter = s.arbiter := rfl
@[simp] theorem State.setSlot_library (n : Nat) (v : UserSlot) :
    (s.setSlot n v).library = { s.library with slots := s.library.slots.set (n - 96) v } := rfl
@[simp] theorem State.setSlot_placement (n : Nat) (v : UserSlot) : (s.setSlot n v).placement = s.placement := rfl
@[simp] theorem State.setSlot_field (n : Nat) (v : UserSlot) : (s.setSlot n v).field = s.field := rfl
@[simp] theorem State.setSlot_loader (n : Nat) (v : UserSlot) : (s.setSlot n v).loader = s.loader := rfl
@[simp] theorem State.setSlot_deliveries (n : Nat) (v : UserSlot) : (s.setSlot n v).deliveries = s.deliveries := rfl
@[simp] theorem State.setSlot_pending (n : Nat) (v : UserSlot) : (s.setSlot n v).pending = s.pending := rfl

/-! ### setCursor -/

@[simp] theorem State.setCursor_clock (p : Nat) (v : Cursor) : (s.setCursor p v).clock = s.clock := rfl
@[simp] theorem State.setCursor_auth (p : Nat) (v : Cursor) : (s.setCursor p v).auth = s.auth := rfl
@[simp] theorem State.setCursor_ports (p : Nat) (v : Cursor) : (s.setCursor p v).ports = s.ports := rfl
@[simp] theorem State.setCursor_segments (p : Nat) (v : Cursor) : (s.setCursor p v).segments = s.segments := rfl
@[simp] theorem State.setCursor_gates (p : Nat) (v : Cursor) : (s.setCursor p v).gates = s.gates := rfl
@[simp] theorem State.setCursor_zones (p : Nat) (v : Cursor) : (s.setCursor p v).zones = s.zones := rfl
@[simp] theorem State.setCursor_weather (p : Nat) (v : Cursor) : (s.setCursor p v).weather = s.weather := rfl
@[simp] theorem State.setCursor_evaluator (p : Nat) (v : Cursor) : (s.setCursor p v).evaluator = s.evaluator := rfl
@[simp] theorem State.setCursor_arbiter (p : Nat) (v : Cursor) : (s.setCursor p v).arbiter = s.arbiter := rfl
@[simp] theorem State.setCursor_library (p : Nat) (v : Cursor) :
    (s.setCursor p v).library = { s.library with cursors := s.library.cursors.set p v } := rfl
@[simp] theorem State.setCursor_placement (p : Nat) (v : Cursor) : (s.setCursor p v).placement = s.placement := rfl
@[simp] theorem State.setCursor_field (p : Nat) (v : Cursor) : (s.setCursor p v).field = s.field := rfl
@[simp] theorem State.setCursor_loader (p : Nat) (v : Cursor) : (s.setCursor p v).loader = s.loader := rfl
@[simp] theorem State.setCursor_deliveries (p : Nat) (v : Cursor) : (s.setCursor p v).deliveries = s.deliveries := rfl
@[simp] theorem State.setCursor_pending (p : Nat) (v : Cursor) : (s.setCursor p v).pending = s.pending := rfl

/-! ### setPlacement -/

@[simp] theorem State.setPlacement_clock (v : Placement) : (s.setPlacement v).clock = s.clock := rfl
@[simp] theorem State.setPlacement_auth (v : Placement) : (s.setPlacement v).auth = s.auth := rfl
@[simp] theorem State.setPlacement_ports (v : Placement) : (s.setPlacement v).ports = s.ports := rfl
@[simp] theorem State.setPlacement_segments (v : Placement) : (s.setPlacement v).segments = s.segments := rfl
@[simp] theorem State.setPlacement_gates (v : Placement) : (s.setPlacement v).gates = s.gates := rfl
@[simp] theorem State.setPlacement_zones (v : Placement) : (s.setPlacement v).zones = s.zones := rfl
@[simp] theorem State.setPlacement_weather (v : Placement) : (s.setPlacement v).weather = s.weather := rfl
@[simp] theorem State.setPlacement_evaluator (v : Placement) : (s.setPlacement v).evaluator = s.evaluator := rfl
@[simp] theorem State.setPlacement_arbiter (v : Placement) : (s.setPlacement v).arbiter = s.arbiter := rfl
@[simp] theorem State.setPlacement_library (v : Placement) : (s.setPlacement v).library = s.library := rfl
@[simp] theorem State.setPlacement_placement (v : Placement) :
    (s.setPlacement v).placement = v := rfl
@[simp] theorem State.setPlacement_field (v : Placement) : (s.setPlacement v).field = s.field := rfl
@[simp] theorem State.setPlacement_loader (v : Placement) : (s.setPlacement v).loader = s.loader := rfl
@[simp] theorem State.setPlacement_deliveries (v : Placement) : (s.setPlacement v).deliveries = s.deliveries := rfl
@[simp] theorem State.setPlacement_pending (v : Placement) : (s.setPlacement v).pending = s.pending := rfl

/-! ### setField -/

@[simp] theorem State.setField_clock (v : Field) : (s.setField v).clock = s.clock := rfl
@[simp] theorem State.setField_auth (v : Field) : (s.setField v).auth = s.auth := rfl
@[simp] theorem State.setField_ports (v : Field) : (s.setField v).ports = s.ports := rfl
@[simp] theorem State.setField_segments (v : Field) : (s.setField v).segments = s.segments := rfl
@[simp] theorem State.setField_gates (v : Field) : (s.setField v).gates = s.gates := rfl
@[simp] theorem State.setField_zones (v : Field) : (s.setField v).zones = s.zones := rfl
@[simp] theorem State.setField_weather (v : Field) : (s.setField v).weather = s.weather := rfl
@[simp] theorem State.setField_evaluator (v : Field) : (s.setField v).evaluator = s.evaluator := rfl
@[simp] theorem State.setField_arbiter (v : Field) : (s.setField v).arbiter = s.arbiter := rfl
@[simp] theorem State.setField_library (v : Field) : (s.setField v).library = s.library := rfl
@[simp] theorem State.setField_placement (v : Field) : (s.setField v).placement = s.placement := rfl
@[simp] theorem State.setField_field (v : Field) :
    (s.setField v).field = v := rfl
@[simp] theorem State.setField_loader (v : Field) : (s.setField v).loader = s.loader := rfl
@[simp] theorem State.setField_deliveries (v : Field) : (s.setField v).deliveries = s.deliveries := rfl
@[simp] theorem State.setField_pending (v : Field) : (s.setField v).pending = s.pending := rfl

/-! ### setStation -/

@[simp] theorem State.setStation_clock (x : Nat) (v : Station) : (s.setStation x v).clock = s.clock := rfl
@[simp] theorem State.setStation_auth (x : Nat) (v : Station) : (s.setStation x v).auth = s.auth := rfl
@[simp] theorem State.setStation_ports (x : Nat) (v : Station) : (s.setStation x v).ports = s.ports := rfl
@[simp] theorem State.setStation_segments (x : Nat) (v : Station) : (s.setStation x v).segments = s.segments := rfl
@[simp] theorem State.setStation_gates (x : Nat) (v : Station) : (s.setStation x v).gates = s.gates := rfl
@[simp] theorem State.setStation_zones (x : Nat) (v : Station) : (s.setStation x v).zones = s.zones := rfl
@[simp] theorem State.setStation_weather (x : Nat) (v : Station) : (s.setStation x v).weather = s.weather := rfl
@[simp] theorem State.setStation_evaluator (x : Nat) (v : Station) : (s.setStation x v).evaluator = s.evaluator := rfl
@[simp] theorem State.setStation_arbiter (x : Nat) (v : Station) : (s.setStation x v).arbiter = s.arbiter := rfl
@[simp] theorem State.setStation_library (x : Nat) (v : Station) : (s.setStation x v).library = s.library := rfl
@[simp] theorem State.setStation_placement (x : Nat) (v : Station) : (s.setStation x v).placement = s.placement := rfl
@[simp] theorem State.setStation_field (x : Nat) (v : Station) :
    (s.setStation x v).field = { s.field with stations := s.field.stations.set x v } := rfl
@[simp] theorem State.setStation_loader (x : Nat) (v : Station) : (s.setStation x v).loader = s.loader := rfl
@[simp] theorem State.setStation_deliveries (x : Nat) (v : Station) : (s.setStation x v).deliveries = s.deliveries := rfl
@[simp] theorem State.setStation_pending (x : Nat) (v : Station) : (s.setStation x v).pending = s.pending := rfl

/-! ### setLoader -/

@[simp] theorem State.setLoader_clock (v : Loader) : (s.setLoader v).clock = s.clock := rfl
@[simp] theorem State.setLoader_auth (v : Loader) : (s.setLoader v).auth = s.auth := rfl
@[simp] theorem State.setLoader_ports (v : Loader) : (s.setLoader v).ports = s.ports := rfl
@[simp] theorem State.setLoader_segments (v : Loader) : (s.setLoader v).segments = s.segments := rfl
@[simp] theorem State.setLoader_gates (v : Loader) : (s.setLoader v).gates = s.gates := rfl
@[simp] theorem State.setLoader_zones (v : Loader) : (s.setLoader v).zones = s.zones := rfl
@[simp] theorem State.setLoader_weather (v : Loader) : (s.setLoader v).weather = s.weather := rfl
@[simp] theorem State.setLoader_evaluator (v : Loader) : (s.setLoader v).evaluator = s.evaluator := rfl
@[simp] theorem State.setLoader_arbiter (v : Loader) : (s.setLoader v).arbiter = s.arbiter := rfl
@[simp] theorem State.setLoader_library (v : Loader) : (s.setLoader v).library = s.library := rfl
@[simp] theorem State.setLoader_placement (v : Loader) : (s.setLoader v).placement = s.placement := rfl
@[simp] theorem State.setLoader_field (v : Loader) : (s.setLoader v).field = s.field := rfl
@[simp] theorem State.setLoader_loader (v : Loader) :
    (s.setLoader v).loader = v := rfl
@[simp] theorem State.setLoader_deliveries (v : Loader) : (s.setLoader v).deliveries = s.deliveries := rfl
@[simp] theorem State.setLoader_pending (v : Loader) : (s.setLoader v).pending = s.pending := rfl

/-! ### deliver -/

@[simp] theorem State.deliver_clock (l : List Instr) : (s.deliver l).clock = s.clock := rfl
@[simp] theorem State.deliver_auth (l : List Instr) : (s.deliver l).auth = s.auth := rfl
@[simp] theorem State.deliver_ports (l : List Instr) : (s.deliver l).ports = s.ports := rfl
@[simp] theorem State.deliver_segments (l : List Instr) : (s.deliver l).segments = s.segments := rfl
@[simp] theorem State.deliver_gates (l : List Instr) : (s.deliver l).gates = s.gates := rfl
@[simp] theorem State.deliver_zones (l : List Instr) : (s.deliver l).zones = s.zones := rfl
@[simp] theorem State.deliver_weather (l : List Instr) : (s.deliver l).weather = s.weather := rfl
@[simp] theorem State.deliver_evaluator (l : List Instr) : (s.deliver l).evaluator = s.evaluator := rfl
@[simp] theorem State.deliver_arbiter (l : List Instr) : (s.deliver l).arbiter = s.arbiter := rfl
@[simp] theorem State.deliver_library (l : List Instr) : (s.deliver l).library = s.library := rfl
@[simp] theorem State.deliver_placement (l : List Instr) : (s.deliver l).placement = s.placement := rfl
@[simp] theorem State.deliver_field (l : List Instr) : (s.deliver l).field = s.field := rfl
@[simp] theorem State.deliver_loader (l : List Instr) : (s.deliver l).loader = s.loader := rfl
@[simp] theorem State.deliver_deliveries (l : List Instr) :
    (s.deliver l).deliveries = s.deliveries ++ l := rfl
@[simp] theorem State.deliver_pending (l : List Instr) : (s.deliver l).pending = s.pending := rfl

/-! ### taking -/

@[simp] theorem State.taking_clock (c : Instr) : (s.taking c).clock = s.clock := rfl
@[simp] theorem State.taking_auth (c : Instr) : (s.taking c).auth = s.auth := rfl
@[simp] theorem State.taking_ports (c : Instr) : (s.taking c).ports = s.ports := rfl
@[simp] theorem State.taking_segments (c : Instr) : (s.taking c).segments = s.segments := rfl
@[simp] theorem State.taking_gates (c : Instr) : (s.taking c).gates = s.gates := rfl
@[simp] theorem State.taking_zones (c : Instr) : (s.taking c).zones = s.zones := rfl
@[simp] theorem State.taking_weather (c : Instr) : (s.taking c).weather = s.weather := rfl
@[simp] theorem State.taking_evaluator (c : Instr) : (s.taking c).evaluator = s.evaluator := rfl
@[simp] theorem State.taking_arbiter (c : Instr) : (s.taking c).arbiter = s.arbiter := rfl
@[simp] theorem State.taking_library (c : Instr) : (s.taking c).library = s.library := rfl
@[simp] theorem State.taking_placement (c : Instr) : (s.taking c).placement = s.placement := rfl
@[simp] theorem State.taking_field (c : Instr) : (s.taking c).field = s.field := rfl
@[simp] theorem State.taking_loader (c : Instr) : (s.taking c).loader = s.loader := rfl
@[simp] theorem State.taking_deliveries (c : Instr) :
    (s.taking c).deliveries = s.deliveries.erase c := rfl
@[simp] theorem State.taking_pending (c : Instr) : (s.taking c).pending = s.pending := rfl

/-! ### owe -/

@[simp] theorem State.owe_clock (p : Nat) (r : Reply) : (s.owe p r).clock = s.clock := rfl
@[simp] theorem State.owe_auth (p : Nat) (r : Reply) : (s.owe p r).auth = s.auth := rfl
@[simp] theorem State.owe_ports (p : Nat) (r : Reply) :
    (s.owe p r).ports = s.ports.set p { s.port p with owed := (s.port p).owed ++ [r] } := rfl
@[simp] theorem State.owe_segments (p : Nat) (r : Reply) : (s.owe p r).segments = s.segments := rfl
@[simp] theorem State.owe_gates (p : Nat) (r : Reply) : (s.owe p r).gates = s.gates := rfl
@[simp] theorem State.owe_zones (p : Nat) (r : Reply) : (s.owe p r).zones = s.zones := rfl
@[simp] theorem State.owe_weather (p : Nat) (r : Reply) : (s.owe p r).weather = s.weather := rfl
@[simp] theorem State.owe_evaluator (p : Nat) (r : Reply) : (s.owe p r).evaluator = s.evaluator := rfl
@[simp] theorem State.owe_arbiter (p : Nat) (r : Reply) : (s.owe p r).arbiter = s.arbiter := rfl
@[simp] theorem State.owe_library (p : Nat) (r : Reply) : (s.owe p r).library = s.library := rfl
@[simp] theorem State.owe_placement (p : Nat) (r : Reply) : (s.owe p r).placement = s.placement := rfl
@[simp] theorem State.owe_field (p : Nat) (r : Reply) : (s.owe p r).field = s.field := rfl
@[simp] theorem State.owe_loader (p : Nat) (r : Reply) : (s.owe p r).loader = s.loader := rfl
@[simp] theorem State.owe_deliveries (p : Nat) (r : Reply) : (s.owe p r).deliveries = s.deliveries := rfl
@[simp] theorem State.owe_pending (p : Nat) (r : Reply) : (s.owe p r).pending = s.pending := rfl

/-! ### notifyBut -/

@[simp] theorem State.notifyBut_clock (x : Option Nat) (i : Nat) (b : NoticeBody) : (s.notifyBut x i b).clock = s.clock := rfl
@[simp] theorem State.notifyBut_auth (x : Option Nat) (i : Nat) (b : NoticeBody) : (s.notifyBut x i b).auth = s.auth := rfl
@[simp] theorem State.notifyBut_ports (x : Option Nat) (i : Nat) (b : NoticeBody) :
    (s.notifyBut x i b).ports = s.ports.mapIdx fun p q =>
      if q.subscription.getLsbD b.bit && some p != x then
        q.pushNotice { index := i, stamp := s.clock.seconds, overflow := false, body := b }
      else q := rfl
@[simp] theorem State.notifyBut_segments (x : Option Nat) (i : Nat) (b : NoticeBody) : (s.notifyBut x i b).segments = s.segments := rfl
@[simp] theorem State.notifyBut_gates (x : Option Nat) (i : Nat) (b : NoticeBody) : (s.notifyBut x i b).gates = s.gates := rfl
@[simp] theorem State.notifyBut_zones (x : Option Nat) (i : Nat) (b : NoticeBody) : (s.notifyBut x i b).zones = s.zones := rfl
@[simp] theorem State.notifyBut_weather (x : Option Nat) (i : Nat) (b : NoticeBody) : (s.notifyBut x i b).weather = s.weather := rfl
@[simp] theorem State.notifyBut_evaluator (x : Option Nat) (i : Nat) (b : NoticeBody) : (s.notifyBut x i b).evaluator = s.evaluator := rfl
@[simp] theorem State.notifyBut_arbiter (x : Option Nat) (i : Nat) (b : NoticeBody) : (s.notifyBut x i b).arbiter = s.arbiter := rfl
@[simp] theorem State.notifyBut_library (x : Option Nat) (i : Nat) (b : NoticeBody) : (s.notifyBut x i b).library = s.library := rfl
@[simp] theorem State.notifyBut_placement (x : Option Nat) (i : Nat) (b : NoticeBody) : (s.notifyBut x i b).placement = s.placement := rfl
@[simp] theorem State.notifyBut_field (x : Option Nat) (i : Nat) (b : NoticeBody) : (s.notifyBut x i b).field = s.field := rfl
@[simp] theorem State.notifyBut_loader (x : Option Nat) (i : Nat) (b : NoticeBody) : (s.notifyBut x i b).loader = s.loader := rfl
@[simp] theorem State.notifyBut_deliveries (x : Option Nat) (i : Nat) (b : NoticeBody) : (s.notifyBut x i b).deliveries = s.deliveries := rfl
@[simp] theorem State.notifyBut_pending (x : Option Nat) (i : Nat) (b : NoticeBody) : (s.notifyBut x i b).pending = s.pending := rfl

/-! ### notify -/

@[simp] theorem State.notify_clock (i : Nat) (b : NoticeBody) : (s.notify i b).clock = s.clock := rfl
@[simp] theorem State.notify_auth (i : Nat) (b : NoticeBody) : (s.notify i b).auth = s.auth := rfl
@[simp] theorem State.notify_ports (i : Nat) (b : NoticeBody) : (s.notify i b).ports = (s.notifyBut none i b).ports := rfl
@[simp] theorem State.notify_segments (i : Nat) (b : NoticeBody) : (s.notify i b).segments = s.segments := rfl
@[simp] theorem State.notify_gates (i : Nat) (b : NoticeBody) : (s.notify i b).gates = s.gates := rfl
@[simp] theorem State.notify_zones (i : Nat) (b : NoticeBody) : (s.notify i b).zones = s.zones := rfl
@[simp] theorem State.notify_weather (i : Nat) (b : NoticeBody) : (s.notify i b).weather = s.weather := rfl
@[simp] theorem State.notify_evaluator (i : Nat) (b : NoticeBody) : (s.notify i b).evaluator = s.evaluator := rfl
@[simp] theorem State.notify_arbiter (i : Nat) (b : NoticeBody) : (s.notify i b).arbiter = s.arbiter := rfl
@[simp] theorem State.notify_library (i : Nat) (b : NoticeBody) : (s.notify i b).library = s.library := rfl
@[simp] theorem State.notify_placement (i : Nat) (b : NoticeBody) : (s.notify i b).placement = s.placement := rfl
@[simp] theorem State.notify_field (i : Nat) (b : NoticeBody) : (s.notify i b).field = s.field := rfl
@[simp] theorem State.notify_loader (i : Nat) (b : NoticeBody) : (s.notify i b).loader = s.loader := rfl
@[simp] theorem State.notify_deliveries (i : Nat) (b : NoticeBody) : (s.notify i b).deliveries = s.deliveries := rfl
@[simp] theorem State.notify_pending (i : Nat) (b : NoticeBody) : (s.notify i b).pending = s.pending := rfl

/-! ### recarry -/

@[simp] theorem State.recarry_clock (p : Carriage → Bool) : (s.recarry p).clock = s.clock := by
  unfold State.recarry; split <;> (try split) <;> rfl
@[simp] theorem State.recarry_auth (p : Carriage → Bool) : (s.recarry p).auth = s.auth := by
  unfold State.recarry; split <;> (try split) <;> rfl
@[simp] theorem State.recarry_ports (p : Carriage → Bool) : (s.recarry p).ports = s.ports := by
  unfold State.recarry; split <;> (try split) <;> rfl
@[simp] theorem State.recarry_segments (p : Carriage → Bool) : (s.recarry p).segments = s.segments := by
  unfold State.recarry; split <;> (try split) <;> rfl
@[simp] theorem State.recarry_gates (p : Carriage → Bool) : (s.recarry p).gates = s.gates := by
  unfold State.recarry; split <;> (try split) <;> rfl
@[simp] theorem State.recarry_zones (p : Carriage → Bool) : (s.recarry p).zones = s.zones := by
  unfold State.recarry; split <;> (try split) <;> rfl
@[simp] theorem State.recarry_weather (p : Carriage → Bool) : (s.recarry p).weather = s.weather := by
  unfold State.recarry; split <;> (try split) <;> rfl
@[simp] theorem State.recarry_evaluator (p : Carriage → Bool) : (s.recarry p).evaluator = s.evaluator := by
  unfold State.recarry; split <;> (try split) <;> rfl
@[simp] theorem State.recarry_arbiter (p : Carriage → Bool) : (s.recarry p).arbiter = s.arbiter := by
  unfold State.recarry; split <;> (try split) <;> rfl
@[simp] theorem State.recarry_library (p : Carriage → Bool) : (s.recarry p).library = s.library := by
  unfold State.recarry; split <;> (try split) <;> rfl
@[simp] theorem State.recarry_placement (p : Carriage → Bool) : (s.recarry p).placement = s.placement := by
  unfold State.recarry; split <;> (try split) <;> rfl
@[simp] theorem State.recarry_loader (p : Carriage → Bool) : (s.recarry p).loader = s.loader := by
  unfold State.recarry; split <;> (try split) <;> rfl
@[simp] theorem State.recarry_deliveries (p : Carriage → Bool) : (s.recarry p).deliveries = s.deliveries := by
  unfold State.recarry; split <;> (try split) <;> rfl
@[simp] theorem State.recarry_pending (p : Carriage → Bool) : (s.recarry p).pending = s.pending := by
  unfold State.recarry; split <;> (try split) <;> rfl

/-! ### gathered -/

@[simp] theorem State.gathered_clock (t : State) : (s.gathered t).clock = t.clock := rfl
@[simp] theorem State.gathered_auth (t : State) : (s.gathered t).auth = t.auth := rfl
@[simp] theorem State.gathered_ports (t : State) : (s.gathered t).ports = t.ports := rfl
@[simp] theorem State.gathered_segments (t : State) : (s.gathered t).segments = t.segments := rfl
@[simp] theorem State.gathered_gates (t : State) : (s.gathered t).gates = t.gates := rfl
@[simp] theorem State.gathered_zones (t : State) : (s.gathered t).zones = t.zones := rfl
@[simp] theorem State.gathered_weather (t : State) : (s.gathered t).weather = t.weather := rfl
@[simp] theorem State.gathered_evaluator (t : State) : (s.gathered t).evaluator = t.evaluator := rfl
@[simp] theorem State.gathered_arbiter (t : State) : (s.gathered t).arbiter = t.arbiter := rfl
@[simp] theorem State.gathered_library (t : State) : (s.gathered t).library = t.library := rfl
@[simp] theorem State.gathered_placement (t : State) : (s.gathered t).placement = t.placement := rfl
@[simp] theorem State.gathered_field (t : State) : (s.gathered t).field = t.field := rfl
@[simp] theorem State.gathered_loader (t : State) : (s.gathered t).loader = t.loader := rfl
@[simp] theorem State.gathered_deliveries (t : State) :
    (s.gathered t).deliveries =
      s.deliveries ++ inEventOrder (t.deliveries.drop s.deliveries.length) := rfl
@[simp] theorem State.gathered_pending (t : State) : (s.gathered t).pending = t.pending := rfl

/-! ### Reading a record after writing it -/

/-- A table entry after a write at an index in range. -/
theorem getD_set_self {α : Type} (l : List α) (i : Nat) (v d : α) (h : i < l.length) :
    (l.set i v).getD i d = v := by
  simp [List.getD, h]

/-- A table entry after a write at another index. -/
theorem getD_set_ne {α : Type} (l : List α) (i j : Nat) (v d : α) (h : j ≠ i) :
    (l.set i v).getD j d = l.getD j d := by
  simp [List.getD, List.getElem?_set_ne (Ne.symm h)]

theorem State.setSeg_seg_self (i : Nat) (v : Segment) (h : i < s.segments.length) :
    (s.setSeg i v).seg i = v := getD_set_self _ _ _ _ h
theorem State.setSeg_seg_ne (i k : Nat) (v : Segment) (ne : k ≠ i) :
    (s.setSeg i v).seg k = s.seg k := getD_set_ne _ _ _ _ _ ne
theorem State.setHold_hold_self (i : Nat) (v : Option Hold) (h : i < s.auth.holds.length) :
    (s.setHold i v).hold i = v := getD_set_self _ _ _ _ h
theorem State.setHold_hold_ne (i k : Nat) (v : Option Hold) (ne : k ≠ i) :
    (s.setHold i v).hold k = s.hold k := getD_set_ne _ _ _ _ _ ne
theorem State.setLink_portLink_self (p : Nat) (v : PortLink) (h : p < s.auth.links.length) :
    (s.setLink p v).portLink p = v := getD_set_self _ _ _ _ h
theorem State.setLink_portLink_ne (p k : Nat) (v : PortLink) (ne : k ≠ p) :
    (s.setLink p v).portLink k = s.portLink k := getD_set_ne _ _ _ _ _ ne
theorem State.setPort_port_self (p : Nat) (v : Port) (h : p < s.ports.length) :
    (s.setPort p v).port p = v := getD_set_self _ _ _ _ h
theorem State.setPort_port_ne (p k : Nat) (v : Port) (ne : k ≠ p) :
    (s.setPort p v).port k = s.port k := getD_set_ne _ _ _ _ _ ne
theorem State.setGate_gate_self (g : Nat) (v : Gate) (h : g < s.gates.recs.length) :
    (s.setGate g v).gate g = v := getD_set_self _ _ _ _ h
theorem State.setGate_gate_ne (g k : Nat) (v : Gate) (ne : k ≠ g) :
    (s.setGate g v).gate k = s.gate k := getD_set_ne _ _ _ _ _ ne
theorem State.setZone_zone_self (z : Nat) (v : Zone) (h : z < s.zones.zones.length) :
    (s.setZone z v).zone z = v := getD_set_self _ _ _ _ h
theorem State.setZone_zone_ne (z k : Nat) (v : Zone) (ne : k ≠ z) :
    (s.setZone z v).zone k = s.zone k := getD_set_ne _ _ _ _ _ ne
theorem State.setLine_line_self (l : Nat) (v : Line) (h : l < s.zones.lines.length) :
    (s.setLine l v).line l = v := getD_set_self _ _ _ _ h
theorem State.setLine_line_ne (l k : Nat) (v : Line) (ne : k ≠ l) :
    (s.setLine l v).line k = s.line k := getD_set_ne _ _ _ _ _ ne
theorem State.setShown_shownZone_self (i : Nat) (v : Option Deciding) (h : i < s.zones.shown.length) :
    (s.setShown i v).shownZone i = v := getD_set_self _ _ _ _ h
theorem State.setShown_shownZone_ne (i k : Nat) (v : Option Deciding) (ne : k ≠ i) :
    (s.setShown i v).shownZone k = s.shownZone k := getD_set_ne _ _ _ _ _ ne
theorem State.setHead_head_self (h : Nat) (v : Head) (lt : h < s.weather.heads.length) :
    (s.setHead h v).head h = v := getD_set_self _ _ _ _ lt
theorem State.setHead_head_ne (h k : Nat) (v : Head) (ne : k ≠ h) :
    (s.setHead h v).head k = s.head k := getD_set_ne _ _ _ _ _ ne
theorem State.setChannel_channel_self (c : Nat) (v : Channel) (h : c < s.weather.channels.length) :
    (s.setChannel c v).channel c = v := getD_set_self _ _ _ _ h
theorem State.setChannel_channel_ne (c k : Nat) (v : Channel) (ne : k ≠ c) :
    (s.setChannel c v).channel k = s.channel k := getD_set_ne _ _ _ _ _ ne
theorem State.setEval_eval_self (i : Nat) (v : Evaluation) (h : i < s.evaluator.recs.length) :
    (s.setEval i v).eval i = v := getD_set_self _ _ _ _ h
theorem State.setEval_eval_ne (i k : Nat) (v : Evaluation) (ne : k ≠ i) :
    (s.setEval i v).eval k = s.eval k := getD_set_ne _ _ _ _ _ ne
theorem State.setStack_stack_self (n : Nat) (v : List Demand) (h : n < s.arbiter.demands.length) :
    (s.setStack n v).stack n = v := getD_set_self _ _ _ _ h
theorem State.setStack_stack_ne (n k : Nat) (v : List Demand) (ne : k ≠ n) :
    (s.setStack n v).stack k = s.stack k := getD_set_ne _ _ _ _ _ ne
theorem State.setOut_out_self (n : Nat) (v : SignOut) (h : n < s.arbiter.outputs.length) :
    (s.setOut n v).out n = v := getD_set_self _ _ _ _ h
theorem State.setOut_out_ne (n k : Nat) (v : SignOut) (ne : k ≠ n) :
    (s.setOut n v).out k = s.out k := getD_set_ne _ _ _ _ _ ne
theorem State.setCursor_cursor_self (p : Nat) (v : Cursor) (h : p < s.library.cursors.length) :
    (s.setCursor p v).cursor p = v := getD_set_self _ _ _ _ h
theorem State.setCursor_cursor_ne (p k : Nat) (v : Cursor) (ne : k ≠ p) :
    (s.setCursor p v).cursor k = s.cursor k := getD_set_ne _ _ _ _ _ ne
theorem State.setStation_station_self (x : Nat) (v : Station) (h : x < s.field.stations.length) :
    (s.setStation x v).station x = v := getD_set_self _ _ _ _ h
theorem State.setStation_station_ne (x k : Nat) (v : Station) (ne : k ≠ x) :
    (s.setStation x v).station k = s.station k := getD_set_ne _ _ _ _ _ ne

/-- A user slot after it is written. -/
theorem State.setSlot_userSlot_self (n : Nat) (v : UserSlot) (h : n - 96 < s.library.slots.length) :
    (s.setSlot n v).userSlot n = v := getD_set_self _ _ _ _ h

/-- A user slot after another one is written. -/
theorem State.setSlot_userSlot_ne (n k : Nat) (v : UserSlot) (hn : 96 ≤ n) (hk : 96 ≤ k) (ne : k ≠ n) :
    (s.setSlot n v).userSlot k = s.userSlot k := getD_set_ne _ _ _ _ _ (by omega)

end Sys2Proof.Machine
end

