-- ==== Sys2Proof/Laws/Commands.lean ====
section
/-! SUPPORT. The operation every agent command goes through, said once: what the taking of a command
does when its frame is not there, when a check fails, under the probe flag and when it is accepted;
what a notice and a reply leave unchanged at a port. -/

namespace Sys2Proof.Machine

open Sys2Proof

variable {α : Type}

/-! ## Outcomes -/

@[simp] theorem onObject_true (t : State) : onObject true t = .next t := rfl
@[simp] theorem onObject_false (t : State) : onObject false t = .fault .noSuchObject := rfl

/-- The one thing `onObject` can answer with a next state. -/
theorem onObject_next {ok : Bool} {t u : State} (h : onObject ok t = .next u) : ok = true ∧ t = u := by
  cases ok with
  | true => exact ⟨rfl, by simpa using h⟩
  | false => simp at h

/-! ## The taking of a command -/

theorem ready_frame {s : State} {p : Nat} {k : CmdKind} {body : List Byte} (h : Ready s p k body) :
    nextFrame s p = some body ∧ bodyKind body = k.byte := h.2

/-- Without its frame at the head of the queue a command does nothing. -/
theorem takeCommand_idle {c : Command α} {p : Nat} {s : State} (hp : portOk p = true)
    (h : ¬∃ body, Ready s p c.kind body) : takeCommand c p s = s := by
  unfold takeCommand
  split
  · rfl
  · next body hb =>
    split
    · next hk => exact absurd ⟨body, hp, hb, hk⟩ h
    · rfl

/-- With its frame at the head of the queue it is judged and answered. -/
theorem takeCommand_ready {c : Command α} {p : Nat} {s : State} {body : List Byte}
    (h : Ready s p c.kind body) :
    takeCommand c p s = answer c.kind (popFrame s p) p body (judge c (popFrame s p) p body) := by
  simp [takeCommand, h.2.1, h.2.2]

/-- A refusal leaves nothing but its reply. -/
theorem answer_refuse (k : CmdKind) (s : State) (p : Nat) (body : List Byte) (code : Result) :
    answer k (popFrame s p) p body (refuse (popFrame s p) code) = answered s p k code [] := by
  unfold answer refuse answered
  split <;> simp

/-- Under the probe flag nothing but the frame and the reply changes, whatever the verdict. -/
theorem answer_probe (k : CmdKind) (s : State) (p : Nat) (body : List Byte) (v : Verdict)
    (h : bodyProbe body = true) :
    answer k (popFrame s p) p body v =
      answered s p k v.code (if keepsData k v.code then v.data else []) := by
  simp [answer, answered, h]

/-- What popping a frame leaves: every check reads the same. -/
theorem sourceOf_popFrame (s : State) (p q : Nat) : (popFrame s p).sourceOf q = s.sourceOf q := rfl
theorem agentOf_popFrame (s : State) (p q : Nat) : agentOf (popFrame s p) q = agentOf s q := rfl
theorem guardOk_popFrame (s : State) (p : Nat) (b : List Byte) : guardOk (popFrame s p) b = guardOk s b := rfl

/-- An accepted command runs on the state without its frame, and its reply is owed. -/
theorem judge_admitted {c : Command α} {s : State} {p : Nat} {body : List Byte}
    (h : Admitted s p c.kind) :
    judge c s p body = match checkedArgs c s body with
      | none => refuse s .badarg
      | some a =>
        if !guardOk s body then { code := .stale, data := staleData s body, state := s }
        else if heldByOther s p (c.held s a) then refuse s .held
        else c.run s p a := by
  obtain ⟨hb, hl, ha⟩ := h
  unfold judge
  rw [hb, hl]
  rcases ha with ha | ha <;> simp [ha] <;> rfl

/-- A command whose operands do not depend on the agent ports. -/
def Command.PortFree (c : Command α) : Prop :=
  ∀ (s : State) (p : Nat), c.parse (popFrame s p) = c.parse s ∧ c.reach (popFrame s p) = c.reach s ∧
    c.held (popFrame s p) = c.held s

theorem checkedArgs_popFrame {c : Command α} (hc : c.PortFree) (s : State) (p : Nat)
    (body : List Byte) : checkedArgs c (popFrame s p) body = checkedArgs c s body := by
  obtain ⟨h1, h2, -⟩ := hc s p
  simp [checkedArgs, h1, h2]

/-- An accepted command runs on the state without its frame, and its reply becomes owed. -/
theorem takeCommand_accepted {c : Command α} {s : State} {p : Nat} {a : α} (hc : c.PortFree)
    (h : Accepted c s p a) :
    takeCommand c p s =
      (c.run (popFrame s p) p a).state.owe p
        { kind := replyKind c.kind.byte, code := (c.run (popFrame s p) p a).code,
          data := (c.run (popFrame s p) p a).data, executed := true } := by
  obtain ⟨body, hr, hpr, had, harg, hg, hh⟩ := h
  have had' : Admitted (popFrame s p) p c.kind := had
  have hh' : heldByOther (popFrame s p) p (c.held (popFrame s p) a) = false := by
    rw [(hc s p).2.2]; exact hh
  rw [takeCommand_ready hr, judge_admitted had', checkedArgs_popFrame hc, harg]
  simp [guardOk_popFrame, hg, hh', answer, hpr]

/-- What the taking of a command can do: nothing, a refusal or a probe's answer with nothing else
changed, or the command's own action with its reply owed. -/
theorem takeCommand_cases (c : Command α) (p : Nat) (s : State) :
    takeCommand c p s = s ∨
    (∃ code data, takeCommand c p s = answered s p c.kind code data) ∨
    ∃ a, takeCommand c p s =
      (c.run (popFrame s p) p a).state.owe p
        { kind := replyKind c.kind.byte, code := (c.run (popFrame s p) p a).code,
          data := (c.run (popFrame s p) p a).data, executed := true } := by
  unfold takeCommand
  split
  · exact .inl rfl
  · next body _ =>
    split
    · right
      by_cases hp : bodyProbe body = true
      · exact .inl ⟨_, _, answer_probe _ _ _ _ _ hp⟩
      · unfold judge
        split
        · exact .inl ⟨_, _, answer_refuse ..⟩
        · split
          · exact .inl ⟨_, _, answer_refuse ..⟩
          · split
            · exact .inl ⟨_, _, answer_refuse ..⟩
            · split
              · exact .inl ⟨_, _, answer_refuse ..⟩
              · split
                · exact .inl ⟨.stale, staleData (popFrame s p) body, by simp [answer, answered, hp]⟩
                · split
                  · exact .inl ⟨_, _, answer_refuse ..⟩
                  · exact .inr ⟨_, by simp only [answer, hp]; rfl⟩
    · exact .inl rfl

end Sys2Proof.Machine
end

