-- ==== Sys2Proof/Laws/Decide.lean ====
section
/-! SUPPORT. Procedures that decide the properties of `Machine/Invariants.lean` on a given state, so that
the kernel can check them at a concrete one: `of_decide_eq_true (p := ...)` with the procedure. -/

namespace Sys2Proof

open Sys2Proof.Machine

def claimSetDec (c : ClaimSet) : Decidable c.ok := by unfold ClaimSet.ok; infer_instance

def segmentDec (g : Segment) : Decidable g.ok := by
  unfold Segment.ok
  exact @instDecidableAnd _ _ (claimSetDec _) inferInstance

def segmentsDec (s : State) : Decidable (SegmentsOk s) := by
  unfold SegmentsOk; exact @Nat.decidableBallLT 12 _ fun i _ => segmentDec (s.seg i)

def tablesDec (s : State) : Decidable (TablesOk s) := by unfold TablesOk; infer_instance

def buffersDec (s : State) : Decidable (BuffersOk s) := by unfold BuffersOk; infer_instance

def linkDec (s : State) (p : Nat) : Decidable (LinkOk s p) := by unfold LinkOk; infer_instance

def authorityDec (s : State) : Decidable (AuthorityOk s) := by
  unfold AuthorityOk
  exact @instDecidableAnd _ _ (@Nat.decidableBallLT 4 _ fun p _ => linkDec s p) inferInstance

def portDec (q : Port) : Decidable q.ok := by unfold Port.ok; infer_instance

def portsDec (s : State) : Decidable (PortsOk s) := by
  unfold PortsOk
  exact @Nat.decidableBallLT 4 _ fun p _ => @instDecidableAnd _ _ (portDec (s.port p)) inferInstance

def gateDec (n : Nat) (g : Gate) : Decidable (g.ok n) := by unfold Gate.ok; infer_instance

def gatesDec (s : State) : Decidable (GatesOk s) := by
  unfold GatesOk; exact @Nat.decidableBallLT 8 _ fun g _ => gateDec s.image.retryLimit (s.gate g)

def zoneDec (s : State) (z : Nat) : Decidable (ZoneOk s z) := by unfold ZoneOk; infer_instance

def lineDec (n : Nat) (l : Line) : Decidable (l.ok n) := by unfold Line.ok; infer_instance

def zonesDec (s : State) : Decidable (ZonesOk s) := by
  unfold ZonesOk
  exact @instDecidableAnd _ _ (@Nat.decidableBallLT 10 _ fun z _ => zoneDec s z)
    (@instDecidableAnd _ _ (@Nat.decidableBallLT 24 _ fun l _ => lineDec s.image.debounce (s.line l))
      inferInstance)

def channelDec (c : Channel) : Decidable c.ok := by unfold Channel.ok; infer_instance

def weatherDec (s : State) : Decidable (WeatherOk s) := by
  unfold WeatherOk
  exact @instDecidableAnd _ _ (@Nat.decidableBallLT 24 _ fun c _ => channelDec (s.channel c))
    inferInstance

def filterDec (k n : Nat) (f : Filter) : Decidable (f.ok k n) := by unfold Filter.ok; infer_instance

def evaluatorDec (s : State) : Decidable (EvaluatorOk s) := by
  unfold EvaluatorOk
  exact @Nat.decidableBallLT 12 _ fun i _ =>
    @instDecidableAnd _ _ inferInstance (@instDecidableAnd _ _ (filterDec 4 s.image.confirmation _)
      (@instDecidableAnd _ _ (filterDec 2 s.image.confirmation _) inferInstance))

def demandDec (d : Demand) : Decidable d.ok := by unfold Demand.ok; infer_instance

def stackDec (st : List Demand) : Decidable (StackOk st) := by
  unfold StackOk
  have h : Decidable (∀ d ∈ st, d.ok) := @List.decidableBAll _ _ demandDec st
  infer_instance

def stacksDec (s : State) : Decidable (StacksOk s) := by
  unfold StacksOk; exact @Nat.decidableBallLT 24 _ fun n _ => stackDec (s.stack n)

def countsDec (s : State) : Decidable (CountsOk s) := by unfold CountsOk; infer_instance

def userSlotDec (u : UserSlot) : Decidable u.ok := by unfold UserSlot.ok; infer_instance

def cursorDec (c : Cursor) : Decidable c.ok := by unfold Cursor.ok; infer_instance

def libraryDec (s : State) : Decidable (LibraryOk s) := by
  unfold LibraryOk
  have h1 : ∀ n, Decidable (96 ≤ n → (s.userSlot n).ok) := fun n =>
    @instDecidableForall _ _ inferInstance (userSlotDec _)
  exact @instDecidableAnd _ _ (@Nat.decidableBallLT 128 _ fun n _ => h1 n)
    (@Nat.decidableBallLT 4 _ fun p _ => cursorDec (s.cursor p))

def placementDec (s : State) : Decidable (PlacementOk s) := by unfold PlacementOk; infer_instance

def stationDec (r : Station) : Decidable r.ok := by unfold Station.ok; infer_instance

def stationsDec (s : State) : Decidable (StationsOk s) := by
  unfold StationsOk
  exact @instDecidableAnd _ _
    (@Nat.decidableBallLT 32 _ fun x _ => @instDecidableAnd _ _ (stationDec (s.station x)) inferInstance)
    inferInstance

def workIsShutDec (s : State) : Decidable (WorkIsShut s) := by unfold WorkIsShut; infer_instance

end Sys2Proof
end

