-- ==== Sys2Proof/Laws/Memory.lean ====
section
/-! SUPPORT. The two addressed buffers (R184, R187): what a read finds after a write, and that every
operation over a buffer keeps the canonical form. -/

namespace Sys2Proof.Machine

open Sys2Proof

/-! ## Reads -/

@[simp] theorem Memory.read_nil (a : Nat) : Memory.read [] a = 0 := rfl

/-- Below every listed offset a buffer reads 0x00. -/
theorem Memory.read_below {m : Memory} {lo a : Nat} (h : m.above lo = true) (ha : a < lo) :
    m.read a = 0 := by
  induction m generalizing lo with
  | nil => rfl
  | cons c r ih =>
    obtain ⟨k, v⟩ := c
    simp only [Memory.above, Bool.and_eq_true, decide_eq_true_eq] at h
    have hk : a ≠ k := by omega
    simpa [Memory.read, hk] using ih h.2 (by omega)

/-- A write leaves every other offset alone. -/
theorem Memory.read_write_ne {m : Memory} {a b : Nat} (v : Byte) (h : b ≠ a) :
    (m.write a v).read b = m.read b := by
  induction m with
  | nil => rw [Memory.write]; split <;> simp [Memory.read, h]
  | cons c r ih =>
    obtain ⟨k, w⟩ := c
    simp only [Memory.write]
    split
    · split <;> simp [Memory.read, h]
    · split
      · next hk => subst hk; split <;> simp [Memory.read, h]
      · simp [Memory.read, ih]

/-- A write is read back. -/
theorem Memory.read_write_eq {m : Memory} {lo : Nat} (a : Nat) (v : Byte) (h : m.above lo = true) :
    (m.write a v).read a = v := by
  induction m generalizing lo with
  | nil => rw [Memory.write]; split <;> simp_all [Memory.read]
  | cons c r ih =>
    obtain ⟨k, w⟩ := c
    simp only [Memory.above, Bool.and_eq_true, decide_eq_true_eq] at h
    simp only [Memory.write]
    split
    · next hk =>
      split
      · next hv =>
        subst hv
        have : a ≠ k := by omega
        simpa [Memory.read, this] using Memory.read_below h.2 (by omega)
      · simp [Memory.read]
    · split
      · next hk =>
        subst hk
        split
        · next hv => subst hv; exact Memory.read_below h.2 (by omega)
        · simp [Memory.read]
      · next hk => simpa [Memory.read, hk] using ih h.2

/-! ## The canonical form is kept -/

theorem Memory.above_mono {m : Memory} {lo lo' : Nat} (h : m.above lo = true) (hl : lo' ≤ lo) :
    m.above lo' = true := by
  cases m with
  | nil => rfl
  | cons c r =>
    obtain ⟨k, v⟩ := c
    simp only [Memory.above, Bool.and_eq_true, decide_eq_true_eq] at h ⊢
    exact ⟨⟨by omega, h.1.2⟩, h.2⟩

theorem Memory.above_write {m : Memory} {lo a : Nat} (v : Byte) (h : m.above lo = true)
    (ha : lo ≤ a) : (m.write a v).above lo = true := by
  induction m generalizing lo with
  | nil => rw [Memory.write]; split <;> simp_all [Memory.above]
  | cons c r ih =>
    obtain ⟨k, w⟩ := c
    have h' := h
    simp only [Memory.above, Bool.and_eq_true, decide_eq_true_eq] at h
    simp only [Memory.write]
    split
    · next hk =>
      split
      · exact h'
      · next hv =>
        simp only [Memory.above, Bool.and_eq_true, decide_eq_true_eq]
        exact ⟨⟨ha, by simpa using hv⟩, ⟨by omega, h.1.2⟩, h.2⟩
    · split
      · next hk =>
        subst hk
        split
        · exact Memory.above_mono h.2 (by omega)
        · next hv =>
          simp only [Memory.above, Bool.and_eq_true, decide_eq_true_eq]
          exact ⟨⟨ha, by simpa using hv⟩, h.2⟩
      · simp only [Memory.above, Bool.and_eq_true, decide_eq_true_eq]
        exact ⟨h.1, ih h.2 (by omega)⟩

theorem Memory.below_write {m : Memory} {n a : Nat} (v : Byte)
    (h : m.all (fun c => c.1 < n) = true) (ha : a < n) :
    (m.write a v).all (fun c => c.1 < n) = true := by
  induction m with
  | nil => rw [Memory.write]; split <;> simp [ha]
  | cons c r ih =>
    obtain ⟨k, w⟩ := c
    simp only [List.all_cons, Bool.and_eq_true, decide_eq_true_eq] at h
    simp only [Memory.write]
    split
    · split <;> simp [h.1, h.2, ha]
    · split
      · split <;> simp [ha] <;> simpa using h.2
      · simp only [List.all_cons, Bool.and_eq_true, decide_eq_true_eq]
        exact ⟨h.1, ih h.2⟩

/-- A write within the buffer keeps the canonical form. -/
theorem Memory.wf_write {m : Memory} {a : Nat} (v : Byte) (h : m.wf = true) (ha : a < 8192) :
    (m.write a v).wf = true := by
  simp only [Memory.wf, Bool.and_eq_true] at h ⊢
  exact ⟨Memory.above_write v h.1 (by omega), Memory.below_write v h.2 ha⟩

/-- A run of writes within the buffer keeps the canonical form. -/
theorem Memory.wf_writeRun {m : Memory} {a : Nat} (l : List Byte) (h : m.wf = true)
    (ha : a + l.length ≤ 8192) : (m.writeRun a l).wf = true := by
  induction l generalizing m a with
  | nil => exact h
  | cons b bs ih =>
    simp only [List.length_cons] at ha
    exact ih (Memory.wf_write b h (by omega)) (by omega)

theorem Memory.above_ofRange (f : Nat → Byte) (n lo : Nat) :
    Memory.above lo ((List.range' lo n).filterMap fun k =>
      if f k = 0 then none else some (k, f k)) = true := by
  induction n generalizing lo with
  | zero => rfl
  | succ n ih =>
    rw [List.range'_succ, List.filterMap_cons]
    by_cases h : f lo = 0
    · simpa [h] using Memory.above_mono (ih (lo + 1)) (by omega)
    · simp only [h, if_false, Memory.above, Bool.and_eq_true, decide_eq_true_eq]
      exact ⟨⟨Nat.le_refl _, by simpa using h⟩, ih (lo + 1)⟩

/-- A buffer given byte by byte is in canonical form. -/
theorem Memory.wf_ofFn (f : Nat → Byte) : (Memory.ofFn f 8192).wf = true := by
  simp only [Memory.wf, Memory.ofFn, Bool.and_eq_true]
  refine ⟨by rw [List.range_eq_range']; exact Memory.above_ofRange f 8192 0, ?_⟩
  simp only [List.all_eq_true, List.mem_filterMap, List.mem_range, decide_eq_true_eq]
  rintro ⟨k, v⟩ ⟨i, hi, hv⟩
  split at hv
  · cases hv
  · cases hv; exact hi

/-- What START_UP finds in memory is in canonical form (R188). -/
theorem Memory.wf_memoryNow {l : Loader} (h : l.memory.wf = true) : (memoryNow l).wf = true := by
  unfold memoryNow
  split
  · exact Memory.wf_ofFn _
  · exact h

/-- Both buffers of the part right after start-up are in canonical form. -/
theorem Memory.wf_reset : State.reset.loader.memory.wf = true ∧ State.reset.loader.staging.wf = true :=
  ⟨rfl, rfl⟩

/-! ## A run of bytes -/

/-- After a run of writes an offset outside the run reads as before. -/
theorem Memory.read_writeRun_ne {m : Memory} {a b : Nat} (l : List Byte)
    (h : b < a ∨ a + l.length ≤ b) : (m.writeRun a l).read b = m.read b := by
  induction l generalizing m a with
  | nil => rfl
  | cons v vs ih =>
    simp only [List.length_cons] at h
    rw [Memory.writeRun, ih (by omega), Memory.read_write_ne v (by omega)]

end Sys2Proof.Machine
end

