-- ==== Sys2Proof/Laws/Operations.lean ====
section
/-! SUPPORT. What the shared operations of the blocks can change: one frame for each of them, to be cited
in place of the operation. -/

namespace Sys2Proof

open Sys2Proof.Machine

/-! ## Frames compose -/

theorem changesOnly_refl (l : List Block) (s : State) : ChangesOnly l s s := by
  intro b _; cases b <;> rfl

theorem ChangesOnly.mono {l l' : List Block} {s t : State} (h : ChangesOnly l s t)
    (hl : ∀ b ∈ l, b ∈ l') : ChangesOnly l' s t := fun b hb => h b fun hm => hb (hl b hm)

theorem ChangesOnly.trans {l : List Block} {s t u : State} (h : ChangesOnly l s t)
    (k : ChangesOnly l t u) : ChangesOnly l s u := by
  intro b hb
  have h1 := h b hb
  have h2 := k b hb
  cases b <;> exact h2.trans h1

/-- A fold of an operation that changes only some blocks changes only those. -/
theorem changesOnly_foldl {α : Type} {l : List Block} (f : State → α → State)
    (h : ∀ s a, ChangesOnly l s (f s a)) (xs : List α) (s : State) :
    ChangesOnly l s (xs.foldl f s) := by
  induction xs generalizing s with
  | nil => exact changesOnly_refl l s
  | cons x xs ih => exact (h s x).trans (ih (f s x))

/-! ## Notices, replies and events -/

/-- A notice and everything about it stands at the ports. -/
theorem changesOnly_notifyBut (s : State) (e : Option Nat) (i : Nat) (b : NoticeBody) :
    ChangesOnly [.ports] s (s.notifyBut e i b) := by intro b hb; cases b <;> first | rfl | simp at hb

theorem changesOnly_notify (s : State) (i : Nat) (b : NoticeBody) :
    ChangesOnly [.ports] s (s.notify i b) := changesOnly_notifyBut s none i b

/-- A notice changes at a port its notices and its owed overflow, and nothing else. -/
theorem notify_port {s : State} {q : Nat} (hq : q < s.ports.length) (i : Nat) (b : NoticeBody) :
    (s.notify i b).port q =
      if (s.port q).subscription.getLsbD b.bit then
        (s.port q).pushNotice { index := i, stamp := s.clock.seconds, overflow := false, body := b }
      else s.port q := by
  simp [State.notify, State.notifyBut, State.port, List.getD, hq]

theorem changesOnly_owe (s : State) (p : Nat) (r : Reply) : ChangesOnly [.ports] s (s.owe p r) := by
  intro b hb; cases b <;> first | rfl | simp at hb

theorem changesOnly_popFrame (s : State) (p : Nat) : ChangesOnly [.ports] s (popFrame s p) := by
  intro b hb; cases b <;> first | rfl | simp at hb

theorem changesOnly_deliver (s : State) (l : List Instr) :
    ChangesOnly [.deliveries] s (s.deliver l) := by intro b hb; cases b <;> first | rfl | simp at hb

theorem changesOnly_taking (s : State) (c : Instr) : ChangesOnly [.deliveries] s (s.taking c) := by
  intro b hb; cases b <;> first | rfl | simp at hb

/-- What an exchange carries may be taken from it; the field bus is otherwise as it was. -/
theorem recarry_field (s : State) (p : Carriage → Bool) :
    (s.recarry p).field = s.field ∨
    ∃ e, s.field.exchange = some e ∧ p e.carries = true ∧
      (s.recarry p).field = { s.field with exchange := some { e with carries := .nothing } } := by
  unfold State.recarry
  dsimp only
  split
  · next e he => split
                 · next hp => exact .inr ⟨e, he, hp, rfl⟩
                 · exact .inl rfl
  · exact .inl rfl

theorem changesOnly_recarry (s : State) (p : Carriage → Bool) :
    ChangesOnly [.field] s (s.recarry p) := by
  unfold State.recarry
  dsimp only
  split
  · split
    · intro b hb; cases b <;> first | rfl | simp at hb
    · exact changesOnly_refl _ s
  · exact changesOnly_refl _ s

/-! ## One event at a segment or a gate -/

theorem changesOnly_segEvent (s : State) (i : Nat) (m : Move) (cause : SegCause) (lock : Bool) :
    ChangesOnly [.ports, .segments, .deliveries] s (segEvent s i m cause lock) := by
  unfold segEvent segNotice
  dsimp only
  intro b hb
  split <;> cases b <;> first | rfl | simp at hb

/-- An event at a segment leaves every other segment, and leaves it the moved record, its revision
raised where R36 says so. -/
theorem segEvent_seg (s : State) (i k : Nat) (m : Move) (cause : SegCause) (lock : Bool)
    (hi : i < s.segments.length) :
    (segEvent s i m cause lock).seg k = if k = i then revised (s.seg i) m.seg else s.seg k := by
  have hs : (segEvent s i m cause lock).seg k = (s.setSeg i (revised (s.seg i) m.seg)).seg k := by
    unfold segEvent segNotice; dsimp only; split <;> rfl
  rw [hs]
  split
  · next h => subst h; exact State.setSeg_seg_self s k _ hi
  · next h => exact State.setSeg_seg_ne s i k _ h

theorem changesOnly_gateEvent (s : State) (g : Nat) (m : GateMove) (cause : GateCause) :
    ChangesOnly [.ports, .gates, .field, .deliveries] s (gateEvent s g m cause) := by
  have h1 : ChangesOnly [.ports, .gates, .field, .deliveries] s (s.setGate g m.gate) := by
    intro b hb; cases b <;> first | rfl | simp at hb
  have h2 : ChangesOnly [.ports, .gates, .field, .deliveries] s
      ((s.setGate g m.gate).recarry (m.replaces g)) :=
    h1.trans ((changesOnly_recarry _ _).mono (by simp))
  unfold gateEvent
  dsimp only
  split
  · exact h2.trans
      (((changesOnly_deliver _ _).mono (by simp)).trans ((changesOnly_notify _ _ _).mono (by simp)))
  · exact h2

/-- An event at a gate leaves every other gate, and leaves it the moved record. -/
theorem gateEvent_gate (s : State) (g k : Nat) (m : GateMove) (cause : GateCause)
    (hg : g < s.gates.recs.length) :
    (gateEvent s g m cause).gate k = if k = g then m.gate else s.gate k := by
  have h : (gateEvent s g m cause).gate k = (s.setGate g m.gate).gate k := by
    unfold gateEvent
    dsimp only
    split <;> simp [State.gate]
  rw [h]
  split
  · next e => subst e; exact State.setGate_gate_self s k _ hg
  · next e => exact State.setGate_gate_ne s g k _ e

/-- A STOP in flight stands under a direction order alone (R71). -/
theorem driven_keeps_stop (g h : Nat) (r : Gate) :
    (GateMove.driven r).replaces g (.stop h) = false := rfl

/-! ## Zones and lines -/

theorem changesOnly_zoneNotice (s : State) (z : Nat) (cause : ZoneCause) (l : Option (Nat × LineState))
    (n : Option Nat) : ChangesOnly [.ports] s (zoneNotice s z cause l n) := by
  unfold zoneNotice; exact changesOnly_notify _ _ _

theorem changesOnly_redecide (s : State) (z : Nat) :
    ChangesOnly [.zones, .deliveries] s (redecide s z) := by
  have h : ∀ (xs : List Nat) (r : State × List Instr),
      ChangesOnly [.zones, .deliveries] r.1 (xs.foldl redecideSegment r).1 := by
    intro xs
    induction xs with
    | nil => intro r; exact changesOnly_refl _ _
    | cons x xs ih =>
      intro r
      refine ChangesOnly.trans ?_ (ih (redecideSegment r x))
      unfold redecideSegment
      dsimp only
      split
      · exact changesOnly_refl _ _
      · intro b hb; cases b <;> first | rfl | simp at hb
  exact (h _ _).trans ((changesOnly_deliver _ _).mono (by simp))

theorem changesOnly_lineEnters (s : State) (l : Nat) (st : LineState) :
    ChangesOnly [.ports, .zones, .deliveries] s (lineEnters s l st) := by
  have hz : ∀ (u : State) (z : Nat) (r : Zone),
      ChangesOnly [.ports, .zones, .deliveries] u (u.setZone z r) := by
    intro u z r b hb; cases b <;> first | rfl | simp at hb
  have hn : ∀ (u : State) (z : Nat) (c : ZoneCause) (x : Option (Nat × LineState)) (n : Option Nat),
      ChangesOnly [.ports, .zones, .deliveries] u (zoneNotice u z c x n) :=
    fun u z c x n => (changesOnly_zoneNotice u z c x n).mono (by simp)
  have hh : ∀ (u : State) (z : Nat), ChangesOnly [.ports, .zones, .deliveries] u (handToZone u z l st) := by
    intro u z
    unfold handToZone
    split
    · split
      · exact (((hz u z _).trans ((changesOnly_deliver _ _).mono (by simp))).trans
          ((changesOnly_redecide _ _).mono (by simp))).trans (hn _ _ _ _ _)
      · exact (((hz u z _).trans ((changesOnly_deliver _ _).mono (by simp))).trans
          ((changesOnly_redecide _ _).mono (by simp))).trans (hn _ _ _ _ _)
      · exact (hz u z _).trans (hn _ _ _ _ _)
      · exact (hz u z _).trans (hn _ _ _ _ _)
      · exact hn _ _ _ _ _
    · exact hn _ _ _ _ _
  have h0 : ∀ r, ChangesOnly [.ports, .zones, .deliveries] s (s.setLine l r) := by
    intro r b hb; cases b <;> first | rfl | simp at hb
  unfold lineEnters
  dsimp only
  split
  · exact h0 _
  · exact ((h0 _).trans (hz _ _ _)).trans (hh _ _)

/-! ## Channels -/

theorem changesOnly_channelEvent (s : State) (c : Nat) (e : ChannelEntry) (new : Channel)
    (cause : ChannelCause) :
    ChangesOnly [.ports, .weather, .deliveries] s (channelEvent s c e new cause) := by
  unfold channelEvent
  dsimp only
  intro b hb
  split <;> split <;> cases b <;> first | rfl | simp at hb

/-! ## Signs -/

theorem changesOnly_composeAt (s : State) (n : Nat) :
    ChangesOnly [.arbiter, .field] s (composeAt s n) := by
  have h : ∀ o, ChangesOnly [.arbiter, .field] s (s.setOut n o) := by
    intro o b hb; cases b <;> first | rfl | simp at hb
  unfold composeAt
  dsimp only
  split
  · exact h _
  · exact (h _).trans ((changesOnly_recarry _ _).mono (by simp))

theorem changesOnly_winnerChange (s : State) (n : Nat) (cause : SignCause) :
    ChangesOnly [.ports, .arbiter, .field] s (winnerChange s n cause) := by
  have h : ∀ (u : State) (o : SignOut), ChangesOnly [.ports, .arbiter, .field] u (u.setOut n o) := by
    intro u o b hb; cases b <;> first | rfl | simp at hb
  have hf : ∀ u : State, ChangesOnly [.ports, .arbiter, .field] u (followWinner u n) := by
    intro u
    unfold followWinner
    dsimp only
    split
    · exact changesOnly_refl _ _
    · exact (h _ _).trans ((changesOnly_recarry _ _).mono (by simp))
  unfold winnerChange signNotice
  exact (((changesOnly_composeAt s n).mono (by simp)).trans (hf _)).trans
    ((changesOnly_notify _ _ _).mono (by simp))

theorem changesOnly_leaveSlot (s : State) (n : Nat) : ChangesOnly [.library] s (leaveSlot s n) := by
  unfold leaveSlot
  dsimp only
  split
  · exact changesOnly_refl _ _
  · intro b hb; cases b <;> first | rfl | simp at hb

theorem changesOnly_joinSlot (s : State) (n : Nat) : ChangesOnly [.library] s (joinSlot s n) := by
  unfold joinSlot
  dsimp only
  split
  · exact changesOnly_refl _ _
  · intro b hb; cases b <;> first | rfl | simp at hb

theorem changesOnly_placeDemand (s : State) (n : Nat) (d : Demand) (cause : SignCause) :
    ChangesOnly [.ports, .arbiter, .library, .field] s (placeDemand s n d cause) := by
  have h0 : ∀ (v : Word) (st : List Demand),
      ChangesOnly [.ports, .arbiter, .library, .field] s ((s.setArrival v).setStack n st) := by
    intro v st b hb; cases b <;> first | rfl | simp at hb
  have h1 : ∀ (xs : List Demand) (u : State), ChangesOnly [.ports, .arbiter, .library, .field] u
      (xs.foldl (fun t x => leaveSlot t x.slot) u) := fun xs u =>
    changesOnly_foldl _ (fun t x => (changesOnly_leaveSlot t x.slot).mono (by simp)) xs u
  unfold placeDemand
  dsimp only
  split
  · exact (((h0 _ _).trans ((changesOnly_joinSlot _ _).mono (by simp))).trans (h1 _ _)).trans
      ((changesOnly_winnerChange _ _ _).mono (by simp))
  · exact ((h0 _ _).trans ((changesOnly_joinSlot _ _).mono (by simp))).trans (h1 _ _)

theorem changesOnly_removeDemands (s : State) (n : Nat) (p : DemandKey → Bool) (cause : SignCause) :
    ChangesOnly [.ports, .arbiter, .library, .field] s (removeDemands s n p cause) := by
  have h0 : ∀ st, ChangesOnly [.ports, .arbiter, .library, .field] s (s.setStack n st) := by
    intro st b hb; cases b <;> first | rfl | simp at hb
  have h1 : ∀ (xs : List Demand) (u : State), ChangesOnly [.ports, .arbiter, .library, .field] u
      (xs.foldl (fun t x => leaveSlot t x.slot) u) := fun xs u =>
    changesOnly_foldl _ (fun t x => (changesOnly_leaveSlot t x.slot).mono (by simp)) xs u
  unfold removeDemands
  dsimp only
  split
  · exact (h0 _).trans (h1 _ _)
  · exact ((h0 _).trans (h1 _ _)).trans ((changesOnly_winnerChange _ _ _).mono (by simp))

/-! ## Field stations and placement -/

theorem changesOnly_grantBus (s : State) : ChangesOnly [.field] s (grantBus s) := by
  unfold grantBus
  dsimp only
  split
  · exact changesOnly_refl _ _
  · split <;> (intro b hb; cases b <;> first | rfl | simp at hb)

theorem changesOnly_enterStation (s : State) (x : Nat) (r : Station) (st : StationState)
    (cause : StationCause) : ChangesOnly [.ports, .field] s (enterStation s x r st cause) := by
  unfold enterStation stationNotice
  intro b hb; cases b <;> first | rfl | simp at hb

/-- A station that enters a state stands in it, with the power and indicator of that state. -/
theorem enterStation_station (s : State) (x k : Nat) (r : Station) (st : StationState)
    (cause : StationCause) (hx : x < s.field.stations.length) :
    (enterStation s x r st cause).station k =
      if k = x then { r with state := st, power := st.power, indicator := st.indicator }
      else s.station k := by
  have h : (enterStation s x r st cause).station k =
      (s.setStation x { r with state := st, power := st.power, indicator := st.indicator }).station k := rfl
  rw [h]
  split
  · next e => subst e; exact State.setStation_station_self s k _ hx
  · next e => exact State.setStation_station_ne s x k _ e

theorem changesOnly_gateLost (s : State) (g : Nat) :
    ChangesOnly [.ports, .gates, .field, .deliveries] s (gateLost s g) := changesOnly_gateEvent _ _ _ _

theorem changesOnly_gateReturned (s : State) (g : Nat) (r : GateReport) :
    ChangesOnly [.ports, .gates, .field, .deliveries] s (gateReturned s g r) := changesOnly_gateEvent _ _ _ _

theorem changesOnly_gateRecorded (s : State) (g : Nat) (r : GateReport) :
    ChangesOnly [.gates] s (gateRecorded s g r) := by
  intro b hb; cases b <;> first | rfl | simp at hb

theorem changesOnly_reportGate (s : State) (g : Nat) (r : GateReport) :
    ChangesOnly [.ports, .gates, .field, .deliveries] s (reportGate s g r) := by
  unfold reportGate
  split
  · exact changesOnly_gateEvent _ _ _ _
  · exact changesOnly_refl _ _

/-- Gathering what one event delivered changes nothing but the order of its deliveries. -/
theorem ChangesOnly.gathered {l : List Block} {s t : State} (h : ChangesOnly l s t)
    (hd : Block.deliveries ∈ l) : ChangesOnly l s (s.gathered t) := by
  intro b hb
  have hh := h b hb
  cases b <;> first | exact hh | exact absurd hd hb

theorem changesOnly_tripLost (s : State) (x : Nat) :
    ChangesOnly [.ports, .zones, .deliveries] s (tripLost s x) := by
  refine ChangesOnly.gathered (changesOnly_foldl _ (fun t l => ?_) _ _) (by simp)
  unfold lineLost
  split
  · exact changesOnly_refl _ _
  · exact changesOnly_lineEnters _ _ _

theorem changesOnly_stationReport (s : State) (x : Nat) (r : TripReport) :
    ChangesOnly [.ports, .zones, .deliveries] s (stationReport s x r) := by
  refine ChangesOnly.gathered (changesOnly_foldl _ (fun t l => ?_) _ _) (by simp)
  have h0 : ∀ v, ChangesOnly [.ports, .zones, .deliveries] t (t.setLine l v) := by
    intro v b hb; cases b <;> first | rfl | simp at hb
  unfold lineReport
  extract_lets r n
  split
  · split
    · exact changesOnly_lineEnters _ _ _
    · exact h0 _
  · exact h0 _

theorem changesOnly_beaconEntered (s : State) (x : Nat) :
    ChangesOnly [.arbiter] s (beaconEntered s x) := by
  unfold beaconEntered
  split
  · intro b hb; cases b <;> first | rfl | simp at hb
  · exact changesOnly_refl _ _

theorem changesOnly_beaconLeft (s : State) (x : Nat) : ChangesOnly [.arbiter] s (beaconLeft s x) := by
  unfold beaconLeft
  split
  · intro b hb; cases b <;> first | rfl | simp at hb
  · exact changesOnly_refl _ _

theorem changesOnly_retargetAt (s : State) (n : Nat) (previous new : Option Nat) :
    ChangesOnly [.ports, .arbiter, .field] s (retargetAt s n previous new) := by
  have h1 : ∀ o p, ChangesOnly [.ports, .arbiter, .field] s ((s.setOut n o).recarry p) := fun o p => by
    have h : ChangesOnly [.ports, .arbiter, .field] s (s.setOut n o) := by
      intro b hb; cases b <;> first | rfl | simp at hb
    exact h.trans ((changesOnly_recarry _ _).mono (by simp))
  have h2 : ∀ (u : State) (y : Nat) (v : Station),
      ChangesOnly [.ports, .arbiter, .field] u (u.setStation y v) := by
    intro u y v b hb; cases b <;> first | rfl | simp at hb
  unfold retargetAt signNotice
  dsimp only
  split
  · exact ((h1 _ _).trans (h2 _ _ _)).trans ((changesOnly_notify _ _ _).mono (by simp))
  · exact (h1 _ _).trans ((changesOnly_notify _ _ _).mono (by simp))

theorem changesOnly_takeRetargets (s : State) :
    ChangesOnly [.ports, .arbiter, .field, .deliveries] s (takeRetargets s) := by
  refine changesOnly_foldl _ (fun t c => ?_) _ _
  split
  · exact ((changesOnly_taking _ _).mono (by simp)).trans
      ((changesOnly_retargetAt _ _ _ _).mono (by simp))
  · exact changesOnly_refl _ _

theorem changesOnly_replaceTable (s : State) (t : Placement) :
    ChangesOnly [.placement, .field, .deliveries] s (replaceTable s t) := by
  intro b hb; cases b <;> first | rfl | simp at hb

/-! ## Departures taken at once -/

/-- The blocks that the owners of the stations' roles change. -/
def ownerBlocks : List Block := [.ports, .gates, .zones, .arbiter, .placement, .field, .deliveries]

theorem changesOnly_takeRole (x : Nat) (s : State) (c : Instr) :
    ChangesOnly ownerBlocks s (takeRole x s c) := by
  have h0 : ∀ {p : Prop} [Decidable p] {l : List Block} {t : State} (e : Instr),
      ChangesOnly l (s.taking e) t → (∀ b ∈ l, b ∈ ownerBlocks) →
      ChangesOnly ownerBlocks s (if p then t else s) := by
    intro p _ l t e h hl
    split
    · exact ((changesOnly_taking s e).mono (by decide)).trans (h.mono hl)
    · exact changesOnly_refl _ _
  unfold takeRole
  split
  · exact h0 _ (changesOnly_replaceTable _ _) (by decide)
  · exact h0 _ (changesOnly_replaceTable _ _) (by decide)
  · exact h0 _ (changesOnly_gateRecorded _ _ _) (by decide)
  · exact h0 _ (changesOnly_gateLost _ _) (by decide)
  · exact h0 _ (changesOnly_stationReport _ _ _) (by decide)
  · exact h0 _ (changesOnly_stationReport _ _ _) (by decide)
  · exact h0 _ (changesOnly_tripLost _ _) (by decide)
  · exact h0 _ (changesOnly_beaconEntered _ _) (by decide)
  · exact h0 _ (changesOnly_beaconLeft _ _) (by decide)
  · exact changesOnly_refl _ _

theorem changesOnly_roleTaken (s : State) (x : Nat) : ChangesOnly ownerBlocks s (roleTaken s x) :=
  changesOnly_foldl _ (fun t c => changesOnly_takeRole x t c) _ _

theorem changesOnly_departAtOnce (s : State) (x : Nat) :
    ChangesOnly ownerBlocks s (departAtOnce s x) := by
  unfold departAtOnce
  split <;> (try split) <;> first
    | exact changesOnly_refl _ _
    | exact ((changesOnly_replaceTable _ _).mono (by decide)).trans
        ((changesOnly_takeRetargets _).mono (by decide))
    | exact (changesOnly_gateLost _ _).mono (by decide)
    | exact (changesOnly_tripLost _ _).mono (by decide)
    | exact (changesOnly_beaconLeft _ _).mono (by decide)

/-- Entry to QUIESCING changes the station, the owner of its role, the notices and what is delivered. -/
theorem changesOnly_quiesceStation (s : State) (x : Nat) (cause : StationCause) :
    ChangesOnly ownerBlocks s (quiesceStation s x cause) :=
  ((changesOnly_enterStation _ _ _ _ _).mono (by decide)).trans (changesOnly_departAtOnce _ _)

end Sys2Proof
end

