-- ==== Sys2Proof/Tests/Slice0.lean ====
section
/-! SUPPORT. The model's own tests: the refusals of `Instr.wellFormed`, values and single steps from the
worked examples of spec/, and for every statement with hypotheses a theorem `witness_<statement>` that
shows a state and operands meeting them. -/

namespace Sys2Proof.Tests

open Sys2Proof Sys2Proof.Machine

set_option Elab.async false

/-! ## A small part -/

/-- An accepted image: three bound ports, one gate, one zone with two lines, two channels, two signs
with primaries and a shared standby, one beacon. -/
def image : Image :=
  { safeImage with
    ports :=
      [some { source := .roc, speed := .b9600, lower := 10, upper := 30, loss := .withdraw },
       some { source := .avs, speed := .b9600, lower := 0, upper := 60, loss := .retain },
       none,
       some { source := .cab, speed := .b9600, lower := 0, upper := 600, loss := .retain }]
    segments := (List.range 12).map fun i =>
      { restartHold := i == 0, ts := if i = 4 then some 5 else none, td := none, p := none, s := none,
        w := if i = 4 then some 6 else none }
    gates := (List.range 8).map fun g =>
      if g = 2 then { segment := some 4, station := some 2 } else { segment := none, station := none }
    zones := (List.range 10).map fun z =>
      { threatened := if z = 3 then [5, 6] else [z], failClosed := false }
    lines := (List.range 24).map fun l =>
      if 8 ≤ l && l ≤ 9 then { place := some (14, l - 8), zone := some 3 }
      else { place := none, zone := none }
    channels := (List.range 24).map fun c =>
      if c = 5 then
        { place := some (2, 1), type := .surfaceTemp, gain := 250, offset := -500, low := -350,
          high := 500, staleLimit := 180, action := .hold, fallback := -20 }
      else if c = 6 then
        { place := some (2, 0), type := .windGust, gain := 1000, offset := 0, low := 0, high := 600,
          staleLimit := 180, action := .fallback, fallback := 0 }
      else unfittedChannel
    signs := (List.range 24).map fun k =>
      { segment := k / 2, direction := .uphill,
        primary := if k = 8 then some 10 else if k = 9 then some 11 else none,
        standby := if k = 8 || k = 9 then some 20 else none,
        beacon := if k = 8 then some 24 else none, defaultMessage := none }
    stationTypes := (List.range 32).map fun x =>
      if x = 2 then .gate else if x = 14 then .trip else if x = 10 || x = 11 || x = 20 then .sign
      else if x = 24 then .beacon else .unused }

theorem test_image_accepted : imageAccepted image = true := by decide +kernel

/-- The part after start-up under that image, its bound ports LINKED and the key line active. -/
def base : State :=
  let s := boot { State.reset.loader with image, safe := false } true
    ((List.range 32).map fun x => x != 20) []
  { s with auth := { s.auth with links :=
      [{ state := .linked, lower := none, window := some 30 },
       { state := .linked, lower := none, window := some 60 },
       { state := .unbound, lower := none, window := none },
       { state := .linked, lower := some 0, window := some 600 }] } }

/-- A body waits at the head of a port's intake queue. -/
def waiting (s : State) (p : Nat) (body : List Byte) : State :=
  s.setPort p { s.port p with intake := [body] }

/-- A command with these argument bytes waits on a port. -/
def sent (s : State) (p : Nat) (k : CmdKind) (args : List Nat) : State :=
  waiting s p (bodyOf k (args.map byteOf))

/-- The state after a command; an outcome that is no next state leaves the state. -/
def after (c : Instr) (s : State) : State :=
  match exec c s with
  | .next t => t
  | .fault _ | .refused _ => s

/-- The command stands at the head and passes every check with these arguments. -/
def takes {α : Type} [DecidableEq α] (c : Command α) (s : State) (p : Nat) (a : α) : Bool :=
  match nextFrame s p with
  | none => false
  | some body =>
    portOk p && bodyKind body == c.kind.byte && !bodyProbe body && bindingOk s p c.kind &&
    linkOk s p c.kind && (c.kind == .status || authorized c.kind (agentOf s p) s.auth.keyLine) &&
    checkedArgs c s body == some a && guardOk s body && !heldByOther s p (c.held s a)

theorem accepted {α : Type} [DecidableEq α] {c : Command α} {s : State} {p : Nat} {a : α}
    (h : takes c s p a = true) : Accepted c s p a := by
  unfold takes at h
  split at h
  · cases h
  · next body hb =>
    simp only [Bool.and_eq_true, Bool.or_eq_true, beq_iff_eq, Bool.not_eq_true'] at h
    obtain ⟨⟨⟨⟨⟨⟨⟨⟨h1, h2⟩, h3⟩, h4⟩, h5⟩, h6⟩, h7⟩, h8⟩, h9⟩ := h
    exact ⟨body, ⟨h1, hb, h2⟩, h3, ⟨h4, h5, h6⟩, h7, h8, h9⟩

theorem tables {s : State} (h : @decide (TablesOk s) (tablesDec s) = true) : TablesOk s :=
  @of_decide_eq_true _ (tablesDec s) h

theorem base_tables : TablesOk base := tables (by decide +kernel)
theorem base_buffers : BuffersOk base := @of_decide_eq_true _ (buffersDec _) (by decide +kernel)
theorem base_authority : AuthorityOk base := @of_decide_eq_true _ (authorityDec _) (by decide +kernel)
theorem base_ports : PortsOk base := @of_decide_eq_true _ (portsDec _) (by decide +kernel)
theorem base_segments : SegmentsOk base := @of_decide_eq_true _ (segmentsDec _) (by decide +kernel)
theorem base_gates : GatesOk base := @of_decide_eq_true _ (gatesDec _) (by decide +kernel)
theorem base_zones : ZonesOk base := @of_decide_eq_true _ (zonesDec _) (by decide +kernel)
theorem base_weather : WeatherOk base := @of_decide_eq_true _ (weatherDec _) (by decide +kernel)
theorem base_evaluator : EvaluatorOk base := @of_decide_eq_true _ (evaluatorDec _) (by decide +kernel)
theorem base_stacks : StacksOk base := @of_decide_eq_true _ (stacksDec _) (by decide +kernel)
theorem base_counts : CountsOk base := @of_decide_eq_true _ (countsDec _) (by decide +kernel)
theorem base_library : LibraryOk base := @of_decide_eq_true _ (libraryDec _) (by decide +kernel)
theorem base_placement : PlacementOk base := @of_decide_eq_true _ (placementDec _) (by decide +kernel)
theorem base_stations : StationsOk base := @of_decide_eq_true _ (stationsDec _) (by decide +kernel)

/-- The part under that image with a zone in a record, its demands decided again. -/
def zoned (s : State) (z : Nat) (r : Zone) : State := redecide (s.setZone z r) z

theorem zones_of {s : State} (h : @decide _ (zonesDec s) = true) : ZonesOk s :=
  @of_decide_eq_true _ (zonesDec s) h

/-- A frame more on a port changes no table. -/
theorem tables_waiting {s : State} (h : TablesOk s) (p : Nat) (body : List Byte) :
    TablesOk (waiting s p body) := by
  unfold TablesOk waiting State.setPort State.image at *
  simpa using h

/-- A buffer that carries its own CRC-32: four bytes 0xFF take the register to 0, and zeros keep it there. -/
def sealed : Memory :=
  [(0, 0xFF#8), (1, 0xFF#8), (2, 0xFF#8), (3, 0xFF#8), (8188, 0xFF#8), (8189, 0xFF#8), (8190, 0xFF#8),
    (8191, 0xFF#8)]

theorem crc32_zeros (l : List Byte) (h : ∀ b ∈ l, b = 0) : l.foldl crc32Byte 0 = 0 := by
  induction l with
  | nil => rfl
  | cons b l ih =>
    have hb := h b (by simp)
    subst hb
    exact ih fun x hx => h x (by simp [hx])

theorem crc32_sealed : crc32 (coveredBytes sealed) = 0xFFFFFFFF#32 := by
  have hs : coveredBytes sealed = [0xFF#8, 0xFF#8, 0xFF#8, 0xFF#8] ++ sealed.bytes 4 8184 := by
    show sealed.bytes 0 (4 + 8184) = _
    unfold Memory.bytes
    rw [List.range_add, List.map_append, List.map_map]
    refine congrArg₂ (· ++ ·) (by decide +kernel) (List.map_congr_left fun k _ => ?_)
    simp only [Function.comp]
    congr 1
    omega
  have hz : ∀ b ∈ sealed.bytes 4 8184, b = 0 := by
    intro b hb
    simp only [Memory.bytes, List.mem_map, List.mem_range] at hb
    obtain ⟨k, hk, rfl⟩ := hb
    simp only [sealed, Memory.read]
    repeat rw [if_neg (by omega)]
  rw [hs, crc32, List.foldl_append,
    show List.foldl crc32Byte 0xFFFFFFFF#32 [0xFF#8, 0xFF#8, 0xFF#8, 0xFF#8] = 0 by decide +kernel,
    crc32_zeros _ hz]
  rfl

theorem crcOk_sealed : crcOk sealed = true := by
  have ht : storedCrc sealed = 0xFFFFFFFF := by decide +kernel
  unfold crcOk
  rw [crc32_sealed, ht]
  rfl

/-- The same buffer but for its last byte, which is 0. -/
def unsealed : Memory := sealed.take 7

theorem crcOk_unsealed : crcOk unsealed = false := by
  have hs : coveredBytes unsealed = coveredBytes sealed := by
    unfold coveredBytes Memory.bytes
    refine List.map_congr_left fun k hk => ?_
    have hk := List.mem_range.mp hk
    simp only [sealed, unsealed, List.take, Memory.read]
    split_ifs <;> first | rfl | omega
  have ht : storedCrc unsealed = 0x00FFFFFF := by decide +kernel
  unfold crcOk
  rw [hs, crc32_sealed, ht]
  rfl

/-- The part with a buffer staged. -/
def staged (m : Memory) : State := base.setLoader { base.loader with staging := m }

/-! ## Ill-formed commands are refused -/

theorem test_refuses_port : (Instr.claim 4).wellFormed = false := by decide
theorem test_refuses_segment : (Instr.dwellExpiry 12).wellFormed = false := by decide
theorem test_refuses_detector_segment : (Instr.detectorEvent 12 0).wellFormed = false := by decide
theorem test_refuses_detector_zone : (Instr.detectorEvent 0 10).wellFormed = false := by decide
theorem test_refuses_clearance_zone : (Instr.zoneClearanceEvent 0 10 true).wellFormed = false := by decide
theorem test_refuses_gate : (Instr.travelTimeout 8).wellFormed = false := by decide
theorem test_refuses_zone : (Instr.permitExpiry 10).wellFormed = false := by decide
theorem test_refuses_head : (Instr.headPollReply 8 0 0 0 0).wellFormed = false := by decide
theorem test_refuses_channel : (Instr.staleLimit 24).wellFormed = false := by decide
theorem test_refuses_sign : (Instr.placeholderChange 24).wellFormed = false := by decide
theorem test_refuses_expiry_sign : (Instr.demandExpiry 24 .roc 0).wellFormed = false := by decide
theorem test_refuses_expiry_tag : (Instr.demandExpiry 0 .roc 4).wellFormed = false := by decide
theorem test_refuses_delivery_sign : (Instr.internalDelivery 24 .zone none).wellFormed = false := by decide
theorem test_refuses_delivery_slot :
    (Instr.internalDelivery 0 .zone (some { slot := 96, severity := 7, flash := .dark })).wellFormed =
      false := by decide
theorem test_refuses_delivery_severity :
    (Instr.internalDelivery 0 .zone (some { slot := 95, severity := 8, flash := .dark })).wellFormed =
      false := by decide
theorem test_refuses_retarget_sign : (Instr.retarget 24 none none).wellFormed = false := by decide
theorem test_refuses_retarget_previous : (Instr.retarget 0 (some 32) none).wellFormed = false := by decide
theorem test_refuses_retarget_new : (Instr.retarget 0 none (some 32)).wellFormed = false := by decide
theorem test_refuses_station : (Instr.overCurrentTrip 32).wellFormed = false := by decide

/-! ## Reset -/

/-- START_UP of the part as reset leaves it, with nothing in configuration memory (R186, R189). -/
theorem test_start_up_of_reset : exec .startUp State.reset = .next State.reset :=
  congrArg Host.Outcome.next (by decide +kernel :
    boot (reload State.reset.loader) State.reset.auth.keyLine
      (State.reset.field.stations.map (·.contactClosed)) State.reset.pending = State.reset)

/-! ## Values and single steps of the spec's worked examples -/

/-- Chapter 06, "Calibration": codes 1600, 2048, 0 and 4095 of gain 250 and offset -500. -/
theorem test_calibration :
    ([1600, 2048, 0, 4095].map fun c => (imageChannel image 5).map (calibrate · c)) =
      [some (-109), some 0, some (-400), some 500] := by decide +kernel

/-- Chapter 07, "The Score": cases 1 to 4. -/
theorem test_scores :
    [riskScore (-12) (some (-20)) 0 40, riskScore 40 (some 35) 0 0,
      riskScore (-400) (some 600) 1000 2000, riskScore 10 none 0 0] = [372, 18, 1000, 120] := by
  decide +kernel

/-- R131: from wind class 1 a gust of 129 moves down and one of 130 does not, with N = 1. -/
theorem test_wind_filter :
    (runFilter windThresholds windHysteresis 1 129 { cls := 1, up := 0, down := 0 }).cls = 0 ∧
    (runFilter windThresholds windHysteresis 1 130 { cls := 1, up := 0, down := 0 }).cls = 1 := by
  decide +kernel

/-- R186 gives the closing message; its face checksum is that of R150 over sixty characters and code 0. -/
theorem test_closing_face : (State.reset.out 0).face = messageOf "PASS CLOSING" "PREPARE TO STOP" "" ∧
    (State.reset.out 0).checksum = faceChecksum (State.reset.out 0).face := by decide +kernel

/-- R57: a claim that is not immediate opens the pre-warning of 120 s on an OPEN segment. -/
theorem test_claim_prewarns :
    let t := after (.claim 3) (sent base 3 .claim [1, 5, 9, 0])
    (t.seg 5).state = .prewarn ∧ (t.seg 5).dwell = some 120 ∧ (t.seg 5).revision = 1 := by
  decide +kernel

/-- R57: an immediate one takes the minimum dwell of 15 s. -/
theorem test_claim_immediate :
    ((after (.claim 3) (sent base 3 .claim [1, 5, 9, 1])).seg 5).dwell = some 15 := by decide +kernel

/-- R46: the reply to CLAIM counts one claim added and none changed, then state and revision. -/
theorem test_claim_reply :
    (((after (.claim 3) (sent base 3 .claim [1, 5, 9, 0])).port 3).owed.map fun r => (r.kind, r.data)) =
      [(0xA4#8, [1, 0, 1, 0, 1])] := by decide +kernel

/-- R59: releasing the only claim in PREWARN returns the segment to OPEN. -/
theorem test_release_reopens :
    let s := after (.claim 3) (sent base 3 .claim [1, 5, 9, 0])
    let s := s.setPort 3 { s.port 3 with owed := [] }
    ((after (.release 3) (sent s 3 .release [1, 5])).seg 5).state = .opened := by decide +kernel

/-- R33, R34: another source's hold refuses a claim with HELD. -/
theorem test_claim_held :
    let s := base.setHold 5 (some { holder := .roc, remaining := 60 })
    (((after (.claim 3) (sent s 3 .claim [1, 5, 9, 0])).port 3).owed.map (·.code)) = [.held] := by
  decide +kernel

/-- R96: SET LEVEL 3 takes the zone from QUIET to WATCH at the watch threshold of 3. -/
theorem test_level_watches :
    ((after (.setLevel 1) (sent base 1 .setLevel [3, 3])).zone 3).state = .watch := by decide +kernel

/-- R90: one ALARM of debounce 2 is counted, the second fires the line and trips the zone. -/
theorem test_alarm_debounced :
    let r : TripReport := { c0 := .alarm, c1 := .quiet, c2 := .quiet, c3 := .quiet }
    let s := base.setLine 8 { state := .normal, pending := none, confirm := 0 }
    let t := after (.tripReport 14 r) s
    let u := after (.tripReport 14 r) t
    (t.line 8).confirm = 1 ∧ (t.zone 3).state = .quiet ∧ (u.line 8).state = .fired ∧
      (u.zone 3).state = .tripped := by decide +kernel

/-- R78: a station that returns with its boom up settles OPEN where the segment is not closing, and is
raised where the segment is RAISING with the boom down. -/
theorem test_gate_settles :
    ((after (.gateStationReturn 2 { position := .up, blocked := false, lever := false }) base).gate 2).state
      = .opened ∧
    ((after (.gateStationReturn 2 { position := .down, blocked := false, lever := false }) base).gate
      2).driveOwed = some .raise := by decide +kernel

/-- R114: the stale limit makes a FRESH channel STALE. -/
theorem test_stale :
    let s := base.setChannel 5 { Channel.reset with
      lastGood := some (-109), lastGoodTime := some 0, stale := some 0, status := .fresh }
    ((after (.staleLimit 5) s).channel 5).status = .stale := by decide +kernel

/-- R20, R25, R26: the window starts at U; when it runs out the port is LOST. -/
theorem test_link :
    ((after (.presence 0) (sent base 0 .presence [])).portLink 0) =
      { state := .linked, lower := some 10, window := some 30 } ∧
    ((after (.windowExpiry 0) (base.setLink 0 { state := .linked, lower := none, window := some 0 })).portLink
      0).state = .lost := by decide +kernel

/-- R159: "Cz" at the last place but one stores "C" and, "z" being outside the set, a space, and locks. -/
theorem test_write_text :
    let s := (base.setCursor 3 { slot := some 100, line := 2, column := 18, locked := false })
    let t := after (.writeText 3) (sent s 3 .writeText [2, 0x43, 0x7A])
    (t.userSlot 100).text.drop 58 = [0x43#8, 0x20#8] ∧ (t.cursor 3).locked = true := by decide +kernel

/-- R10: the station that enters ACTIVE becomes the target of the sign whose primary it is. -/
theorem test_placement :
    ((after (.placementEntry 10) base).target 8, (after (.placementEntry 20) base).target 8) =
      (some 10, some 20) := by decide +kernel

/-- R165: the third missed poll leaves the station LOST. -/
theorem test_lost :
    let s := base.setStation 10 { Station.reset true with
      state := .active, power := true, indicator := .steady, missed := 2 }
    let s := s.setField { s.field with
      exchange := some { station := 10, kind := .poll, carries := .nothing } }
    ((after (.pollUnanswered 10) s).station 10).state = .lost := by decide +kernel

/-- R187, R188: bytes are staged, and the completion of a commit makes them memory. -/
theorem test_image_bytes :
    let s := after (.imageWrite 3) (sent base 3 .imageWrite [0, 5, 7, 8])
    let t := after .commitCompletion (s.setLoader { s.loader with writing := true })
    t.loader.memory = [(5, 7#8), (6, 8#8)] ∧ t.loader.marker = true := by decide +kernel

/-! ## Witnesses -/

/-- A routine frame of a kind with a guard on a segment's revision, or state. -/
def guarded (k : CmdKind) (flags : Nat) (value : Nat) (args : List Nat) : List Byte :=
  k.byte :: byteOf flags :: (be16 (BitVec.ofNat 16 value) ++ args.map byteOf)

/-- A hold of the road operations centre. -/
def rocHold : Option Hold := some { holder := .roc, remaining := 5 }

/-- A claim of the cabinet. -/
def cabClaim : Claim := { reason := 0, placedAt := 0, immediate := true, zones := [] }

/-- A segment record in a state with one claim of the cabinet. -/
def claimed (st : SegState) : Segment :=
  { state := st, claims := { ClaimSet.none with cab := some cabClaim }, revision := 0xFFFF,
    dwell := if st = .prewarn then some 0 else none, barrierFault := false, reopenPending := false,
    zoneLock := false, stamp := .unset }

/-- A gate record in a state, its station ACTIVE. -/
def gateIn (st : GateState) (p : Position) (timer : Option Nat) (cause : Option GateFault) : Gate :=
  { state := st, position := some p, attempts := 0, timer, cause, stopOwed := false, driveOwed := none,
    stationUp := true, lever := false }

/-- A station record in a state. -/
def stationIn (st : StationState) (cause : Option StationFault) : Station :=
  { Station.reset true with state := st, power := st.power, indicator := st.indicator, cause := cause }

/-- A state with an exchange on the field bus. -/
def onLine (s : State) (x : Nat) (k : BusKind) (c : Carriage) : State :=
  s.setField { s.field with exchange := some { station := x, kind := k, carries := c } }

theorem segments_set {i : Nat} {g : Segment} (h : @decide _ (segmentsDec (base.setSeg i g)) = true) :
    SegmentsOk (base.setSeg i g) := @of_decide_eq_true _ (segmentsDec _) h

theorem stations_of {s : State} (h : @decide _ (stationsDec s) = true) : StationsOk s :=
  @of_decide_eq_true _ (stationsDec _) h

theorem gates_of {s : State} (h : @decide _ (gatesDec s) = true) : GatesOk s :=
  @of_decide_eq_true _ (gatesDec _) h

/-! ### Steps, outcomes and checks -/

theorem witness_WellFormedCommandsComplete :
    (Instr.dwellExpiry 11).wellFormed = true ∧ (Instr.dwellExpiry 12).wellFormed = false ∧
    QueueOk { base with pending := [.dwellExpiry 11] } := by
  refine ⟨by decide, by decide, ?_⟩
  unfold QueueOk
  decide +kernel

theorem witness_PartIdlesWithoutWork :
    base.pending = [] ∧ base.deliveries = .startupSequenceBegin :: [] ∧ State.reset.pending = [] ∧
    State.reset.deliveries = [] ∧ agentCommand (.claim 3) = some (3, .claim) ∧ portOk 3 = true ∧
    ¬∃ body, Ready base 3 .claim body := by
  refine ⟨by decide +kernel, by decide +kernel, rfl, rfl, rfl, rfl, ?_⟩
  rintro ⟨body, -, h, -⟩
  have hn : nextFrame base 3 = none := by decide +kernel
  simp [hn] at h

theorem witness_LinkCheckRefusesOnUnlinkedPort :
    let s := base.setLink 0 { state := .silent, lower := none, window := none }
    TablesOk s ∧ agentCommand (.claim 0) = some (0, .claim) ∧
    Ready (sent s 0 .claim [1, 4, 0, 0]) 0 .claim (bodyOf .claim [1, 4, 0, 0]) ∧
    (s.sourceOf 0).isSome = true ∧ (s.portLink 0).state ≠ .linked ∧
    agentCommand (.presence 0) = some (0, .presence) ∧
    Ready (sent s 0 .presence []) 0 .presence (bodyOf .presence []) ∧
    Accepted presenceCommand (sent s 0 .presence []) 0 () := by
  refine ⟨tables (by decide +kernel), rfl, ?_, by decide +kernel, by decide +kernel, rfl, ?_,
    accepted (by decide +kernel)⟩ <;> (unfold Ready; decide +kernel)

/-- One frame for each order of the checks: an unassigned kind, plain and probed, an unbound port, an unlinked one, a
source that may not, a guard cut short, and guards of segment 12 and of state 5. -/
theorem witness_ChecksRefuseInOrder :
    let u := waiting base 3 [0x7F]
    let unbound := sent base 2 .claim [1, 4, 0, 0]
    let silent := base.setLink 0 { state := .silent, lower := none, window := none }
    let denied := sent base 0 .forceRelease [4, 5]
    (portOk 3 = true ∧ nextFrame u 3 = some [0x7F] ∧ assignedKind (bodyKind [0x7F]) = false ∧
      nextFrame (waiting base 3 [0x7F, 0x02]) 3 = some [0x7F, 0x02] ∧
      assignedKind (bodyKind [0x7F, 0x02]) = false ∧ bodyProbe [0x7F, 0x02] = true) ∧
    (Ready unbound 2 .claim (bodyOf .claim [1, 4, 0, 0]) ∧ bindingOk unbound 2 .claim = false) ∧
    (bindingOk silent 0 .claim = true ∧ linkOk silent 0 .claim = false) ∧
    (Ready denied 0 .forceRelease (bodyOf .forceRelease [4, 5]) ∧
      bindingOk denied 0 .forceRelease = true ∧ linkOk denied 0 .forceRelease = true ∧
      authorized .forceRelease (agentOf denied 0) denied.auth.keyLine = false) ∧
    (Admitted base 3 .claim ∧ bodyHeaderOk [0x24, 4, 0] = false ∧
      bodyGuard (guarded .claim 0xC4 0 []) =
        some { segment := 12, stateForm := false, high := 0, low := 0 } ∧
      bodyGuard (guarded .claim 0x4C 5 []) =
        some { segment := 4, stateForm := true, high := 0, low := 5 }) := by
  unfold Ready Admitted
  decide +kernel

/-- The hypotheses of a guard's refusal on a body. -/
def GuardMisses {α : Type} (c : Command α) (s : State) (p : Nat) (body : List Byte) : Prop :=
  ∃ a g, Ready (waiting s p body) p c.kind body ∧ Admitted (waiting s p body) p c.kind ∧
    checkedArgs c (waiting s p body) body = some a ∧ bodyGuard body = some g ∧
    g.holds (waiting s p body) = false

theorem guardMisses {α : Type} [DecidableEq α] {c : Command α} {s : State} {p : Nat} {body : List Byte}
    (a : α) (g : Guard)
    (h : nextFrame (waiting s p body) p = some body ∧ portOk p = true ∧ bodyKind body = c.kind.byte ∧
      Admitted (waiting s p body) p c.kind ∧ checkedArgs c (waiting s p body) body = some a ∧
      bodyGuard body = some g ∧ g.holds (waiting s p body) = false) : GuardMisses c s p body :=
  ⟨a, g, ⟨h.2.1, h.1, h.2.2.1⟩, h.2.2.2⟩

/-- A guard on segment 4 in revision form that expects 9 where the revision is 0. -/
def guard4 : Guard := { segment := 4, stateForm := false, high := 0, low := 9 }

/-- The operands of the posts below. -/
def posted : PostArgs :=
  { first := 8, count := 1, tag := 0, slot := 3, severity := 4, flash := .dark, expiry := none }

theorem witness_GuardRefuses :
    GuardMisses holdCommand base 3 (guarded .hold 0x44 9 [1, 4]) ∧
    GuardMisses unholdCommand base 3 (guarded .unhold 0x44 9 [1, 4]) ∧
    GuardMisses claimCommand base 3 (guarded .claim 0x44 9 [1, 4, 0, 0]) ∧
    GuardMisses releaseCommand base 3 (guarded .release 0x44 9 [1, 4]) ∧
    GuardMisses forceReleaseCommand base 3 (guarded .forceRelease 0x44 9 [4, 5]) ∧
    GuardMisses restartConfirmCommand base 3 (guarded .restartConfirm 0x44 9 [4]) := by
  refine ⟨guardMisses [4] guard4 ?_, guardMisses [4] guard4 ?_,
    guardMisses { segs := [4], reason := 0, immediate := false } guard4 ?_,
    guardMisses [4] guard4 ?_, guardMisses (4, .rst) guard4 ?_, guardMisses 4 guard4 ?_⟩ <;>
    (unfold Admitted; decide +kernel)

theorem witness_GuardRefuses_signs_and_zones :
    GuardMisses postCommand base 3 (guarded .post 0x44 9 [8, 1, 0, 3, 4, 0, 0]) ∧
    GuardMisses withdrawCommand base 3 (guarded .withdraw 0x44 9 [8, 1, 0]) ∧
    GuardMisses setLevelCommand base 1 (guarded .setLevel 0x44 9 [4, 3]) ∧
    GuardMisses beginSweepCommand base 1 (guarded .beginSweep 0x44 9 [4]) ∧
    GuardMisses zoneClearCommand base 1 (guarded .zoneClear 0x44 9 [4, 1]) ∧
    GuardMisses permitRequestCommand base 1 (guarded .permitRequest 0x44 9 [4, 1]) ∧
    GuardMisses permitEndCommand base 1 (guarded .permitEnd 0x44 9 [4]) := by
  refine ⟨guardMisses posted guard4 ?_, guardMisses (8, 1, 0) guard4 ?_, guardMisses (4, 3) guard4 ?_,
    guardMisses 4 guard4 ?_, guardMisses (4, true) guard4 ?_, guardMisses (4, 1) guard4 ?_,
    guardMisses 4 guard4 ?_⟩ <;>
    (unfold Admitted; decide +kernel)

theorem witness_GuardRefuses_ports_and_weather :
    GuardMisses presenceCommand base 3 (guarded .presence 0x44 9 []) ∧
    GuardMisses statusCommand base 3 (guarded .status 0x44 9 [8, 127]) ∧
    GuardMisses subscribeCommand base 3 (guarded .subscribe 0x44 9 [127]) ∧
    GuardMisses portClearCommand base 3 (guarded .portClear 0x44 9 []) ∧
    GuardMisses setTimeCommand base 0 (guarded .setTime 0x44 9 [23, 59, 59]) ∧
    GuardMisses readingCommand base 0 (guarded .reading 0x44 9 [5, 1]) ∧
    GuardMisses forceChannelCommand base 3 (guarded .forceChannel 0x44 9 [5, 0, 1]) ∧
    GuardMisses unforceCommand base 3 (guarded .unforce 0x44 9 [5]) := by
  refine ⟨guardMisses () guard4 ?_, guardMisses (8, 127) guard4 ?_, guardMisses 127 guard4 ?_,
    guardMisses () guard4 ?_, guardMisses { hours := 23, minutes := 59, seconds := 59 } guard4 ?_,
    guardMisses { channel := 5, form := .raw } guard4 ?_, guardMisses (5, none) guard4 ?_,
    guardMisses 5 guard4 ?_⟩ <;>
    (unfold Admitted; decide +kernel)

theorem witness_GuardRefuses_library_and_stations :
    GuardMisses remapCommand base 3 (guarded .remap 0x44 9 [8, 10]) ∧
    GuardMisses gateFaultClearCommand base 3 (guarded .gateFaultClear 0x44 9 [2]) ∧
    GuardMisses cursorCommand base 3 (guarded .cursor 0x44 9 [127, 2, 19, 0]) ∧
    GuardMisses writeTextCommand base 3 (guarded .writeText 0x44 9 [1, 65]) ∧
    GuardMisses libraryClearCommand base 3 (guarded .libraryClear 0x44 9 [96]) ∧
    GuardMisses stationOffCommand base 3 (guarded .stationOff 0x44 9 [31]) ∧
    GuardMisses stationRestartCommand base 3 (guarded .stationRestart 0x44 9 [31]) ∧
    GuardMisses imageWriteCommand base 3 (guarded .imageWrite 0x44 9 [0x1F, 0xFF, 7]) := by
  refine ⟨guardMisses (8, 10) guard4 ?_, guardMisses 2 guard4 ?_,
    guardMisses { slot := 127, line := 2, column := 19, picto := none } guard4 ?_,
    guardMisses [65] guard4 ?_, guardMisses 96 guard4 ?_, guardMisses 31 guard4 ?_,
    guardMisses 31 guard4 ?_, guardMisses (8191, [7]) guard4 ?_⟩ <;>
    (unfold Admitted; decide +kernel)

/-- IMAGE COMMIT of a buffer whose CRC-32 agrees, and WITHDRAW ALL, under a guard. -/
theorem witness_GuardRefuses_commit_and_withdrawAll :
    GuardMisses imageCommitCommand (staged sealed) 3 (guarded .imageCommit 0x44 9 []) ∧
    (let body := guarded .withdrawAll 0x44 0 []
     let s := waiting base 3 body
     Ready s 3 .withdrawAll body ∧ Admitted s 3 .withdrawAll ∧ bodyGuarded body = true) := by
  constructor
  · refine guardMisses () guard4 ⟨by decide +kernel, rfl, by decide +kernel, ?_, ?_, by decide +kernel,
      by decide +kernel⟩
    · unfold Admitted
      decide +kernel
    · have hc : imageCommitCommand.parse (waiting (staged sealed) 3 (guarded .imageCommit 0x44 9 []))
          (bodyArgs (guarded .imageCommit 0x44 9 [])) = some () := by
        rw [show bodyArgs (guarded .imageCommit 0x44 9 []) = [] by decide +kernel]
        have hs : (waiting (staged sealed) 3 (guarded .imageCommit 0x44 9 [])).loader.staging = sealed := rfl
        simp only [imageCommitCommand, argsCommit, hs, crcOk_sealed, if_true]
      have hh : bodyHeaderOk (guarded .imageCommit 0x44 9 []) = true := by decide +kernel
      have hg : bodyGuard (guarded .imageCommit 0x44 9 []) = some guard4 := by decide +kernel
      unfold checkedArgs
      rw [hc, hh, hg]
      rfl
  · unfold Ready Admitted
    decide +kernel

/-- The hypotheses of the hold check's refusal on a body. -/
def HoldMisses {α : Type} (c : Command α) (s : State) (p : Nat) (body : List Byte) : Prop :=
  ∃ a, Ready (waiting s p body) p c.kind body ∧ Admitted (waiting s p body) p c.kind ∧
    checkedArgs c (waiting s p body) body = some a ∧ guardOk (waiting s p body) body = true ∧
    ∃ k ∈ c.held (waiting s p body) a, ∃ h, (waiting s p body).hold k = some h ∧
      h.holder ≠ agentOf (waiting s p body) p

/-- Segment 4 held by the road operations centre. -/
def held4 : State := base.setHold 4 rocHold

theorem holdMisses {α : Type} [DecidableEq α] {c : Command α} {p : Nat} {body : List Byte} (a : α)
    (h : nextFrame (waiting held4 p body) p = some body ∧ portOk p = true ∧
      bodyKind body = c.kind.byte ∧ Admitted (waiting held4 p body) p c.kind ∧
      checkedArgs c (waiting held4 p body) body = some a ∧ guardOk (waiting held4 p body) body = true ∧
      4 ∈ c.held (waiting held4 p body) a ∧ (waiting held4 p body).hold 4 = rocHold ∧
      AgentSource.roc ≠ agentOf (waiting held4 p body) p) : HoldMisses c held4 p body :=
  ⟨a, ⟨h.2.1, h.1, h.2.2.1⟩, h.2.2.2.1, h.2.2.2.2.1, h.2.2.2.2.2.1, 4, h.2.2.2.2.2.2.1, _,
    h.2.2.2.2.2.2.2.1, h.2.2.2.2.2.2.2.2⟩

theorem witness_HoldRefuses :
    HoldMisses holdCommand held4 3 (bodyOf .hold [1, 4]) ∧
    HoldMisses claimCommand held4 3 (bodyOf .claim [1, 4, 0, 0]) ∧
    HoldMisses releaseCommand held4 3 (bodyOf .release [1, 4]) ∧
    HoldMisses restartConfirmCommand held4 3 (bodyOf .restartConfirm [4]) ∧
    HoldMisses postCommand held4 3 (bodyOf .post [8, 1, 0, 3, 4, 0, 0]) ∧
    HoldMisses withdrawCommand held4 3 (bodyOf .withdraw [8, 1, 0]) := by
  refine ⟨holdMisses [4] ?_, holdMisses { segs := [4], reason := 0, immediate := false } ?_,
    holdMisses [4] ?_, holdMisses 4 ?_,
    holdMisses posted ?_, holdMisses (8, 1, 0) ?_⟩ <;>
    (unfold Admitted; decide +kernel)

theorem witness_ProbeChangesOnlyTheReply :
    let body : List Byte := [0x24, 2, 1, 4, 0, 0]
    TablesOk (waiting base 3 body) ∧ agentCommand (.claim 3) = some (3, .claim) ∧
    Ready (waiting base 3 body) 3 .claim body ∧ bodyProbe body = true := by
  refine ⟨tables_waiting base_tables _ _, rfl, ?_⟩
  unfold Ready
  decide +kernel

/-! ### Start-up, clock and ports -/

theorem witness_StartUpSetsEveryBlock :
    TablesOk base ∧ base.loader.writing = false ∧
    (after .startUp State.reset).loader.marker = false := ⟨base_tables, by decide +kernel, by decide +kernel⟩

theorem startUp_sealed :
    let l := { State.reset.loader with memory := sealed, marker := true }
    exec .startUp (State.reset.setLoader l) = .next (boot (reload l) State.reset.auth.keyLine
      (State.reset.field.stations.map (·.contactClosed)) State.reset.pending) := by
  unfold exec execStartUp
  simp only [State.setLoader_loader, State.setLoader_auth, State.setLoader_field,
    State.setLoader_pending]

/-- A start-up without the commit marker, and one with it and a memory whose CRC-32 agrees. -/
theorem witness_StartUpLoadsOnlyAcceptedImages :
    (∃ t, exec .startUp State.reset = .next t ∧ t.loader.marker = false ∧
      State.reset.loader.writing = false) ∧
    ∃ t, exec .startUp (State.reset.setLoader { State.reset.loader with memory := sealed, marker := true }) =
      .next t ∧ t.loader.marker = true ∧ crcOk t.loader.memory = true :=
  ⟨⟨_, rfl, by decide +kernel, by decide +kernel⟩, _, startUp_sealed, rfl, crcOk_sealed⟩

/-- The last second of a day, a hold, and a reading that waits for its agent. -/
theorem witness_SecondBoundaryCountsEveryDuration :
    let d : TimeOfDay := { hours := 23, minutes := 59, seconds := 59 }
    let s := { base with clock := { base.clock with timeOfDay := some d } }
    base.clock.timeOfDay = none ∧ s.clock.timeOfDay = some d ∧ d.hours < 24 ∧ d.minutes < 60 ∧
    d.seconds < 60 ∧
    (∃ r v u k, (base.setWeather { base.weather with
      slot := .ready { channel := 5, form := .raw } .noReply 0 0 }).weather.slot = .ready r v u k) ∧
    (∀ r v u k, base.weather.slot ≠ .ready r v u k) :=
  ⟨by decide +kernel, rfl, by decide, by decide, by decide, ⟨_, _, _, _, rfl⟩, fun _ _ _ _ h => by cases h⟩

theorem witness_FrameArrivalQueuesFrame :
    let full := base.setPort 3 { base.port 3 with
      intake := List.replicate 6 [0x24, 0],
      owed := List.replicate 6 { kind := 0xA4, code := .busy, data := [0x24], executed := false } }
    TablesOk base ∧ TablesOk full ∧ portOk 3 = true ∧ (base.port 3).assembly = .hunting ∧
    (full.port 3).assembly = .hunting ∧ 1 ≤ [0x24#8].length ∧ (List.replicate 200 (0#8)).length ≤ 200 ∧
    (base.port 3).intake.length < 6 ∧ ¬(full.port 3).intake.length < 6 ∧ ¬busyOwed (full.port 3) < 6 :=
  ⟨base_tables, tables (by decide +kernel), by decide +kernel⟩

theorem witness_FaultyFramesAreDiscarded :
    let s := base.setPort 3 { base.port 3 with assembly := .frame [1, 2], crcErrors := 255 }
    TablesOk base ∧ TablesOk s ∧ portOk 3 = true ∧ (base.port 3).assembly = .hunting ∧
    (s.port 3).assembly = .frame [1, 2] ∧
    [0x00#8, 0x00#8] ≠ be16 (crc16 (byteOf [0x24#8].length :: [0x24#8])) ∧ 200 < (0xC9#8 : Byte).toNat :=
  ⟨base_tables, tables (by decide +kernel), by decide +kernel⟩

theorem witness_RepliesLeaveBeforeNotices :
    let r : Reply := { kind := 0xA4, code := .busy, data := [0x24], executed := false }
    let n : Notice := { index := 0, stamp := 0, overflow := false, body := .port .lost .windowExpiry none }
    let s := base.setPort 3 { base.port 3 with owed := [r] }
    let u := base.setPort 3 { base.port 3 with notices := [n], overflowOwed := true }
    TablesOk s ∧ TablesOk u ∧ portOk 3 = true ∧ (s.port 3).owed = r :: [] ∧ (s.port 3).owed ≠ [] ∧
    (u.port 3).owed = [] ∧ (u.port 3).notices = n :: [] :=
  ⟨tables (by decide +kernel), tables (by decide +kernel), by decide +kernel⟩

theorem witness_PortAndClockCommands :
    TablesOk (sent base 3 .subscribe [127]) ∧
    Accepted subscribeCommand (sent base 3 .subscribe [127]) 3 127 ∧
    Accepted portClearCommand (sent base 3 .portClear []) 3 () ∧
    Accepted statusCommand (sent base 2 .status [8, 127]) 2 (8, 127) ∧
    Accepted setTimeCommand (sent base 0 .setTime [23, 59, 59]) 0
      { hours := 23, minutes := 59, seconds := 59 } :=
  ⟨tables_waiting base_tables _ _, accepted (by decide +kernel), accepted (by decide +kernel),
    accepted (by decide +kernel), accepted (by decide +kernel)⟩

theorem witness_PresenceLinksPort :
    let b : PortBinding := { source := .cab, speed := .b9600, lower := 0, upper := 600, loss := .retain }
    let silent := base.setLink 3 { state := .silent, lower := none, window := none }
    let open_ := base.setLink 3 { state := .linked, lower := none, window := some 600 }
    TablesOk base ∧ imagePort base.image 3 = some b ∧
    (Accepted presenceCommand (sent silent 3 .presence []) 3 () ∧ (silent.portLink 3).state ≠ .linked) ∧
    (Accepted presenceCommand (sent open_ 3 .presence []) 3 () ∧ (open_.portLink 3).lower = none) ∧
    (Accepted presenceCommand (sent base 3 .presence []) 3 () ∧ (base.portLink 3).state = .linked ∧
      (base.portLink 3).lower ≠ none) ∧
    (portOk 3 = true ∧ (base.portLink 3).lower = some 0) :=
  ⟨base_tables, by decide +kernel, ⟨accepted (by decide +kernel), by decide +kernel⟩,
    ⟨accepted (by decide +kernel), by decide +kernel⟩,
    ⟨accepted (by decide +kernel), by decide +kernel, by decide +kernel⟩, by decide +kernel⟩

theorem witness_WindowExpiryLosesLink :
    let b : PortBinding := { source := .roc, speed := .b9600, lower := 10, upper := 30, loss := .withdraw }
    let s := held4.setLink 0 { state := .linked, lower := none, window := some 0 }
    TablesOk s ∧ imagePort s.image 0 = some b ∧ portOk 0 = true ∧ (s.portLink 0).state = .linked ∧
    (s.hold 4).map (·.holder) = some b.source ∧
    (s.portLink 0).window = some 0 ∧ (base.portLink 0).window ≠ some 0 :=
  ⟨tables (by decide +kernel), by decide +kernel⟩

theorem witness_HoldsAreTakenAndDropped :
    TablesOk base ∧ Accepted holdCommand (sent base 3 .hold [2, 0, 11]) 3 [0, 11] ∧
    Accepted unholdCommand (sent held4 3 .unhold [1, 4]) 3 [4] ∧
    held4.hold 4 = some { holder := .roc, remaining := 5 } ∧
    (base.setHold 11 (some { holder := .cab, remaining := 0 })).hold 11 =
      some { holder := .cab, remaining := 0 } :=
  ⟨base_tables, accepted (by decide +kernel), accepted (by decide +kernel), by decide +kernel⟩

/-! ### Corridor table -/

theorem witness_ClaimClosesSegments :
    let a : ClaimArgs := { segs := [4, 5], reason := 9, immediate := true }
    let s := sent base 3 .claim [2, 4, 5, 9, 1]
    let c := sent (base.setSeg 5 (claimed .closed)) 3 .claim [2, 4, 5, 9, 1]
    let w := sent (base.setSeg 5 (claimed .prewarn)) 3 .claim [2, 4, 5, 9, 1]
    TablesOk s ∧ SegmentsOk s ∧ Accepted claimCommand s 3 a ∧ (s.seg 5).state = .opened ∧
    (s.seg 4).state = .raising ∧
    SegmentsOk (base.setSeg 5 (claimed .closed)) ∧ Accepted claimCommand c 3 a ∧
    (c.seg 5).state = .closed ∧
    SegmentsOk (base.setSeg 5 (claimed .prewarn)) ∧ Accepted claimCommand w 3 a ∧
    (w.seg 5).state = .prewarn :=
  ⟨tables_waiting base_tables _ _, base_segments, accepted (by decide +kernel), by decide +kernel,
    by decide +kernel, segments_set (by decide +kernel), accepted (by decide +kernel), by decide +kernel,
    segments_set (by decide +kernel), accepted (by decide +kernel), by decide +kernel⟩

theorem witness_ReleasesRemoveClaims :
    let u := base.setSeg 5 (claimed .prewarn)
    TablesOk u ∧ SegmentsOk u ∧ Accepted releaseCommand (sent u 3 .release [1, 5]) 3 [5] ∧
    ((u.seg 5).claims.get .cab).isSome = true ∧ (base.seg 5).claims.get .cab = none ∧
    Accepted forceReleaseCommand (sent u 3 .forceRelease [5, 3]) 3 (5, .cab) ∧
    Accepted forceReleaseCommand (sent base 3 .forceRelease [5, 3]) 3 (5, .cab) ∧
    Accepted restartConfirmCommand (sent base 3 .restartConfirm [0]) 3 0 ∧
    ((base.seg 0).claims.get .rst).isSome = true ∧
    Accepted restartConfirmCommand (sent base 3 .restartConfirm [11]) 3 11 ∧
    ((base.seg 11).claims.get .rst).isSome = false :=
  ⟨tables (by decide +kernel), segments_set (by decide +kernel), accepted (by decide +kernel),
    by decide +kernel, by decide +kernel, accepted (by decide +kernel), accepted (by decide +kernel),
    accepted (by decide +kernel), by decide +kernel, accepted (by decide +kernel), by decide +kernel⟩

/-- An OPEN segment, one in PREWARN, a segment with the DET claim of zone 3 alone, and a RAISING one. -/
theorem witness_ZoneEventsReachSegment :
    let det : Claim := { reason := 0, placedAt := 0, immediate := true, zones := [3] }
    let g : Segment := { claimed .closed with claims := { ClaimSet.none with det := some det } }
    TablesOk base ∧ SegmentsOk base ∧ SegmentsOk (base.setSeg 5 g) ∧ segOk 11 = true ∧
    zoneOk 9 = true ∧ (base.seg 5).state = .opened ∧ (base.seg 0).state = .prewarn ∧
    (base.seg 0).claims.det = none ∧
    ((base.setSeg 5 g).seg 5).claims.det.map (·.zones) = some [3] ∧ (base.seg 4).state = .raising ∧
    ((after (.zoneClearanceEvent 5 3 true) (base.setSeg 5 g)).seg 5).claims.isEmpty = true ∧
    ((after (.zoneClearanceEvent 5 3 true) (base.setSeg 5 g)).seg 5).zoneLock = false ∧
    (∃ y ∈ zoneList base.image 5, ((base.setZone 3 { base.zone 3 with state := .sweep }).zone y).state =
      .sweep) :=
  ⟨base_tables, base_segments, segments_set (by decide +kernel), by decide +kernel⟩

theorem witness_DwellAndGateReportsMoveSegment :
    let p := base.setSeg 4 (claimed .prewarn)
    let l := (base.setSeg 4 (claimed .lowering)).setGate 2 (gateIn .closed .down none none)
    let r := base.setGate 2 (gateIn .opened .up none none)
    TablesOk p ∧ TablesOk l ∧ TablesOk r ∧ segOk 4 = true ∧ (p.seg 4).state = .prewarn ∧
    (p.seg 4).dwell = some 0 ∧ gateOk 2 = true ∧ segmentOfGate base 2 = some 4 ∧
    gateOk 7 = true ∧ segmentOfGate base 7 = none ∧
    (l.seg 4).state = .lowering ∧ loweringDone l 4 = true ∧
    (r.seg 4).state = .raising ∧ raisingDone r 4 = true :=
  ⟨tables (by decide +kernel), tables (by decide +kernel), tables (by decide +kernel), by decide +kernel⟩

/-! ### Gate controller -/

theorem witness_RequestsDriveGate :
    let l := (base.setSeg 4 (claimed .lowering)).setGate 2 (gateIn .opened .up none none)
    let r := base.setGate 2 (gateIn .closed .down none none)
    TablesOk l ∧ TablesOk r ∧ gateOk 2 = true ∧ segmentOfGate l 2 = some 4 ∧
    segmentOfGate r 2 = some 4 ∧ gateOk 7 = true ∧ segmentOfGate base 7 = none ∧ (l.seg 4).state = .lowering ∧ (l.gate 2).state = .opened ∧
    (r.seg 4).state = .raising ∧ (r.gate 2).state = .closed :=
  ⟨tables (by decide +kernel), tables (by decide +kernel), by decide +kernel⟩

/-- A gate without and with its station, one in each state a report acts on, at both ends of the retry
limit of 3. -/
theorem witness_GateReportMovesGate :
    let s (st : GateState) (n : Nat) (c : Option GateFault) :=
      base.setGate 2 { gateIn st .between (some 1) c with attempts := n }
    TablesOk (s .lowering 2 none) ∧ gateOk 7 = true ∧ (base.gate 2).stationUp = false ∧
    ((s .lowering 2 none).gate 2).stationUp = true ∧ ((s .lowering 2 none).gate 2).state = .lowering ∧
    ((s .lowering 2 none).gate 2).attempts < (s .lowering 2 none).image.retryLimit ∧
    ¬((s .lowering 3 none).gate 2).attempts < (s .lowering 3 none).image.retryLimit ∧
    ((s .raising 0 none).gate 2).state = .raising ∧ ((s .retreat 0 none).gate 2).state = .retreat ∧
    ((s .retreat 3 (some .obstructionLimit)).gate 2).cause = some .obstructionLimit ∧
    ((s .opened 0 none).gate 2).state = .opened ∧ ((s .wait 0 none).gate 2).state = .wait ∧
    ((s .closed 0 none).gate 2).state = .closed ∧ ((s .manual 0 none).gate 2).state = .manual ∧
    ((s .unknown 0 none).gate 2).state = .unknown ∧
    ((s .unknown 0 none).gate 2).position ≠ some .up ∧
    ((s .unknown 0 none).gate 2).position = some .between ∧
    ((s .fault 0 (some .stationLost)).gate 2).state = .fault :=
  ⟨tables (by decide +kernel), by decide +kernel⟩

theorem witness_GateTimersExpire :
    let m := base.setGate 2 (gateIn .retreat .between (some 0) (some .obstructionLimit))
    let w := base.setGate 2 (gateIn .wait .up (some 0) none)
    let u := { base with gates := { base.gates with startLimit := some 0 } }
    TablesOk m ∧ TablesOk w ∧ TablesOk u ∧ gateOk 2 = true ∧ (m.gate 2).moving = true ∧
    (m.gate 2).timer = some 0 ∧ (w.gate 2).state = .wait ∧ (w.gate 2).timer = some 0 ∧
    ((base.setGate 2 (gateIn .lowering .between (some 0) none)).gate 2).moving = true ∧
    callsDown ((base.setSeg 4 (claimed .lowering)).setGate 2 (gateIn .wait .up (some 0) none)) 2 = true ∧
    callsDown w 2 = false ∧ u.gates.startLimit = some 0 ∧ (u.gate 7).state = .unknown ∧
    (u.gate 7).stationUp = false ∧ base.gates.startLimit ≠ some 0 :=
  ⟨tables (by decide +kernel), tables (by decide +kernel), tables (by decide +kernel), by decide +kernel⟩

theorem witness_StationLossReturnAndClear :
    let f := base.setGate 2 (gateIn .fault .between none (some .positionConflict))
    TablesOk f ∧ GatesOk f ∧ gateOk 2 = true ∧
    Accepted gateFaultClearCommand (sent f 3 .gateFaultClear [2]) 3 2 ∧ (f.gate 2).state = .fault ∧
    (f.gate 2).stationUp = true ∧ (f.gate 2).lever = false ∧
    Accepted gateFaultClearCommand (sent base 3 .gateFaultClear [7]) 3 7 ∧
    (base.gate 7).state ≠ .fault :=
  ⟨tables (by decide +kernel), gates_of (by decide +kernel), by decide +kernel,
    accepted (by decide +kernel), by decide +kernel, by decide +kernel, by decide +kernel,
    accepted (by decide +kernel), by decide +kernel⟩

/-! ### Zone monitor -/

theorem witness_TripStationsReportAndFail :
    TablesOk base ∧ ZonesOk base ∧ stationOk 31 = true ∧ stationLines base.image 14 = [8, 9] ∧
    (((base.setLine 8 { state := .bypassed, pending := none, confirm := 0 }).line 8).state ≠
      .unmonitored) :=
  ⟨base_tables, base_zones, by decide +kernel⟩

/-- A line that fires and one that does not, a report that confirms an alarm, and a lost station. -/
theorem witness_FiringLineTripsZone :
    let r : TripReport := { c0 := .alarm, c1 := .quiet, c2 := .quiet, c3 := .quiet }
    let s := base.setLine 8 { state := .normal, pending := some .alarm, confirm := 1 }
    TablesOk base ∧ ZonesOk base ∧ lineOk 8 = true ∧ (imageLine base.image 8).zone = some 3 ∧
    fires base 3 .fired = true ∧ (base.zone 3).state = .quiet ∧ fires base 3 .normal = false ∧
    TablesOk s ∧ ZonesOk s ∧ stationOk 14 = true ∧ lineChanges s (.tripReport 14 r) = [(8, .fired)] ∧
    lineChanges s (.tripStationLost 14) = [(8, .unmonitored)] :=
  ⟨base_tables, base_zones, by decide +kernel, by decide +kernel, by decide +kernel, by decide +kernel,
    by decide +kernel, tables (by decide +kernel), zones_of (by decide +kernel), by decide +kernel⟩

theorem witness_LevelAndSweepCommands :
    let trip := zoned base 3 { base.zone 3 with state := .tripped, fired := [8] }
    (TablesOk base ∧ ZonesOk base) ∧ (TablesOk trip ∧ ZonesOk trip) ∧
    Accepted setLevelCommand (sent base 1 .setLevel [9, 255]) 1 (9, 5) ∧
    Accepted setLevelCommand (sent base 1 .setLevel [0, 0]) 1 (0, 0) ∧
    Accepted beginSweepCommand (sent trip 1 .beginSweep [3]) 1 3 ∧ (trip.zone 3).state = .tripped ∧
    Accepted beginSweepCommand (sent base 1 .beginSweep [3]) 1 3 ∧ (base.zone 3).state ≠ .tripped :=
  ⟨⟨base_tables, base_zones⟩, ⟨tables (by decide +kernel), zones_of (by decide +kernel)⟩,
    accepted (by decide +kernel), accepted (by decide +kernel),
    accepted (by decide +kernel), by decide +kernel, accepted (by decide +kernel), by decide +kernel⟩

/-- A zone that is not swept; one swept with UNMONITORED lines, with and without the bypass. -/
theorem witness_ZoneClearReleasesZone :
    let w := zoned base 3 { base.zone 3 with state := .sweep }
    (TablesOk w ∧ ZonesOk w ∧ TablesOk base ∧ ZonesOk base) ∧
    Accepted zoneClearCommand (sent base 1 .zoneClear [3, 0]) 1 (3, false) ∧
    (base.zone 3).state ≠ .sweep ∧ Accepted zoneClearCommand (sent w 1 .zoneClear [3, 0]) 1 (3, false) ∧
    Refusing w 3 ≠ [] ∧ Accepted zoneClearCommand (sent w 1 .zoneClear [3, 1]) 1 (3, true) ∧
    (w.zone 3).state = .sweep :=
  ⟨⟨tables (by decide +kernel), zones_of (by decide +kernel), base_tables, base_zones⟩,
    accepted (by decide +kernel), by decide +kernel,
    accepted (by decide +kernel), by decide +kernel, accepted (by decide +kernel), by decide +kernel⟩

/-- A swept zone, a zone over an OPEN segment, one over a CLOSED segment, and a zone in WORK. -/
theorem witness_PermitsOpenAndEnd :
    let sw := zoned base 4 { base.zone 4 with state := .sweep }
    let cl := base.setSeg 4 (claimed .closed)
    let wk := zoned cl 4 { base.zone 4 with state := .work, permit := some 0 }
    (TablesOk sw ∧ ZonesOk sw) ∧ (TablesOk cl ∧ ZonesOk cl) ∧ (TablesOk wk ∧ ZonesOk wk) ∧ zoneOk 4 = true ∧
    (Accepted permitRequestCommand (sent sw 1 .permitRequest [4, 1]) 1 (4, 1) ∧
      (sw.zone 4).state = .sweep) ∧
    (Accepted permitRequestCommand (sent base 1 .permitRequest [4, 255]) 1 (4, 120) ∧
      (base.seg 4).state ≠ .closed) ∧
    (Accepted permitRequestCommand (sent cl 1 .permitRequest [4, 1]) 1 (4, 1) ∧
      (cl.seg 4).state = .closed ∧ (cl.seg 4).barrierFault = false) ∧
    (Accepted permitEndCommand (sent wk 1 .permitEnd [4]) 1 4 ∧ (wk.zone 4).state = .work ∧
      (wk.zone 4).permit = some 0) ∧
    (Accepted permitEndCommand (sent base 1 .permitEnd [4]) 1 4 ∧ (base.zone 4).state ≠ .work) :=
  ⟨⟨tables (by decide +kernel), zones_of (by decide +kernel)⟩,
    ⟨tables (by decide +kernel), zones_of (by decide +kernel)⟩,
    ⟨tables (by decide +kernel), zones_of (by decide +kernel)⟩, by decide +kernel,
    ⟨accepted (by decide +kernel), by decide +kernel⟩, ⟨accepted (by decide +kernel), by decide +kernel⟩,
    ⟨accepted (by decide +kernel), by decide +kernel⟩, ⟨accepted (by decide +kernel), by decide +kernel⟩,
    ⟨accepted (by decide +kernel), by decide +kernel⟩⟩

/-! ### Weather unit and condition evaluator -/

/-- A period run out with the link busy, free, and free with a sample waiting; a poll in progress behind
which a sample waits; and a stale timer run out. -/
theorem witness_HeadsArePolledAndAnswer :
    let d := base.setWeather { base.weather with sampleTimer := 0 }
    let free := base.setWeather { base.weather with sampleTimer := 0, exchange := none }
    let next := base.setWeather { base.weather with waiting := some (2, 1) }
    let stale := base.setChannel 5 { Channel.reset with
      lastGood := some 0, lastGoodTime := some 0, stale := some 0, status := .fresh }
    (TablesOk free ∧ free.weather.exchange = none ∧ TablesOk next ∧
      next.weather.exchange = some (.poll 2) ∧ TablesOk stale ∧ (stale.channel 5).stale = some 0 ∧
      (imageChannel stale.image 5).isSome = true) ∧
    TablesOk base ∧ TablesOk d ∧ d.weather.sampleTimer = 0 ∧ headFitted base.image 2 = true ∧
    base.weather.exchange = some (.poll 2) ∧ headOk 2 = true ∧
    channelOk 23 = true ∧ (base.channel 23).stale ≠ some 0 ∧
    (∃ e, imageChannel base.image 5 = some e ∧ e.place = some (2, 1) ∧
      plausible e (calibrate e (1600#12 : RawCode).toNat) = true ∧
      plausible e (calibrate e (0#12 : RawCode).toNat) = false) :=
  ⟨⟨tables (by decide +kernel), rfl, tables (by decide +kernel), by decide +kernel,
      tables (by decide +kernel), by decide +kernel, by decide +kernel⟩,
    base_tables, tables (by decide +kernel), rfl, by decide +kernel, by decide +kernel, rfl, rfl,
    by decide +kernel, _, rfl, rfl,
    by decide +kernel, by decide +kernel⟩

/-- Every state of the slot a READING finds, an unfitted channel, a sample in progress, and a reading at
both ends of its discard time. -/
theorem witness_ReadingSlotServesOneRequest :
    let r : Request := { channel := 5, form := .calibrated }
    let w (x : Slot) := base.setWeather { base.weather with slot := x }
    let s := base.setWeather { base.weather with
      slot := .pending r, exchange := some (.immediate 2 1) }
    TablesOk base ∧ (∀ x ∈ [Slot.empty, .pending r, .ready r .noReply 0 0],
      takes readingCommand (sent (w x) 0 .reading [5, 0]) 0 r = true ∧
      takes readingCommand (sent (w x) 0 .reading [23, 1]) 0 { channel := 23, form := .raw } = true) ∧
    imageChannel base.image 23 = none ∧ (imageChannel base.image 5).isSome = true ∧
    TablesOk s ∧ s.weather.slot = .pending r ∧ s.weather.exchange = some (.immediate 2 1) ∧
    headOk 2 = true ∧ (w (.ready r .noReply 0 0)).weather.slot = .ready r .noReply 0 0 ∧
    (w (.ready r .noReply 0 60)).weather.slot = .ready r .noReply 0 60 :=
  ⟨base_tables, by decide +kernel, by decide +kernel, by decide +kernel, tables (by decide +kernel), rfl,
    rfl, rfl, rfl, rfl⟩

theorem witness_StaleLimitLeavesChannelStale :
    let c : Channel := { Channel.reset with
      lastGood := some 0, lastGoodTime := some 0, stale := some 0, status := .implausible }
    let s := base.setChannel 5 c
    TablesOk s ∧ (s.channel 5).stale = some 0 ∧ (s.channel 5).status ≠ .forced ∧
    ∃ e, imageChannel s.image 5 = some e ∧ plausible e (calibrate e (1600#12 : RawCode).toNat) = true :=
  ⟨tables (by decide +kernel), by decide +kernel, by decide +kernel, _, rfl, by decide +kernel⟩

theorem witness_ForcingDecidesEffectiveValue :
    let f := base.setChannel 5 { Channel.reset with status := .forced, forced := .failure }
    TablesOk base ∧ TablesOk f ∧
    Accepted forceChannelCommand (sent base 3 .forceChannel [5, 1, 0x80, 0, 0]) 3 (5, some (-32768)) ∧
    Accepted forceChannelCommand (sent base 3 .forceChannel [5, 0, 1]) 3 (5, none) ∧
    Accepted forceChannelCommand (sent base 3 .forceChannel [23, 0, 1]) 3 (23, none) ∧
    Accepted unforceCommand (sent f 3 .unforce [5]) 3 5 ∧ (f.channel 5).status = .forced ∧
    Accepted unforceCommand (sent base 3 .unforce [5]) 3 5 ∧ (base.channel 5).status ≠ .forced :=
  ⟨base_tables, tables (by decide +kernel), accepted (by decide +kernel), accepted (by decide +kernel),
    accepted (by decide +kernel), accepted (by decide +kernel), by decide +kernel,
    accepted (by decide +kernel), by decide +kernel⟩

/-- An evaluated segment whose Ts channel is FORCED, the period run out. -/
theorem witness_RiskScoreStages :
    let s := { base with evaluator := { base.evaluator with timer := 0 } }
    TablesOk s ∧ s.evaluator.timer = 0 ∧ roleValue s (imageSegment s.image 4).ts = some (-20) ∧
    base.evaluator.timer ≠ 0 ∧ evaluated s.image 5 = false :=
  ⟨tables (by decide +kernel), by decide +kernel⟩

/-- Verdicts that move both classes of a segment, the condition class up and the wind class down. -/
theorem witness_EvaluationStepsClasses :
    let e : Evaluation := { score := 0, cond := { cls := 0, up := 2, down := 0 },
                            wind := { cls := 2, up := 0, down := 2 } }
    let s := { base with evaluator := { base.evaluator with timer := 0 } }.setEval 4 e
    let t := after .evaluationEvent s
    TablesOk s ∧ s.evaluator.timer = 0 ∧ (imageSegment s.image 4).ts = some 5 ∧
    effective s 5 = some (-20) ∧ roleValue s (imageSegment s.image 4).w = some 0 ∧
    (t.eval 4).cond.cls = 1 ∧ (t.eval 4).wind.cls = 1 ∧ evaluated s.image 5 = false ∧
    base.evaluator.timer ≠ 0 :=
  ⟨tables (by decide +kernel), by decide +kernel⟩

/-! ### Signs, placement and library -/

/-- A stack with four demands of the cabinet, and one that is empty. -/
def fourDemands : State :=
  base.setStack 23 ((List.range 4).map fun k =>
    { key := .agent .roc k, slot := 3, severity := 4, flash := .dark, expiry := some 0,
      arrival := BitVec.ofNat 32 k })

theorem witness_PostPlacesOnSpan :
    let a : PostArgs := { first := 22, count := 2, tag := 3, slot := 95, severity := 7,
                          flash := .unison, expiry := some 65535 }
    let s := sent base 3 .post [22, 2, 3, 95, 7, 2, 1, 0, 1, 0, 0]
    let f := sent fourDemands 3 .post [22, 2, 3, 95, 7, 2, 1, 0, 1, 0, 0]
    TablesOk s ∧ Accepted postCommand s 3 a ∧ TablesOk f ∧ Accepted postCommand f 3 a ∧
    4 ≤ agentCount (f.stack 23) ∧ hasKey (.agent .cab 3) (f.stack 23) = false :=
  ⟨tables_waiting base_tables _ _, accepted (by decide +kernel), tables (by decide +kernel),
    accepted (by decide +kernel), by decide +kernel, by decide +kernel⟩

theorem witness_RemovalsTakeDemands :
    TablesOk fourDemands ∧ Accepted withdrawCommand (sent fourDemands 3 .withdraw [0, 24, 3]) 3 (0, 24, 3) ∧
    Accepted withdrawAllCommand (sent fourDemands 3 .withdrawAll []) 3 () ∧ signOk 23 = true ∧
    tagOk 3 = true ∧
    (∃ d ∈ fourDemands.stack 23, d.key = .agent .roc 3 ∧ d.expiry = some 0) :=
  ⟨tables (by decide +kernel), accepted (by decide +kernel), accepted (by decide +kernel), rfl, rfl,
    by decide +kernel⟩

theorem witness_InternalDeliveriesFillTopics :
    TablesOk base ∧ signOk 23 = true ∧
    contentOk (some { slot := 95, severity := 7, flash := .dark }) = true ∧ contentOk none = true :=
  ⟨base_tables, by decide +kernel⟩

/-- A sign with its re-render timer run out, and one whose carried face is answered. -/
theorem witness_FacesAreComposedAndConfirmed :
    let t := base.setOut 23 { base.out 23 with timer := some 0, owed := true }
    let c (n : Nat) := base.setOut 8 { base.out 8 with
      target := some 10, carried := true, output := .shown, mismatches := n }
    TablesOk t ∧ signOk 23 = true ∧ (base.out 23).timer = none ∧ (t.out 23).timer = some 0 ∧
    TablesOk (c 1) ∧ stationOk 10 = true ∧ signOfTarget base 10 = none ∧
    signOfTarget (c 1) 10 = some 8 ∧ ((c 1).out 8).carried = true ∧ ((c 1).out 8).mismatches < 2 ∧
    signOfTarget (c 2) 10 = some 8 ∧ ¬((c 2).out 8).mismatches < 2 :=
  ⟨tables (by decide +kernel), by decide +kernel, by decide +kernel, by decide +kernel,
    tables (by decide +kernel), by decide +kernel⟩

theorem witness_RetargetsAndBeaconsDriveSigns :
    let left := { base with placement := { base.placement with up := base.placement.up.set 20 true } }
    TablesOk left ∧ (∀ m ∈ List.range 24, left.target m ≠ some 20) ∧ left.panelUp 20 = true ∧
    optOk stationOk (some 20) = true ∧
    TablesOk base ∧ signOk 23 = true ∧ optOk stationOk (some 31) = true ∧ optOk stationOk none = true ∧
    stationOk 24 = true ∧ signOfBeacon base.image 24 = some 8 :=
  ⟨tables (by decide +kernel), by decide +kernel, by decide +kernel, by decide +kernel, base_tables,
    by decide +kernel⟩

/-- The table with station 20 ACTIVE and given to one sign as its standby. -/
def onStandby (n : Nat) : State :=
  { base with placement := { base.placement with
      up := base.placement.up.set 20 true, targets := base.placement.targets.set n (some 20) } }

theorem standby_placement {n : Nat} (h : @decide _ (placementDec (onStandby n)) = true) :
    PlacementOk (onStandby n) := @of_decide_eq_true _ (placementDec _) h

/-- A sign on its primary, a sign on its standby for which another waits, a standby two signs wait for, and
a station of no sign. -/
theorem witness_PlacementFollowsStations :
    let s := { base with placement := { base.placement with
      up := base.placement.up.set 10 true, targets := base.placement.targets.set 8 (some 10) } }
    TablesOk s ∧ PlacementOk s ∧ stationOk 10 = true ∧ s.target 8 = some 10 ∧ s.primary 8 = some 10 ∧
    TablesOk base ∧ PlacementOk base ∧ (∀ n < 24, base.primary n ≠ some 20 ∧ base.target n ≠ some 20) ∧
    NextFor base 20 8 ∧
    TablesOk (onStandby 8) ∧ PlacementOk (onStandby 8) ∧ (onStandby 8).primary 8 = some 10 ∧
    (onStandby 8).target 8 = some 20 ∧ NextFor (onStandby 8) 20 9 :=
  ⟨tables (by decide +kernel), @of_decide_eq_true _ (placementDec _) (by decide +kernel),
    by decide +kernel, by decide +kernel, by decide +kernel, base_tables, base_placement, by decide +kernel,
    by decide +kernel, tables (by decide +kernel), standby_placement (by decide +kernel),
    by decide +kernel⟩

/-- The REMAPs of base, one that takes the standby another sign is on, and one that leaves it to a sign that
waits. -/
theorem witness_RemapGivesSignPrimary :
    TablesOk base ∧ PlacementOk base ∧
    (Accepted remapCommand (sent base 3 .remap [0, 10]) 3 (0, 10) ∧ base.primary 8 = some 10) ∧
    Accepted remapCommand (sent base 3 .remap [8, 10]) 3 (8, 10) ∧
    Accepted remapCommand (sent base 3 .remap [23, 20]) 3 (23, 20) ∧
    (PlacementOk (onStandby 9) ∧ Accepted remapCommand (sent (onStandby 9) 3 .remap [23, 20]) 3 (23, 20) ∧
      (onStandby 9).target 9 = some 20 ∧ (onStandby 9).panelUp 20 = true) ∧
    NextFor (onStandby 8) 20 9 :=
  ⟨base_tables, base_placement, ⟨accepted (by decide +kernel), by decide +kernel⟩,
    accepted (by decide +kernel), accepted (by decide +kernel),
    ⟨standby_placement (by decide +kernel), accepted (by decide +kernel), by decide +kernel⟩,
    by decide +kernel⟩

theorem witness_CursorTextAndClear :
    let used := base.setSlot 127 { UserSlot.reset with refs := 1 }
    let s (c : Nat) (lock : Bool) :=
      base.setCursor 3 { slot := some 127, line := 2, column := c, locked := lock }
    TablesOk base ∧ LibraryOk base ∧
    Accepted cursorCommand (sent base 3 .cursor [127, 2, 19, 1, 63]) 3
      { slot := 127, line := 2, column := 19, picto := some 63 } ∧
    Accepted cursorCommand (sent used 3 .cursor [127, 0, 0, 0]) 3
      { slot := 127, line := 0, column := 0, picto := none } ∧
    (used.userSlot 127).refs ≠ 0 ∧
    (Accepted writeTextCommand (sent base 3 .writeText [1, 65]) 3 [65] ∧ (base.cursor 3).slot = none) ∧
    (LibraryOk (s 19 false) ∧ Accepted writeTextCommand (sent (s 19 false) 3 .writeText [2, 65, 66]) 3
      [65, 66]) ∧
    (LibraryOk (s 19 true) ∧ Accepted writeTextCommand (sent (s 19 true) 3 .writeText [1, 65]) 3 [65]) ∧
    Accepted libraryClearCommand (sent base 3 .libraryClear [96]) 3 96 ∧
    Accepted libraryClearCommand (sent used 3 .libraryClear [127]) 3 127 :=
  ⟨base_tables, base_library, accepted (by decide +kernel), accepted (by decide +kernel),
    by decide +kernel, ⟨accepted (by decide +kernel), by decide +kernel⟩,
    ⟨@of_decide_eq_true _ (libraryDec _) (by decide +kernel), accepted (by decide +kernel)⟩,
    ⟨@of_decide_eq_true _ (libraryDec _) (by decide +kernel), accepted (by decide +kernel)⟩,
    accepted (by decide +kernel), accepted (by decide +kernel)⟩

/-! ### Field stations and image -/

theorem witness_StationsPowerUpAndDown :
    let p := base.setStation 2 (stationIn .powering none)
    TablesOk base ∧ StationsOk base ∧ stationOk 2 = true ∧ base.field.startSeq.head? = some 2 ∧
    (base.station 2).state = .absent ∧ (base.station 2).contactClosed = true ∧
    (base.station 20).contactClosed = false ∧ TablesOk p ∧ StationsOk p ∧
    (p.station 2).state = .powering ∧ p.field.startSeq = 2 :: 10 :: p.field.startSeq.drop 2 ∧
    (p.station 10).state = .absent :=
  ⟨base_tables, base_stations, by decide +kernel, by decide +kernel, by decide +kernel, by decide +kernel,
    by decide +kernel, tables (by decide +kernel), stations_of (by decide +kernel), by decide +kernel⟩

theorem witness_StationsIdentifyOrFault :
    let s := base.setStation 10 (stationIn .identifying none)
    let i := onLine s 10 .ident .nothing
    let a := base.setStation 10 (stationIn .active none)
    TablesOk i ∧ StationsOk i ∧ stationOk 10 = true ∧ (s.station 10).state = .identifying ∧
    s.field.exchange = none ∧ (∀ y < 10, (s.station y).identDue = false) ∧
    i.field.exchange = some { station := 10, kind := .ident, carries := .nothing } ∧
    onBus i 10 .ident = true ∧ moduleType .sign = imageType i.image 10 ∧
    moduleType .beacon ≠ imageType i.image 10 ∧ (a.station 10).power = true ∧
    (a.station 10).state = .active ∧ (base.station 10).power = false :=
  ⟨tables (by decide +kernel), stations_of (by decide +kernel), by decide +kernel⟩

theorem witness_PollsCarryAndCountMisses :
    let due := base.setField { base.field with
      roundsDue := 1, stations := base.field.stations.set 31 (stationIn .lost none) }
    let poll (x : Nat) := base.setField { base.field with
      roundsDue := 1, stations := base.field.stations.set x (stationIn .active none) }
    let quiescing (x : Nat) := base.setField { base.field with
      roundsDue := 1, stations := base.field.stations.set x (stationIn .quiescing none) }
    let a (n : Nat) := onLine (base.setStation 10 { stationIn .active none with missed := n }) 10 .poll
      (.face 8)
    let l := onLine (base.setStation 10 (stationIn .lost none)) 10 .poll .nothing
    (TablesOk (a 1) ∧ StationsOk (a 1)) ∧ base.field.roundsDue = 0 ∧
    (due.field.roundsDue ≠ 0 ∧ roundRuns due = false ∧ due.field.exchange = none ∧
      identWaiting due = none ∧ (List.range 32).find? (fun y => inRound (due.station y)) = some 31) ∧
    ((poll 2).field.roundsDue ≠ 0 ∧ roundRuns (poll 2) = false ∧ (poll 2).field.exchange = none ∧
      identWaiting (poll 2) = none ∧ ((poll 2).station 2).state = .active ∧
      (List.range 32).find? (fun y => inRound ((poll 2).station y)) = some 2 ∧
      (imageGate base.image 2).station = some 2) ∧
    (∀ x ∈ [10, 24], (quiescing x).field.roundsDue ≠ 0 ∧ roundRuns (quiescing x) = false ∧
      (quiescing x).field.exchange = none ∧ identWaiting (quiescing x) = none ∧
      (List.range 32).find? (fun y => inRound ((quiescing x).station y)) = some x) ∧
    imageType base.image 10 = .sign ∧ imageType base.image 24 = .beacon ∧
    (stationOk 10 = true ∧ onBus (a 1) 10 .poll = true ∧ ((a 1).station 10).state = .active ∧
      answerType (.sign 0) = imageType (a 1).image 10 ∧ ((a 1).station 10).missed < 2 ∧
      ¬((a 2).station 10).missed < 2) ∧
    (TablesOk l ∧ StationsOk l ∧ onBus l 10 .poll = true ∧ (l.station 10).state = .lost) :=
  ⟨⟨tables (by decide +kernel), stations_of (by decide +kernel)⟩, by decide +kernel, by decide +kernel,
    by decide +kernel, by decide +kernel, by decide +kernel, by decide +kernel, by decide +kernel, tables (by decide +kernel),
    stations_of (by decide +kernel), by decide +kernel⟩

/-- R82, R168: a press is judged by the gate as it stands. An OFFLINE gate whose return waits is quiesced,
with the position of the return; a LOWERING one whose arrival waits is refused. -/
theorem test_press_judges_gate_as_it_stands :
    let a := base.setStation 2 (stationIn .active none)
    let back := (a.setGate 2 (gateIn .offline .up none none)).deliver
      [.gateStationReturn 2 { position := .between, blocked := false, lever := false }]
    let down := (a.setGate 2 (gateIn .lowering .between (some 1) none)).deliver
      [.gateReport 2 { position := .down, blocked := false, lever := false }]
    let t := after (.attentionButton 2) back
    let u := after (.attentionButton 2) down
    ((t.station 2).state = .quiescing ∧ (t.gate 2).state = .offline ∧ (t.gate 2).position = some .between ∧
      t.deliveries = base.deliveries) ∧
    (u.station 2).indicator = .blink ∧ (u.gate 2).state = .lowering ∧ u.deliveries = down.deliveries := by
  decide +kernel

/-- What StationsQuiesceAndRestart asks of a state. -/
def RecordsOk (s : State) : Prop := TablesOk s ∧ StationsOk s ∧ PlacementOk s ∧ ZonesOk s ∧ GatesOk s

theorem records_of {s : State} (ht : @decide _ (tablesDec s) = true) (hs : @decide _ (stationsDec s) = true)
    (hp : @decide _ (placementDec s) = true) (hz : @decide _ (zonesDec s) = true)
    (hg : @decide _ (gatesDec s) = true) : RecordsOk s :=
  ⟨tables ht, stations_of hs, @of_decide_eq_true _ (placementDec _) hp, zones_of hz, gates_of hg⟩

/-- An ACTIVE station of each type, the SIGN a target and the BEACON driven; the button on it, an OFF and a
FAULTED one, and both ends of a quiescing exchange. -/
theorem witness_StationsQuiesceAndRestart :
    let a (x : Nat) := base.setStation x (stationIn .active none)
    let sign := { a 10 with placement := { base.placement with
      up := base.placement.up.set 10 true, targets := base.placement.targets.set 8 (some 10) } }
    let m := (a 2).setGate 2 (gateIn .lowering .between (some 1) none)
    let q (n : Nat) := onLine (base.setStation 2 { stationIn .quiescing none with quiesceTries := n }) 2
      .quiesce .nothing
    let dark := onLine (base.setStation 24 (stationIn .quiescing none)) 24 .quiesce .darken
    let o := base.setStation 2 (stationIn .off none)
    let f := base.setStation 2 (stationIn .faulted (some .powerFault))
    (RecordsOk sign ∧ sign.target 8 = some 10) ∧
    (∀ x ∈ [2, 10, 14, 24], stationOk x = true ∧ ((a x).station x).state = .active ∧
      drivesMoving (a x) x = false) ∧
    (RecordsOk (a 2) ∧ RecordsOk (a 24) ∧ RecordsOk m ∧ RecordsOk o ∧ RecordsOk f) ∧
    drivesMoving m 2 = true ∧ (o.station 2).state = .off ∧ (f.station 2).state = .faulted ∧
    (RecordsOk (q 2) ∧ RecordsOk (q 1) ∧ RecordsOk dark) ∧
    (∀ n ∈ [1, 2], onBus (q n) 2 .quiesce = true ∧ ((q n).station 2).state = .quiescing ∧
      ((q n).station 2).quiesceTries = n) ∧
    (onBus dark 24 .quiesce = true ∧ (dark.station 24).state = .quiescing ∧ carrying dark = .darken ∧
      signOfBeacon dark.image 24 = some 8) ∧
    Accepted stationOffCommand (sent (a 2) 3 .stationOff [2]) 3 2 ∧
    Accepted stationOffCommand (sent m 3 .stationOff [2]) 3 2 ∧
    Accepted stationRestartCommand (sent f 3 .stationRestart [2]) 3 2 ∧
    Accepted stationRestartCommand (sent (a 2) 3 .stationRestart [2]) 3 2 :=
  ⟨⟨records_of (by decide +kernel) (by decide +kernel) (by decide +kernel) (by decide +kernel)
      (by decide +kernel),
      by decide +kernel⟩, by decide +kernel,
    ⟨records_of (by decide +kernel) (by decide +kernel) (by decide +kernel) (by decide +kernel)
      (by decide +kernel),
     records_of (by decide +kernel) (by decide +kernel) (by decide +kernel) (by decide +kernel)
      (by decide +kernel),
     records_of (by decide +kernel) (by decide +kernel) (by decide +kernel) (by decide +kernel)
      (by decide +kernel),
     records_of (by decide +kernel) (by decide +kernel) (by decide +kernel) (by decide +kernel)
      (by decide +kernel),
     records_of (by decide +kernel) (by decide +kernel) (by decide +kernel) (by decide +kernel)
      (by decide +kernel)⟩,
    by decide +kernel, by decide +kernel, by decide +kernel,
    ⟨records_of (by decide +kernel) (by decide +kernel) (by decide +kernel) (by decide +kernel)
      (by decide +kernel),
     records_of (by decide +kernel) (by decide +kernel) (by decide +kernel) (by decide +kernel)
      (by decide +kernel),
     records_of (by decide +kernel) (by decide +kernel) (by decide +kernel) (by decide +kernel)
      (by decide +kernel)⟩,
    by decide +kernel, by decide +kernel,
    accepted (by decide +kernel), accepted (by decide +kernel), accepted (by decide +kernel),
    accepted (by decide +kernel)⟩

/-- Two bytes at the end of the staging buffer, the last that fit; a commit of a buffer whose CRC-32 agrees
and of one whose does not, without a guard, and under a guard that holds and one that does not. -/
theorem witness_ImageIsStagedAndCommitted :
    let s (m : Memory) (body : List Byte) := waiting (staged m) 3 body
    let plain := bodyOf .imageCommit []
    let guard (revision : Nat) := guarded .imageCommit 0x44 revision []
    let asked (body : List Byte) : Prop :=
      TablesOk (s sealed body) ∧ BuffersOk (s sealed body) ∧ Ready (s sealed body) 3 .imageCommit body ∧
      Admitted (s sealed body) 3 .imageCommit ∧ bodyProbe body = false ∧ bodyHeaderOk body = true ∧
      bodyArgs body = []
    Accepted imageWriteCommand (sent base 3 .imageWrite [0x1F, 0xFE, 7, 8]) 3 (8190, [7, 8]) ∧
    (asked plain ∧ bodyGuard plain = none) ∧
    (asked (guard 0) ∧ ∃ g, bodyGuard (guard 0) = some g ∧ g.segment < 12 ∧ g.stateForm = false ∧
      g.holds (s sealed (guard 0)) = true) ∧
    (asked (guard 9) ∧ ∃ g, bodyGuard (guard 9) = some g ∧ g.segment < 12 ∧ g.stateForm = false ∧
      g.holds (s sealed (guard 9)) = false) ∧
    crcOk (s sealed plain).loader.staging = true ∧ crcOk (s unsealed plain).loader.staging = false ∧
    (s sealed plain).loader.writing = false := by
  refine ⟨accepted (by decide +kernel), ⟨⟨?_, ?_, ?_⟩, rfl⟩, ⟨⟨?_, ?_, ?_⟩, _, rfl, ?_⟩,
    ⟨⟨?_, ?_, ?_⟩, _, rfl, ?_⟩, crcOk_sealed, crcOk_unsealed, rfl⟩ <;>
  first
    | exact tables (by decide +kernel)
    | exact @of_decide_eq_true _ (buffersDec _) (by decide +kernel)
    | (unfold Ready Admitted; decide +kernel)
    | decide +kernel

/-! ### Invariants -/

/-- A step from the part after start-up: its one delivery is taken. -/
theorem witness_steps : ∃ t, step base = .next t ∧ TablesOk base ∧ BuffersOk base ∧ PortsOk base ∧
    AuthorityOk base ∧
    SegmentsOk base ∧ GatesOk base ∧ ZonesOk base ∧ WeatherOk base ∧ EvaluatorOk base ∧
    StacksOk base ∧ CountsOk base ∧ LibraryOk base ∧ PlacementOk base ∧ StationsOk base :=
  ⟨_, rfl, base_tables, base_buffers, base_ports, base_authority, base_segments, base_gates, base_zones, base_weather,
    base_evaluator, base_stacks, base_counts, base_library, base_placement, base_stations⟩

/-- A step with a hold of a LINKED port's source. -/
theorem witness_held_step : ∃ t, step held4 = .next t ∧ TablesOk held4 ∧ AuthorityOk held4 ∧
    held4.hold 4 = rocHold :=
  ⟨_, rfl, tables (by decide +kernel), @of_decide_eq_true _ (authorityDec _) (by decide +kernel),
    by decide +kernel⟩

theorem witness_RevisionCountsChanges :
    TablesOk base ∧ SegmentsOk base ∧ Instr.detectorEvent 11 9 ≠ .startUp ∧
    (∃ t, exec (.detectorEvent 11 9) base = .next t) ∧
    ((after (.detectorEvent 11 9) base).seg 11).state ≠ (base.seg 11).state :=
  ⟨base_tables, base_segments, by decide, ⟨_, rfl⟩, by decide +kernel⟩

/-- A zone in WORK over a CLOSED and locked segment, the expiry of its permit, and a clearance given before
the permit and taken after it, which leaves the lock. -/
theorem witness_WorkZonesKeepSegmentsShut :
    let s := (base.setSeg 4 { claimed .closed with zoneLock := true }).setZone 4
      { base.zone 4 with state := .work, permit := some 0 }
    TablesOk s ∧ WorkIsShut s ∧ (∃ t, exec (.permitExpiry 4) s = .next t) ∧
    (s.zone 4).state = .work ∧ ((after (.zoneClearanceEvent 4 0 true) s).seg 4).zoneLock = true :=
  ⟨tables (by decide +kernel), @of_decide_eq_true _ (workIsShutDec _) (by decide +kernel),
    ⟨_, rfl⟩, by decide +kernel, by decide +kernel⟩

end Sys2Proof.Tests
end

/-! PROOF. The agent's commands as one family: the instruction of each kind, the command it takes from
its port, and what the link-state check of R27 lets through and refuses. -/

namespace Sys2Proof.Machine

open Sys2Proof

variable {α : Type}

/-! ## Instructions, kinds and commands -/

/-- The instruction by which an agent's command of a kind is taken on a port. -/
def agentInstr : CmdKind → Nat → Instr
  | .presence => .presence
  | .status => .status
  | .subscribe => .subscribe
  | .portClear => .portClear
  | .setTime => .setTime
  | .hold => .hold
  | .unhold => .unhold
  | .claim => .claim
  | .release => .release
  | .forceRelease => .forceRelease
  | .restartConfirm => .restartConfirm
  | .gateFaultClear => .gateFaultClear
  | .setLevel => .setLevel
  | .beginSweep => .beginSweep
  | .zoneClear => .zoneClear
  | .permitRequest => .permitRequest
  | .permitEnd => .permitEnd
  | .post => .post
  | .withdraw => .withdraw
  | .withdrawAll => .withdrawAll
  | .remap => .remap
  | .cursor => .cursor
  | .writeText => .writeText
  | .libraryClear => .libraryClear
  | .reading => .reading
  | .forceChannel => .forceChannel
  | .unforce => .unforce
  | .stationOff => .stationOff
  | .stationRestart => .stationRestart
  | .imageWrite => .imageWrite
  | .imageCommit => .imageCommit

/-- What the blocks give the authority unit for each kind, with the type of its arguments. -/
def commandOf : CmdKind → Σ α : Type, Command α
  | .presence => ⟨_, presenceCommand⟩
  | .status => ⟨_, statusCommand⟩
  | .subscribe => ⟨_, subscribeCommand⟩
  | .portClear => ⟨_, portClearCommand⟩
  | .setTime => ⟨_, setTimeCommand⟩
  | .hold => ⟨_, holdCommand⟩
  | .unhold => ⟨_, unholdCommand⟩
  | .claim => ⟨_, claimCommand⟩
  | .release => ⟨_, releaseCommand⟩
  | .forceRelease => ⟨_, forceReleaseCommand⟩
  | .restartConfirm => ⟨_, restartConfirmCommand⟩
  | .gateFaultClear => ⟨_, gateFaultClearCommand⟩
  | .setLevel => ⟨_, setLevelCommand⟩
  | .beginSweep => ⟨_, beginSweepCommand⟩
  | .zoneClear => ⟨_, zoneClearCommand⟩
  | .permitRequest => ⟨_, permitRequestCommand⟩
  | .permitEnd => ⟨_, permitEndCommand⟩
  | .post => ⟨_, postCommand⟩
  | .withdraw => ⟨_, withdrawCommand⟩
  | .withdrawAll => ⟨_, withdrawAllCommand⟩
  | .remap => ⟨_, remapCommand⟩
  | .cursor => ⟨_, cursorCommand⟩
  | .writeText => ⟨_, writeTextCommand⟩
  | .libraryClear => ⟨_, libraryClearCommand⟩
  | .reading => ⟨_, readingCommand⟩
  | .forceChannel => ⟨_, forceChannelCommand⟩
  | .unforce => ⟨_, unforceCommand⟩
  | .stationOff => ⟨_, stationOffCommand⟩
  | .stationRestart => ⟨_, stationRestartCommand⟩
  | .imageWrite => ⟨_, imageWriteCommand⟩
  | .imageCommit => ⟨_, imageCommitCommand⟩

@[simp] theorem commandOf_kind (k : CmdKind) : (commandOf k).2.kind = k := by
  cases k <;> rfl

/-- No other instruction takes a command of the kind. -/
theorem eq_agentInstr {c : Instr} {p : Nat} {k : CmdKind} (h : agentCommand c = some (p, k)) :
    c = agentInstr k p := by
  cases c <;> cases h <;> rfl

/-- Every agent's command goes through the one operation of R174, on a port the part has. -/
theorem exec_agentInstr (k : CmdKind) (p : Nat) (s : State) :
    exec (agentInstr k p) s = onObject (portOk p) (takeCommand (commandOf k).2 p s) := by
  cases k <;> rfl

/-- On its port an agent's command ends in the state after its taking. -/
theorem exec_agentCommand {c : Instr} {p : Nat} {k : CmdKind} (s : State)
    (h : agentCommand c = some (p, k)) (hp : portOk p = true) :
    exec c s = .next (takeCommand (commandOf k).2 p s) := by
  rw [eq_agentInstr h, exec_agentInstr, hp, onObject_true]

/-! ## The link-state check (R27) -/

/-- The four kinds that the link-state check lets through on every port. -/
def LinkExempt (k : CmdKind) : Prop :=
  k = .presence ∨ k = .status ∨ k = .subscribe ∨ k = .portClear

theorem linkOk_iff (s : State) (p : Nat) (k : CmdKind) :
    linkOk s p k = true ↔ LinkExempt k ∨ (s.portLink p).state = .linked := by
  simp [linkOk, LinkExempt, or_assoc]

theorem bindingOk_of_bound {s : State} {p : Nat} (k : CmdKind) (h : (s.sourceOf p).isSome = true) :
    bindingOk s p k = true := by simp [bindingOk, h]

/-- Every source may send the exempt commands (R22). -/
theorem LinkExempt.authorized {k : CmdKind} (h : LinkExempt k) (src : AgentSource) (key : Bool) :
    authorized k src key = true := by
  rcases h with rfl | rfl | rfl | rfl <;> rfl

/-- On a bound port an exempt command passes the checks of binding, link and authority. -/
theorem LinkExempt.admitted {s : State} {p : Nat} {k : CmdKind} (h : LinkExempt k)
    (hb : (s.sourceOf p).isSome = true) : Admitted s p k :=
  ⟨bindingOk_of_bound k hb, (linkOk_iff s p k).2 (.inl h), .inr (h.authorized _ _)⟩

/-- A command that passes the binding check and fails the link-state check is refused with STATE, and
nothing else changes. -/
theorem takeCommand_unlinked {c : Command α} {s : State} {p : Nat} {body : List Byte}
    (hr : Ready s p c.kind body) (hb : bindingOk s p c.kind = true)
    (hl : linkOk s p c.kind = false) : takeCommand c p s = answered s p c.kind .state [] := by
  have hb' : bindingOk (popFrame s p) p c.kind = true := hb
  have hl' : linkOk (popFrame s p) p c.kind = false := hl
  have hj : judge c (popFrame s p) p body = refuse (popFrame s p) .state := by
    simp [judge, hb', hl']
  rw [takeCommand_ready hr, hj, answer_refuse]

/-! ## What an admitted command is answered -/

/-- Past the link-state check a command is refused with another code than STATE, or its own object
conditions and action decide. -/
theorem judge_admitted_cases {c : Command α} {s : State} {p : Nat} (h : Admitted s p c.kind)
    (body : List Byte) :
    ((judge c s p body).code ≠ .state ∧ (judge c s p body).state = s) ∨
      ∃ a, judge c s p body = c.run s p a := by
  rw [judge_admitted h]
  cases checkedArgs c s body with
  | none => exact .inl ⟨by simp [refuse], rfl⟩
  | some a =>
    dsimp only
    split
    · exact .inl ⟨by simp, rfl⟩
    · split
      · exact .inl ⟨by simp [refuse], rfl⟩
      · exact .inr ⟨a, rfl⟩

/-- The port table keeps its size, and the replies owed on a port stand. -/
def KeepsOwed (p : Nat) (s t : State) : Prop :=
  t.ports.length = s.ports.length ∧ (p < s.ports.length → (t.port p).owed = (s.port p).owed)

theorem keepsOwed_of_ports_eq {p : Nat} {s t : State} (h : t.ports = s.ports) : KeepsOwed p s t :=
  ⟨by rw [h], fun _ => by rw [State.port, h, State.port]⟩

theorem keepsOwed_setPort {s : State} {p : Nat} {q : Port} (h : q.owed = (s.port p).owed) :
    KeepsOwed p s (s.setPort p q) :=
  ⟨by simp, fun hp => by rw [State.setPort_port_self s p q hp, h]⟩

@[simp] theorem Port.pushNotice_owed (q : Port) (n : Notice) : (q.pushNotice n).owed = q.owed := by
  unfold Port.pushNotice
  split <;> rfl

/-- Notices have a queue of their own. -/
theorem keepsOwed_notifyBut (p : Nat) (s : State) (e : Option Nat) (i : Nat) (b : NoticeBody) :
    KeepsOwed p s (s.notifyBut e i b) := by
  refine ⟨by simp, fun hp => ?_⟩
  simp only [State.port, State.notifyBut_ports, List.getD, List.getElem?_mapIdx]
  rw [List.getElem?_eq_getElem hp]
  simp only [Option.map_some, Option.getD_some]
  split
  · exact Port.pushNotice_owed ..
  · rfl

theorem KeepsOwed.trans {p : Nat} {s t u : State} (h : KeepsOwed p s t) (k : KeepsOwed p t u) :
    KeepsOwed p s u := by
  obtain ⟨hlen, howed⟩ := h
  obtain ⟨klen, kowed⟩ := k
  exact ⟨klen.trans hlen, fun hp => (kowed (hlen ▸ hp)).trans (howed hp)⟩

theorem owe_port_self {s : State} {p : Nat} (r : Reply) (hp : p < s.ports.length) :
    ((s.owe p r).port p).owed = (s.port p).owed ++ [r] := by
  rw [State.owe, State.setPort_port_self s p _ hp]

theorem keepsOwed_popFrame (s : State) (p : Nat) : KeepsOwed p s (popFrame s p) :=
  keepsOwed_setPort rfl

/-- An action that never answers STATE and leaves the replies owed on its port. -/
def Command.LinkFree (c : Command α) : Prop :=
  ∀ s p a, (c.run s p a).code ≠ .state ∧ KeepsOwed p s (c.run s p a).state

/-- The answer to a taken command is one more reply, with the code of the verdict. -/
theorem answer_owed {k : CmdKind} {s : State} {p : Nat} {body : List Byte} {v : Verdict}
    (hp : p < s.ports.length) (hv : KeepsOwed p s v.state) :
    ∃ r, ((answer k s p body v).port p).owed = (s.port p).owed ++ [r] ∧ r.code = v.code := by
  obtain ⟨hlen, howed⟩ := hv
  unfold answer
  split
  · exact ⟨_, owe_port_self _ hp, rfl⟩
  · exact ⟨_, by rw [owe_port_self _ (hlen.symm ▸ hp), howed hp], rfl⟩

/-- An admitted command whose action never answers STATE is answered by another code. -/
theorem takeCommand_linkFree {c : Command α} {s : State} {p : Nat} {body : List Byte}
    (hc : c.LinkFree) (hr : Ready s p c.kind body) (had : Admitted s p c.kind)
    (hp : p < s.ports.length) :
    ∃ r, ((takeCommand c p s).port p).owed = (s.port p).owed ++ [r] ∧ r.code ≠ .state := by
  obtain ⟨hlen, howed⟩ := keepsOwed_popFrame s p
  have hj : (judge c (popFrame s p) p body).code ≠ .state ∧
      KeepsOwed p (popFrame s p) (judge c (popFrame s p) p body).state := by
    rcases judge_admitted_cases (s := popFrame s p) had body with ⟨hcode, hs⟩ | ⟨a, ha⟩
    · exact ⟨hcode, keepsOwed_of_ports_eq (by rw [hs])⟩
    · rw [ha]; exact hc _ p a
  obtain ⟨hne, hkeeps⟩ := hj
  obtain ⟨r, hreply, hcode⟩ := answer_owed (k := c.kind) (body := body) (hlen.symm ▸ hp) hkeeps
  exact ⟨r, by rw [takeCommand_ready hr, hreply, howed hp], hcode ▸ hne⟩

end Sys2Proof.Machine

/-! PROOF. The link-state check of an unlinked port and its four exemptions (R27). -/

namespace Sys2Proof

open Sys2Proof.Machine

/-! ## The actions of the exempt commands -/

/-- PRESENCE is refused with EARLY at most; on an unlinked port it is a notice and a new link (R25). -/
theorem linkFree_presenceCommand : presenceCommand.LinkFree := by
  intro s p a
  have hset : KeepsOwed p s (s.setLink p (linkedNow s p)) := keepsOwed_of_ports_eq rfl
  simp only [presenceCommand, runPresence]
  split
  · split
    · exact ⟨by simp [refuse], keepsOwed_of_ports_eq rfl⟩
    · exact ⟨by simp, hset⟩
  · exact ⟨by simp, hset.trans (keepsOwed_notifyBut ..)⟩

theorem linkFree_statusCommand : statusCommand.LinkFree :=
  fun _ _ _ => ⟨by simp [statusCommand, runStatus], keepsOwed_of_ports_eq rfl⟩

theorem linkFree_subscribeCommand : subscribeCommand.LinkFree :=
  fun _ _ _ => ⟨by simp [subscribeCommand, runSubscribe], keepsOwed_setPort rfl⟩

theorem linkFree_portClearCommand : portClearCommand.LinkFree :=
  fun _ _ _ => ⟨by simp [portClearCommand, runPortClear], keepsOwed_setPort rfl⟩

theorem linkFree_of_linkExempt {k : CmdKind} (h : LinkExempt k) : (commandOf k).2.LinkFree := by
  rcases h with rfl | rfl | rfl | rfl
  · exact linkFree_presenceCommand
  · exact linkFree_statusCommand
  · exact linkFree_subscribeCommand
  · exact linkFree_portClearCommand

/-! ## PRESENCE on an unlinked port -/

/-- The port a presence arrives on is bound, so the presence makes it LINKED. -/
theorem linkedNow_state {s : State} {p : Nat} (h : (s.sourceOf p).isSome = true) :
    (linkedNow s p).state = .linked := by
  obtain ⟨b, hb⟩ : ∃ b, imagePort s.image p = some b := by
    simpa [State.sourceOf, Option.isSome_iff_exists] using h
  simp [linkedNow, hb]

/-- A PORT notice tells of a link and leaves it. -/
theorem portNotice_portLink (s : State) (p q : Nat) (cause : PortCause) :
    (portNotice s p cause).portLink q = s.portLink q := rfl

theorem runPresence_links {s : State} {p : Nat} (a : Unit) (hb : (s.sourceOf p).isSome = true)
    (hl : (s.portLink p).state ≠ .linked) (hp : p < s.auth.links.length) :
    ((runPresence s p a).state.portLink p).state = .linked := by
  have hrun : (runPresence s p a).state = portNotice (s.setLink p (linkedNow s p)) p .presence := by
    simp [runPresence, hl]
  rw [hrun, portNotice_portLink, State.setLink_portLink_self s p _ hp, linkedNow_state hb]

theorem portFree_presenceCommand : presenceCommand.PortFree := fun _ _ => ⟨rfl, rfl, rfl⟩

/-- An accepted presence leaves its unlinked port LINKED. -/
theorem takeCommand_presence_links {s : State} {p : Nat} (h : Accepted presenceCommand s p ())
    (hb : (s.sourceOf p).isSome = true) (hl : (s.portLink p).state ≠ .linked)
    (hp : p < s.auth.links.length) :
    ((takeCommand presenceCommand p s).portLink p).state = .linked := by
  rw [takeCommand_accepted portFree_presenceCommand h]
  exact runPresence_links (s := popFrame s p) () hb hl hp

/-! ## The statement -/

/-- Settles O4, by the one operation every agent command goes through: the link-state check stands
between the binding check and all others, so it decides for every kind but the exempt, and the actions
of the exempt never answer STATE themselves. -/
theorem linkCheckRefusesOnUnlinkedPort : Obligations.LinkCheckRefusesOnUnlinkedPort := by
  intro c p k s body hc hr ht hb hl
  obtain ⟨-, hlinks, -, hports, -⟩ := ht
  have hp4 : p < 4 := by simpa [portOk] using hr.1
  have hexec := exec_agentCommand s hc hr.1
  have hr' : Ready s p (commandOf k).2.kind body := by simpa using hr
  refine ⟨fun hpresence hstatus hsubscribe hclear => ?_, fun hx => ?_, ?_⟩
  · have hno : linkOk s p k = false := by
      simp [← Bool.not_eq_true, linkOk_iff, LinkExempt, *]
    rw [hexec, takeCommand_unlinked hr' (bindingOk_of_bound _ hb) (by simpa using hno),
      commandOf_kind]
  · have hadm : Admitted s p (commandOf k).2.kind := by
      simpa using LinkExempt.admitted hx hb
    obtain ⟨r, howed, hcode⟩ :=
      takeCommand_linkFree (linkFree_of_linkExempt hx) hr' hadm (by omega)
    exact ⟨_, r, hexec, howed, hcode⟩
  · rintro rfl hacc
    exact ⟨_, hexec, takeCommand_presence_links hacc hb hl (by omega)⟩

end Sys2Proof

/-! PROOF. The channels of the weather unit: what one event at a channel leaves and tells (R113, R116),
what an expired stale timer and a good sample make of a channel, and how the two meet (R114). -/

namespace Sys2Proof.Machine

open Sys2Proof

/-! ## Fitted channels of an accepted image (R108) -/

theorem imageChannel_fixed {img : Image} {c : Nat} {e : ChannelEntry} (h : imageChannel img c = some e) :
    imageFixed img c = e ∧ e.place.isSome = true := by
  unfold imageChannel at h
  split at h
  · next hp => cases h; exact ⟨rfl, hp⟩
  · cases h

/-- Behind the end of the channel table nothing is fitted. -/
theorem imageChannel_mem {img : Image} {c : Nat} {e : ChannelEntry} (h : imageChannel img c = some e) :
    c < img.channels.length ∧ e ∈ img.channels := by
  obtain ⟨rfl, hplace⟩ := imageChannel_fixed h
  rcases lt_or_ge c img.channels.length with hc | hc
  · exact ⟨hc, by simp [imageFixed, List.getD, hc]⟩
  · have hnone : imageFixed img c = default := by simp [imageFixed, List.getD, hc]
    rw [hnone] at hplace
    cases hplace

theorem imageAccepted_channels {img : Image} (h : imageAccepted img = true) :
    img.channels.length = 24 ∧ channelsOk img = true := by
  simp only [imageAccepted, sizesOk, Bool.and_eq_true, beq_iff_eq] at h
  tauto

theorem imageChannel_lt {img : Image} {c : Nat} {e : ChannelEntry} (ha : imageAccepted img = true)
    (h : imageChannel img c = some e) : c < 24 :=
  (imageAccepted_channels ha).1 ▸ (imageChannel_mem h).1

/-- What the tables of a state hold for a fitted channel. -/
theorem TablesOk.fittedChannel {s : State} {c : Nat} {e : ChannelEntry} (ht : TablesOk s)
    (he : imageChannel s.image c = some e) :
    c < 24 ∧ s.weather.channels.length = 24 ∧ s.ports.length = 4 := by
  obtain ⟨haccepted, -, -, hports, -, -, -, -, -, -, hchannels, -⟩ := ht
  exact ⟨imageChannel_lt haccepted he, hchannels, hports⟩

/-- The check of R108 on a fitted channel of an accepted image. -/
theorem imageChannel_entryOk {img : Image} {c : Nat} {e : ChannelEntry} (ha : imageAccepted img = true)
    (h : imageChannel img c = some e) : channelEntryOk e = true := by
  have hall := (imageAccepted_channels ha).2
  simp only [channelsOk, Bool.and_eq_true, List.all_eq_true, Bool.or_eq_true] at hall
  obtain ⟨⟨hentries, -⟩, -⟩ := hall
  have hplace := (imageChannel_fixed h).2
  exact (hentries e (imageChannel_mem h).2).resolve_left (by simpa [Option.isSome_iff_ne_none] using hplace)

theorem staleLimit_ge {e : ChannelEntry} (h : channelEntryOk e = true) : 30 ≤ e.staleLimit := by
  simp only [channelEntryOk, within, Bool.and_eq_true, decide_eq_true_eq] at h
  tauto

/-! ## One event at a channel (R113, R116) -/

section
variable (s : State) (c : Nat) (e : ChannelEntry) (new : Channel) (cause : ChannelCause)

/-- Whatever an event at a channel tells, its record is what it writes. -/
theorem channelEvent_weather :
    (channelEvent s c e new cause).weather = (s.setChannel c new).weather := by
  unfold channelEvent
  dsimp only
  split <;> split <;> rfl

theorem channelEvent_channel_self (hc : c < s.weather.channels.length) :
    (channelEvent s c e new cause).channel c = new := by
  rw [State.channel, channelEvent_weather]
  exact s.setChannel_channel_self c new hc

theorem channelEvent_channel_ne (k : Nat) (ne : k ≠ c) :
    (channelEvent s c e new cause).channel k = s.channel k := by
  rw [State.channel, channelEvent_weather]
  exact s.setChannel_channel_ne c k new ne

/-- An event at a channel leaves the image in effect. -/
theorem channelEvent_image : (channelEvent s c e new cause).image = s.image := by
  have hloader : (channelEvent s c e new cause).loader = s.loader :=
    changesOnly_channelEvent s c e new cause .loader (by simp)
  rw [State.image, State.image, hloader]

/-- An event at a channel sends its CHANNEL notice for a change of status or a forcing. -/
theorem channelEvent_ports :
    (channelEvent s c e new cause).ports =
      if (s.channel c).status ≠ new.status ∨ cause = .forced then
        (s.notify c (.channel new.status cause (some (effectiveOf e new)))).ports
      else s.ports := by
  unfold channelEvent
  dsimp only
  simp only [Bool.or_eq_true, bne_iff_ne, beq_iff_eq]
  split <;> split <;> rfl

theorem channelEvent_ports_length : (channelEvent s c e new cause).ports.length = s.ports.length := by
  rw [channelEvent_ports]
  split <;> simp

end

/-! ## The notice of an event at a channel (R177) -/

theorem oneNotice_notify {s t : State} {i : Nat} {b : NoticeBody} (hp : s.ports.length = 4)
    (h : t.ports = (s.notify i b).ports) : OneNotice none i b s t := by
  intro q hq
  have hport : t.port q = (s.notify i b).port q := by rw [State.port, h, State.port]
  rw [hport, notify_port (by omega)]
  simp

theorem noNotice_of_ports_eq {s t : State} (h : t.ports = s.ports) : NoNotice s t := by
  intro q _
  simp [State.port, h]

theorem noticeIf_channelEvent {s : State} (c : Nat) (e : ChannelEntry) (new : Channel)
    (cause : ChannelCause) (hp : s.ports.length = 4) :
    NoticeIf ((s.channel c).status ≠ new.status ∨ cause = .forced) c
      (.channel new.status cause (some (effectiveOf e new))) s (channelEvent s c e new cause) :=
  ⟨fun h => oneNotice_notify hp (by rw [channelEvent_ports, if_pos h]),
    fun h => noNotice_of_ports_eq (by rw [channelEvent_ports, if_neg h])⟩

/-! ## An expired stale timer (R114) -/

theorem exec_staleLimit {s : State} {c : Nat} {e : ChannelEntry} (hc : c < 24)
    (he : imageChannel s.image c = some e) :
    exec (.staleLimit c) s = .next (if (s.channel c).stale = some 0 then
      channelEvent s c e (staleNow (s.channel c)) .staleLimit else s) := by
  have harm : exec (.staleLimit c) s = execStaleLimit c s := rfl
  simp [harm, execStaleLimit, he, channelOk, hc, due]

/-- An expired timer changes the status of a FRESH and of an IMPLAUSIBLE channel only. -/
theorem status_ne_staleNow (r : Channel) :
    r.status ≠ (staleNow r).status ↔ r.status = .fresh ∨ r.status = .implausible := by
  cases h : r.status <;> simp [staleNow, h]

/-- A channel that is not FORCED is left STALE, so its next good sample changes its status. -/
theorem staleNow_status {r : Channel} (h : r.status ≠ .forced) : (staleNow r).status = .stale := by
  simp [staleNow, h]

/-! ## A good sample (R113) -/

/-- What a good sample makes of a channel. -/
def goodRecord (s : State) (c : Nat) (e : ChannelEntry) (code : RawCode) : Channel :=
  goodSample s e (calibrate e code.toNat)
    { s.channel c with lastSample := some (calibrate e code.toNat, code.toNat) }

section
variable {s : State} {c : Nat} {e : ChannelEntry} {code : RawCode}

theorem sampleAt_good (h : plausible e (calibrate e code.toNat) = true) :
    sampleAt s c e code = channelEvent s c e (goodRecord s c e code) .goodSample := by
  simp [sampleAt, h, goodRecord]

theorem goodRecord_stale : (goodRecord s c e code).stale = some e.staleLimit := rfl

theorem goodRecord_status (h : (s.channel c).status ≠ .forced) :
    (goodRecord s c e code).status = .fresh := by
  simp [goodRecord, goodSample, h]

/-- A FRESH channel shows the good value it has just taken (R115). -/
theorem effectiveOf_goodRecord (h : (s.channel c).status ≠ .forced) :
    effectiveOf e (goodRecord s c e code) = calibrate e code.toNat := by
  rw [effectiveOf, goodRecord_status h]
  rfl

/-- A good sample leaves a channel that is not FORCED FRESH, with its stale timer afresh. -/
theorem sampleAt_good_channel (h : plausible e (calibrate e code.toNat) = true)
    (hc : c < s.weather.channels.length) (hs : (s.channel c).status ≠ .forced) :
    ((sampleAt s c e code).channel c).status = .fresh ∧
      ((sampleAt s c e code).channel c).stale = some e.staleLimit := by
  rw [sampleAt_good h, channelEvent_channel_self _ _ _ _ _ hc]
  exact ⟨goodRecord_status hs, goodRecord_stale⟩

/-- A good sample of a STALE channel is told. -/
theorem oneNotice_sampleAt_stale (h : plausible e (calibrate e code.toNat) = true)
    (hp : s.ports.length = 4) (hs : (s.channel c).status = .stale) :
    OneNotice none c (.channel .fresh .goodSample (some (calibrate e code.toNat))) s
      (sampleAt s c e code) := by
  have hfree : (s.channel c).status ≠ .forced := by simp [hs]
  have hnotice := (noticeIf_channelEvent c e (goodRecord s c e code) .goodSample hp).1
    (.inl (by simp [hs, goodRecord_status hfree]))
  rwa [goodRecord_status hfree, effectiveOf_goodRecord hfree, ← sampleAt_good h] at hnotice

end

end Sys2Proof.Machine

/-! PROOF. The stale limit and its meeting with a good sample (R114). -/

namespace Sys2Proof

open Sys2Proof.Machine

section
variable {s : State} {c : Nat} {e : ChannelEntry}

/-- What the expiry of a stale timer leaves and tells. -/
theorem exec_staleLimit_expired (ht : TablesOk s) (he : imageChannel s.image c = some e)
    (h : (s.channel c).stale = some 0) :
    ∃ t, exec (.staleLimit c) s = .next t ∧ t.channel c = staleNow (s.channel c) ∧
      (∀ k, k ≠ c → t.channel k = s.channel k) ∧
      NoticeIf ((s.channel c).status = .fresh ∨ (s.channel c).status = .implausible) c
        (.channel .stale .staleLimit (some (effectiveOf e (t.channel c)))) s t ∧
      ChangesOnly [.ports, .weather, .deliveries] s t := by
  obtain ⟨hc, hchannels, hports⟩ := ht.fittedChannel he
  have hchannel := channelEvent_channel_self s c e (staleNow (s.channel c)) .staleLimit (by omega)
  have hnotice := noticeIf_channelEvent c e (staleNow (s.channel c)) .staleLimit hports
  refine ⟨_, by rw [exec_staleLimit hc he, if_pos h], hchannel, channelEvent_channel_ne _ _ _ _ _,
    ⟨fun hs => ?_, fun hs => hnotice.2 ?_⟩, changesOnly_channelEvent _ _ _ _ _⟩
  · have hfree : (s.channel c).status ≠ .forced := by rcases hs with hs | hs <;> simp [hs]
    have htold := hnotice.1 (.inl ((status_ne_staleNow _).2 hs))
    rwa [hchannel, ← staleNow_status hfree]
  · simpa [← status_ne_staleNow] using hs

/-- After a good sample the stale timer runs, and its limit does nothing. -/
theorem exec_staleLimit_sampled (ht : TablesOk s) (he : imageChannel s.image c = some e) {code : RawCode}
    (hg : plausible e (calibrate e code.toNat) = true) (hs : (s.channel c).status ≠ .forced) :
    exec (.staleLimit c) (sampleAt s c e code) = .next (sampleAt s c e code) := by
  obtain ⟨hc, hchannels, -⟩ := ht.fittedChannel he
  have himage : (sampleAt s c e code).image = s.image := by rw [sampleAt_good hg, channelEvent_image]
  have hlimit : 30 ≤ e.staleLimit := staleLimit_ge (imageChannel_entryOk ht.1 he)
  have hruns : ((sampleAt s c e code).channel c).stale ≠ some 0 := by
    rw [(sampleAt_good_channel hg (by omega) hs).2, ne_eq, Option.some_inj]
    omega
  rw [exec_staleLimit hc (himage.symm ▸ he), if_neg hruns]

/-- What a good sample taken after the stale limit finds: a channel that is not FORCED, and is STALE where
the limit was due. -/
theorem exec_staleLimit_leaves {t : State} (ht : TablesOk s) (he : imageChannel s.image c = some e)
    (hs : (s.channel c).status ≠ .forced) (h : exec (.staleLimit c) s = .next t) :
    t.weather.channels.length = 24 ∧ t.ports.length = 4 ∧ (t.channel c).status ≠ .forced ∧
      ((s.channel c).stale = some 0 → (t.channel c).status = .stale) := by
  obtain ⟨hc, hchannels, hports⟩ := ht.fittedChannel he
  rw [exec_staleLimit hc he] at h
  split at h
  · obtain rfl := Host.Outcome.next.inj h
    rw [channelEvent_weather, channelEvent_ports_length, channelEvent_channel_self _ _ _ _ _ (by omega),
      staleNow_status hs]
    simp [hports, hchannels]
  · next hrun =>
    obtain rfl := Host.Outcome.next.inj h
    exact ⟨hchannels, hports, hs, fun hdue => absurd hdue hrun⟩

end

/-- Settles O33: the event of an expired timer is the writing of one channel record with its notice. A
good sample taken first leaves the timer at a limit the image check holds at 30 or more, so the expiry is
not due; taken after, it finds the channel STALE and makes it FRESH. -/
theorem staleLimitLeavesChannelStale : Obligations.StaleLimitLeavesChannelStale := by
  intro s c e ht he
  refine ⟨fun hdue => ?_, fun code hg hs => ?_⟩
  · obtain ⟨t, hexec, hchannel, hrest⟩ := exec_staleLimit_expired ht he hdue
    exact ⟨t, hexec, by simp [hchannel, staleNow], hrest⟩
  · obtain ⟨hc, hchannels, -⟩ := ht.fittedChannel he
    obtain ⟨hfresh, hstale⟩ := sampleAt_good_channel hg (by omega) hs
    refine ⟨hstale, hfresh, exec_staleLimit_sampled ht he hg hs, fun t hexec => ?_⟩
    obtain ⟨hchannels', hports, hfree, hdue⟩ := exec_staleLimit_leaves ht he hs hexec
    obtain ⟨hfresh', hstale'⟩ := sampleAt_good_channel hg (by omega) hfree
    exact ⟨hfresh', hstale', fun h => oneNotice_sampleAt_stale hg hports (hdue h)⟩

end Sys2Proof

/-! PROOF. The condition evaluator: the stages of the risk score with their ranges (R127, R128), and what
one evaluation event leaves in the evaluation records (R125). -/

namespace Sys2Proof.Machine

open Sys2Proof

/-! ## The cold term A (R127) -/

theorem coldTerm_nonneg (ts : Int) : 0 ≤ coldTerm ts := le_max_left _ _

theorem coldTerm_le (ts : Int) : coldTerm ts ≤ 360 := max_le (by decide) (min_le_right _ _)

theorem coldTerm_of_warm {ts : Int} (h : 30 ≤ ts) : coldTerm ts = 0 := by
  unfold coldTerm clampInt; omega

theorem coldTerm_of_frozen {ts : Int} (h : ts ≤ -30) : coldTerm ts = 360 := by
  unfold coldTerm clampInt; omega

/-- Between its two corners the cold term is its line, corners included. -/
theorem coldTerm_of_between {ts : Int} (hlow : -30 ≤ ts) (hhigh : ts ≤ 30) :
    coldTerm ts = 6 * (30 - ts) := by
  unfold coldTerm clampInt; omega

theorem coldTerm_eq_succ_add {ts : Int} (hlow : -30 ≤ ts) (hhigh : ts < 30) :
    coldTerm ts = coldTerm (ts + 1) + 6 := by
  rw [coldTerm_of_between hlow (by omega), coldTerm_of_between (by omega) (by omega)]
  omega

/-! ## The water term B (R128) -/

theorem waterTerm_of_rain {p : Int} (h : 0 < p) (f : Int) : waterTerm p f = min (2 * p) 300 := if_pos h

theorem waterTerm_of_dry {p : Int} (h : ¬ 0 < p) (f : Int) :
    waterTerm p f = max 0 (min (5 * (20 - f)) 150) := if_neg h

theorem waterTerm_nonneg (p f : Int) : 0 ≤ waterTerm p f := by
  by_cases h : 0 < p
  · rw [waterTerm_of_rain h]; omega
  · rw [waterTerm_of_dry h]; exact le_max_left _ _

/-- Rain never leaves the road dry, and its term saturates at 15.0 mm per hour. -/
theorem waterTerm_rain_range {p : Int} (h : 0 < p) (f : Int) :
    2 ≤ waterTerm p f ∧ (150 ≤ p ↔ waterTerm p f = 300) := by
  rw [waterTerm_of_rain h]; omega

/-- Condensation on a dry road: the two corners of its term. -/
theorem waterTerm_dry_range {p : Int} (h : ¬ 0 < p) (f : Int) :
    waterTerm p f ≤ 150 ∧ (20 ≤ f ↔ waterTerm p f = 0) ∧ (f ≤ -10 ↔ waterTerm p f = 150) := by
  rw [waterTerm_of_dry h]; omega

/-! ## The snow term C and the warm-road discount B′ (R128) -/

theorem snowTerm_eq_max_iff (sn : Int) : 267 ≤ sn ↔ snowTerm sn = 400 := by
  unfold snowTerm; omega

theorem snowTerm_nonneg {sn : Int} (h : 0 ≤ sn) : 0 ≤ snowTerm sn := by
  unfold snowTerm; omega

theorem discounted_nonneg (a : Int) {b : Int} (h : 0 ≤ b) : 0 ≤ discounted a b := by
  unfold discounted; split <;> omega

/-! ## The score R (R128) -/

/-- Every stage is at least 0, so their sum is; the last stage caps it. -/
theorem riskScore_range (ts : Int) (td : Option Int) (p : Int) {sn : Int} (h : 0 ≤ sn) :
    0 ≤ riskScore ts td p sn ∧ riskScore ts td p sn ≤ 1000 := by
  have hcold := coldTerm_nonneg ts
  have hwater := discounted_nonneg (coldTerm ts) (waterTerm_nonneg p (frostMargin ts td))
  have hsnow := snowTerm_nonneg h
  exact ⟨le_min (by omega) (by decide), min_le_right _ _⟩

/-! ## One segment's evaluation (R125) -/

/-- A role is read from the image in effect and the weather unit (R126). -/
theorem roleValue_congr {s t : State} (hl : t.loader = s.loader) (hw : t.weather = s.weather)
    (role : Option Nat) : roleValue t role = roleValue s role := by
  have heffective : effective t = effective s := by
    funext c
    rw [effective, effective, State.image, State.image, State.channel, State.channel, hl, hw]
  rw [roleValue, heffective, roleValue]

/-- Beside its inputs the evaluation of a segment reads only its own record (R125). -/
theorem evaluation_congr {s t : State} {i : Nat} (hl : t.loader = s.loader) (hw : t.weather = s.weather)
    (he : t.eval i = s.eval i) : evaluation t i = evaluation s i := by
  have himage : t.image = s.image := by rw [State.image, hl, State.image]
  simp only [evaluation, scoreOf, himage, roleValue_congr hl hw, he]

/-- The score stored for a segment whose Ts role is filled. -/
theorem evaluation_score {s : State} {i : Nat} {ts : Int}
    (h : roleValue s (imageSegment s.image i).ts = some ts) :
    (evaluation s i).score = (scoreOf s (imageSegment s.image i) ts).toNat := by
  simp [evaluation, h]

theorem changesOnly_classNotice (s : State) (i : Nat) (cause : SegCause) (old new : Nat) :
    ChangesOnly [.ports] s (classNotice s i cause old new) := by
  unfold classNotice
  split
  · exact changesOnly_refl _ _
  · exact changesOnly_notify _ _ _

/-- One segment's evaluation writes that segment's record and tells of it. -/
theorem changesOnly_evaluateSegment (r : State × List Instr) (i : Nat) :
    ChangesOnly [.ports] (r.1.setEval i (evaluation r.1 i)) (evaluateSegment r i).1 :=
  (changesOnly_classNotice _ _ _ _ _).trans (changesOnly_classNotice _ _ _ _ _)

section
variable (r : State × List Instr) (i : Nat)

@[simp] theorem evaluateSegment_loader : (evaluateSegment r i).1.loader = r.1.loader :=
  changesOnly_evaluateSegment r i .loader (by simp)

@[simp] theorem evaluateSegment_weather : (evaluateSegment r i).1.weather = r.1.weather :=
  changesOnly_evaluateSegment r i .weather (by simp)

theorem evaluateSegment_evaluator :
    (evaluateSegment r i).1.evaluator = (r.1.setEval i (evaluation r.1 i)).evaluator :=
  changesOnly_evaluateSegment r i .evaluator (by simp)

@[simp] theorem evaluateSegment_recs_length :
    (evaluateSegment r i).1.evaluator.recs.length = r.1.evaluator.recs.length := by
  simp [evaluateSegment_evaluator]

theorem evaluateSegment_eval_self (hi : i < r.1.evaluator.recs.length) :
    (evaluateSegment r i).1.eval i = evaluation r.1 i := by
  rw [State.eval, evaluateSegment_evaluator]
  exact r.1.setEval_eval_self i _ hi

theorem evaluateSegment_eval_ne {k : Nat} (h : k ≠ i) :
    (evaluateSegment r i).1.eval k = r.1.eval k := by
  rw [State.eval, evaluateSegment_evaluator]
  exact r.1.setEval_eval_ne i k _ h

end

/-! ## The evaluation event (R125) -/

/-- The segments touch different records, so each is evaluated from the state the event found. -/
theorem foldl_evaluateSegment_eval {l : List Nat} (hl : l.Nodup) {i : Nat} (r : State × List Instr)
    (hi : i < r.1.evaluator.recs.length) :
    (l.foldl evaluateSegment r).1.eval i = if i ∈ l then evaluation r.1 i else r.1.eval i := by
  induction l generalizing r with
  | nil => simp
  | cons k l ih =>
    obtain ⟨hk, hl⟩ := List.nodup_cons.1 hl
    rw [List.foldl_cons, ih hl _ (by simpa using hi)]
    by_cases h : i = k
    · subst h
      simp [hk, evaluateSegment_eval_self r i hi]
    · have hsame := evaluateSegment_eval_ne r k h
      simp [h, hsame, evaluation_congr (evaluateSegment_loader r k) (evaluateSegment_weather r k) hsame]

/-- Every segment's record after an evaluation event. -/
theorem evaluate_eval {s : State} {i : Nat} (hs : s.evaluator.recs.length = 12) (hi : i < 12) :
    (evaluate s).eval i = evaluation s i := by
  rw [evaluate, State.eval, State.deliver_evaluator, ← State.eval,
    foldl_evaluateSegment_eval List.nodup_range _ (by simpa [hs] using hi), if_pos (List.mem_range.2 hi)]
  exact evaluation_congr rfl rfl rfl

theorem exec_evaluationEvent_due {s : State} (h : s.evaluator.timer = 0) :
    exec .evaluationEvent s = .next (evaluate s) := by
  have harm : exec .evaluationEvent s = execEvaluationEvent s := rfl
  rw [harm, execEvaluationEvent, if_pos h]

end Sys2Proof.Machine

/-! PROOF. The stages of the risk score and its law (R127, R128). -/

namespace Sys2Proof

open Sys2Proof.Machine

/-- Settles O35, stage by stage: no stage is negative where no input of P and S is, and the last caps the
sum at 1000. The score is stored by the one evaluation of its segment, which no other segment's touches. -/
theorem riskScoreStages : Obligations.RiskScoreStages := by
  refine ⟨fun ts => ?cold, fun ts => ?margin, fun p f => ?water, fun sn => ?snow, rfl, fun _ _ => rfl,
    fun ts td p sn _ hsn => ⟨rfl, riskScore_range ts td p hsn⟩, fun s i ts ht hdue hi hts => ?stored⟩
  case cold =>
    exact ⟨rfl, coldTerm_nonneg ts, coldTerm_le ts, coldTerm_of_warm, coldTerm_of_frozen,
      coldTerm_eq_succ_add, fun _ _ => by omega⟩
  case margin =>
    refine ⟨rfl, fun td => ⟨rfl, fun _ _ _ _ => ?_⟩⟩
    rw [frostMargin]
    omega
  case water =>
    refine ⟨fun hp => ⟨waterTerm_of_rain hp f, waterTerm_rain_range hp f⟩, fun hp => ?_⟩
    have hdry : ¬ 0 < p := by omega
    exact ⟨waterTerm_of_dry hdry f, waterTerm_dry_range hdry f⟩
  case snow => exact ⟨rfl, snowTerm_eq_max_iff sn⟩
  case stored =>
    obtain ⟨-, -, -, -, -, -, -, -, -, -, -, hrecs, -⟩ := ht
    exact ⟨evaluate s, exec_evaluationEvent_due hdue,
      by rw [evaluate_eval hrecs hi, evaluation_score hts, scoreOf]⟩

end Sys2Proof

/-! PROOF. What an operation leaves unchanged, area by area: finer than the blocks of `ChangesOnly`, since it
tells a notice at a port from any other change there, the demands of the signs from their outputs, and a mark
for blanking from any other change at a station; and it says that the tables keep their sizes. -/

namespace Sys2Proof.Machine

set_option Elab.async false

open Sys2Proof

/-! ## Areas -/

/-- The areas of the state. `lines` is a port but for its notices, `stations` the station records but for
their marks for blanking with the start-up sequence, `tables` the image in effect with the tables' sizes. -/
inductive Area where
  | clock | auth | lines | notices | segments | gates | zones | weather | evaluator | demands | outputs
  | library | placement | stations | field | loader | deliveries | pending | tables
deriving DecidableEq

/-- What notices can make of a port: sixteen wait at most, and without a subscription none is placed. -/
structure PortTold (q r : Port) : Prop where
  assembly : r.assembly = q.assembly
  crcErrors : r.crcErrors = q.crcErrors
  intake : r.intake = q.intake
  owed : r.owed = q.owed
  subscription : r.subscription = q.subscription
  lastSent : r.lastSent = q.lastSent
  bounded : q.notices.length ≤ 16 → r.notices.length ≤ 16
  silent : q.subscription = 0 → r.notices = q.notices

theorem PortTold.refl (q : Port) : PortTold q q := ⟨rfl, rfl, rfl, rfl, rfl, rfl, id, fun _ => rfl⟩

theorem PortTold.trans {q r u : Port} (h : PortTold q r) (k : PortTold r u) : PortTold q u where
  assembly := k.assembly.trans h.assembly
  crcErrors := k.crcErrors.trans h.crcErrors
  intake := k.intake.trans h.intake
  owed := k.owed.trans h.owed
  subscription := k.subscription.trans h.subscription
  lastSent := k.lastSent.trans h.lastSent
  bounded := fun hq => k.bounded (h.bounded hq)
  silent := fun hq => (k.silent (h.subscription.trans hq)).trans (h.silent hq)

theorem portTold_pushNotice (q : Port) (n : Notice) (hq : q.subscription ≠ 0) :
    PortTold q (q.pushNotice n) := by
  unfold Port.pushNotice
  split
  · next h => exact ⟨rfl, rfl, rfl, rfl, rfl, rfl, fun _ => by simp; omega, fun h0 => absurd h0 hq⟩
  · next h => exact ⟨rfl, rfl, rfl, rfl, rfl, rfl, fun _ => by simp; omega, fun h0 => absurd h0 hq⟩

/-- A station record without its mark for blanking (R12). -/
def Station.unmarked (r : Station) : Station := { r with blankOwed := false }

/-- The sizes of the tables, in the order of `TablesOk`. -/
def tableSizes (s : State) : List Nat :=
  [s.auth.links.length, s.auth.holds.length, s.ports.length, s.segments.length, s.gates.recs.length,
   s.zones.zones.length, s.zones.lines.length, s.zones.shown.length, s.weather.heads.length,
   s.weather.channels.length, s.evaluator.recs.length, s.arbiter.demands.length,
   s.arbiter.outputs.length, s.library.slots.length, s.library.cursors.length,
   s.placement.primaries.length, s.placement.targets.length, s.placement.up.length,
   s.field.stations.length]

theorem tablesOk_iff (s : State) : TablesOk s ↔ imageAccepted s.image = true ∧
    tableSizes s = [4, 12, 4, 12, 8, 10, 24, 12, 8, 24, 12, 24, 24, 32, 4, 24, 24, 32, 32] := by
  simp [TablesOk, tableSizes]

/-- Two states agree on an area. -/
def Area.kept (a : Area) (s t : State) : Prop :=
  match a with
  | .clock => t.clock = s.clock
  | .auth => t.auth = s.auth
  | .lines => ∀ q, PortTold (s.port q) (t.port q)
  | .notices => ∀ q, (t.port q).notices = (s.port q).notices ∧
      (t.port q).overflowOwed = (s.port q).overflowOwed
  | .segments => t.segments = s.segments
  | .gates => t.gates = s.gates
  | .zones => t.zones = s.zones
  | .weather => t.weather = s.weather
  | .evaluator => t.evaluator = s.evaluator
  | .demands => t.arbiter.demands = s.arbiter.demands ∧ t.arbiter.arrival = s.arbiter.arrival
  | .outputs => t.arbiter.outputs = s.arbiter.outputs ∧ t.arbiter.elapsed = s.arbiter.elapsed
  | .library => t.library = s.library
  | .placement => t.placement = s.placement
  | .stations => t.field.startSeq = s.field.startSeq ∧
      t.field.stations.map Station.unmarked = s.field.stations.map Station.unmarked
  | .field => t.field = s.field
  | .loader => t.loader = s.loader
  | .deliveries => t.deliveries = s.deliveries
  | .pending => t.pending = s.pending
  | .tables => t.image = s.image ∧ tableSizes t = tableSizes s

theorem Area.kept_refl (a : Area) (s : State) : a.kept s s := by
  cases a <;> simp [Area.kept, PortTold.refl]

theorem Area.kept_trans {a : Area} {s t u : State} (h : a.kept s t) (k : a.kept t u) : a.kept s u := by
  cases a with
  | lines => exact fun q => (h q).trans (k q)
  | notices => exact fun q => ⟨(k q).1.trans (h q).1, (k q).2.trans (h q).2⟩
  | demands | outputs | stations | tables => exact ⟨k.1.trans h.1, k.2.trans h.2⟩
  | _ => exact Eq.trans k h

/-- Only the listed areas may have changed. -/
structure Leaves (l : List Area) (s t : State) : Prop where
  kept : ∀ a, a ∉ l → a.kept s t

theorem leaves_refl (l : List Area) (s : State) : Leaves l s s := ⟨fun a _ => a.kept_refl s⟩

theorem Leaves.trans {l : List Area} {s t u : State} (h : Leaves l s t) (k : Leaves l t u) :
    Leaves l s u := ⟨fun a ha => Area.kept_trans (h.kept a ha) (k.kept a ha)⟩

theorem Leaves.mono {l l' : List Area} {s t : State} (h : Leaves l s t)
    (hl : ∀ a ∈ l, a ∈ l' := by decide) : Leaves l' s t :=
  ⟨fun a ha => h.kept a fun hm => ha (hl a hm)⟩

/-- One more operation that changes areas of the list. -/
theorem Leaves.andThen {l l' : List Area} {s t u : State} (h : Leaves l' s t) (k : Leaves l t u)
    (hl : ∀ a ∈ l, a ∈ l' := by decide) : Leaves l' s u := h.trans (k.mono hl)

theorem leaves_foldl {α : Type} {l : List Area} (f : State → α → State)
    (h : ∀ s a, Leaves l s (f s a)) (xs : List α) (s : State) : Leaves l s (xs.foldl f s) := by
  induction xs generalizing s with
  | nil => exact leaves_refl l s
  | cons x xs ih => exact (h s x).trans (ih (f s x))

/-- Whatever decides between two operations, each changes only these areas. -/
theorem leaves_ite {l : List Area} {p : Prop} [Decidable p] {s t u : State} (h : Leaves l s t)
    (k : Leaves l s u) : Leaves l s (if p then t else u) := by
  split
  · exact h
  · exact k

theorem Leaves.tables {l : List Area} {s t : State} (h : Leaves l s t) (hl : Area.tables ∉ l := by decide) :
    t.image = s.image ∧ tableSizes t = tableSizes s := h.kept .tables hl

theorem Leaves.image {l : List Area} {s t : State} (h : Leaves l s t) (hl : Area.tables ∉ l := by decide) :
    t.image = s.image := (h.tables hl).1

theorem Leaves.tablesOk {l : List Area} {s t : State} (h : Leaves l s t) (ht : TablesOk s)
    (hl : Area.tables ∉ l := by decide) : TablesOk t := by
  obtain ⟨himg, hsizes⟩ := h.tables hl
  rw [tablesOk_iff] at ht ⊢
  rwa [himg, hsizes]

/-- The block an area lies in. -/
def Area.block : Area → Block
  | .clock => .clock
  | .auth => .auth
  | .lines | .notices => .ports
  | .segments => .segments
  | .gates => .gates
  | .zones => .zones
  | .weather => .weather
  | .evaluator => .evaluator
  | .demands | .outputs => .arbiter
  | .library => .library
  | .placement => .placement
  | .stations | .field => .field
  | .loader | .tables => .loader
  | .deliveries => .deliveries
  | .pending => .pending

/-- A port of which neither lines nor notices changed stands. -/
theorem port_eq_of_told {q r : Port} (h : PortTold q r) (hn : r.notices = q.notices)
    (ho : r.overflowOwed = q.overflowOwed) : r = q := by
  obtain ⟨h1, h2, h3, h4, h5, h6, -, -⟩ := h
  cases q; cases r
  simp_all

theorem ports_eq_of_kept {s t : State} (hlen : t.ports.length = s.ports.length)
    (hl : Area.lines.kept s t) (hn : Area.notices.kept s t) : t.ports = s.ports := by
  refine List.ext_getElem hlen fun q hq hq' => ?_
  have h := port_eq_of_told (hl q) (hn q).1 (hn q).2
  simpa [State.port, List.getD, hq, hq'] using h

theorem tableSizes_ports {s t : State} (h : tableSizes t = tableSizes s) :
    t.ports.length = s.ports.length := by
  simp only [tableSizes, List.cons.injEq] at h
  tauto

/-- Areas that stand make blocks that stand. -/
theorem Leaves.changesOnly {l : List Area} {bs : List Block} {s t : State} (h : Leaves l s t)
    (hb : ∀ a ∈ l, a.block ∈ bs) (hl : Area.tables ∉ l := by decide) : ChangesOnly bs s t := by
  have hkept : ∀ a : Area, a.block ∉ bs → a.kept s t := fun a ha =>
    h.kept a fun hm => ha (hb a hm)
  intro b hm
  cases b with
  | ports =>
    exact ports_eq_of_kept (tableSizes_ports (h.tables hl).2) (hkept .lines hm) (hkept .notices hm)
  | arbiter =>
    have hd := hkept .demands hm
    have ho := hkept .outputs hm
    simp only [Area.kept] at hd ho
    show t.arbiter = s.arbiter
    cases hs : s.arbiter; cases ht : t.arbiter
    simp_all
  | clock => exact hkept .clock hm
  | auth => exact hkept .auth hm
  | segments => exact hkept .segments hm
  | gates => exact hkept .gates hm
  | zones => exact hkept .zones hm
  | weather => exact hkept .weather hm
  | evaluator => exact hkept .evaluator hm
  | library => exact hkept .library hm
  | placement => exact hkept .placement hm
  | field => exact hkept .field hm
  | loader => exact hkept .loader hm
  | deliveries => exact hkept .deliveries hm
  | pending => exact hkept .pending hm

/-- The areas of a block. -/
def blockAreas : Block → List Area
  | .clock => [.clock]
  | .auth => [.auth]
  | .ports => [.lines, .notices]
  | .segments => [.segments]
  | .gates => [.gates]
  | .zones => [.zones]
  | .weather => [.weather]
  | .evaluator => [.evaluator]
  | .arbiter => [.demands, .outputs]
  | .library => [.library]
  | .placement => [.placement]
  | .field => [.stations, .field]
  | .loader => [.loader]
  | .deliveries => [.deliveries]
  | .pending => [.pending]

/-- Blocks that stand, with the tables' sizes, make areas that stand. -/
theorem leaves_of_changesOnly {bs : List Block} {l : List Area} {s t : State} (h : ChangesOnly bs s t)
    (ht : Area.tables.kept s t) (hl : ∀ b ∈ bs, ∀ a ∈ blockAreas b, a ∈ l := by decide) : Leaves l s t := by
  have hb : ∀ b : Block, (∃ a ∈ blockAreas b, a ∉ l) → b.same s t := fun b ⟨a, ha, hal⟩ =>
    h b fun hm => hal (hl b hm a ha)
  refine ⟨fun a hal => ?_⟩
  cases a with
  | tables => exact ht
  | clock => exact hb .clock ⟨_, by simp [blockAreas], hal⟩
  | auth => exact hb .auth ⟨_, by simp [blockAreas], hal⟩
  | lines =>
    have hp : t.ports = s.ports := hb .ports ⟨_, by simp [blockAreas], hal⟩
    intro q
    simp only [State.port, hp]
    exact PortTold.refl _
  | notices =>
    have hp : t.ports = s.ports := hb .ports ⟨_, by simp [blockAreas], hal⟩
    intro q
    simp [State.port, hp]
  | segments => exact hb .segments ⟨_, by simp [blockAreas], hal⟩
  | gates => exact hb .gates ⟨_, by simp [blockAreas], hal⟩
  | zones => exact hb .zones ⟨_, by simp [blockAreas], hal⟩
  | weather => exact hb .weather ⟨_, by simp [blockAreas], hal⟩
  | evaluator => exact hb .evaluator ⟨_, by simp [blockAreas], hal⟩
  | demands | outputs =>
    have ha : t.arbiter = s.arbiter := hb .arbiter ⟨_, by simp [blockAreas], hal⟩
    exact ⟨by rw [ha], by rw [ha]⟩
  | library => exact hb .library ⟨_, by simp [blockAreas], hal⟩
  | placement => exact hb .placement ⟨_, by simp [blockAreas], hal⟩
  | stations =>
    have hf : t.field = s.field := hb .field ⟨_, by simp [blockAreas], hal⟩
    exact ⟨by rw [hf], by rw [hf]⟩
  | field => exact hb .field ⟨_, by simp [blockAreas], hal⟩
  | loader => exact hb .loader ⟨_, by simp [blockAreas], hal⟩
  | deliveries => exact hb .deliveries ⟨_, by simp [blockAreas], hal⟩
  | pending => exact hb .pending ⟨_, by simp [blockAreas], hal⟩

/-! ## The primitive updates -/

section
variable (s : State)

theorem leaves_setSeg (i : Nat) (v : Segment) : Leaves [.segments] s (s.setSeg i v) :=
  leaves_of_changesOnly (bs := [.segments])
    (by intro b hb; cases b <;> first | rfl | simp at hb) ⟨rfl, by simp [tableSizes]⟩

theorem leaves_setHold (i : Nat) (v : Option Hold) : Leaves [.auth] s (s.setHold i v) :=
  leaves_of_changesOnly (bs := [.auth])
    (by intro b hb; cases b <;> first | rfl | simp at hb) ⟨rfl, by simp [tableSizes]⟩

theorem leaves_setLink (p : Nat) (v : PortLink) : Leaves [.auth] s (s.setLink p v) :=
  leaves_of_changesOnly (bs := [.auth])
    (by intro b hb; cases b <;> first | rfl | simp at hb) ⟨rfl, by simp [tableSizes]⟩

theorem leaves_setPort (p : Nat) (v : Port) : Leaves [.lines, .notices] s (s.setPort p v) :=
  leaves_of_changesOnly (bs := [.ports])
    (by intro b hb; cases b <;> first | rfl | simp at hb) ⟨rfl, by simp [tableSizes]⟩

theorem leaves_owe (p : Nat) (r : Reply) : Leaves [.lines, .notices] s (s.owe p r) := leaves_setPort s p _

theorem leaves_popFrame (p : Nat) : Leaves [.lines, .notices] s (popFrame s p) := leaves_setPort s p _

theorem leaves_setGate (g : Nat) (v : Gate) : Leaves [.gates] s (s.setGate g v) :=
  leaves_of_changesOnly (bs := [.gates])
    (by intro b hb; cases b <;> first | rfl | simp at hb) ⟨rfl, by simp [tableSizes]⟩

theorem leaves_setZone (z : Nat) (v : Zone) : Leaves [.zones] s (s.setZone z v) :=
  leaves_of_changesOnly (bs := [.zones])
    (by intro b hb; cases b <;> first | rfl | simp at hb) ⟨rfl, by simp [tableSizes]⟩

theorem leaves_setLine (k : Nat) (v : Line) : Leaves [.zones] s (s.setLine k v) :=
  leaves_of_changesOnly (bs := [.zones])
    (by intro b hb; cases b <;> first | rfl | simp at hb) ⟨rfl, by simp [tableSizes]⟩

theorem leaves_setShown (i : Nat) (v : Option Deciding) : Leaves [.zones] s (s.setShown i v) :=
  leaves_of_changesOnly (bs := [.zones])
    (by intro b hb; cases b <;> first | rfl | simp at hb) ⟨rfl, by simp [tableSizes]⟩

theorem leaves_setWeather (w : Weather) (hh : w.heads.length = s.weather.heads.length)
    (hc : w.channels.length = s.weather.channels.length) : Leaves [.weather] s (s.setWeather w) :=
  leaves_of_changesOnly (bs := [.weather])
    (by intro b hb; cases b <;> first | rfl | simp at hb) ⟨rfl, by simp [tableSizes, hh, hc]⟩

theorem leaves_setHead (k : Nat) (v : Head) : Leaves [.weather] s (s.setHead k v) :=
  leaves_setWeather s _ (by simp) rfl

theorem leaves_setChannel (k : Nat) (v : Channel) : Leaves [.weather] s (s.setChannel k v) :=
  leaves_setWeather s _ rfl (by simp)

theorem leaves_setEval (i : Nat) (v : Evaluation) : Leaves [.evaluator] s (s.setEval i v) :=
  leaves_of_changesOnly (bs := [.evaluator])
    (by intro b hb; cases b <;> first | rfl | simp at hb) ⟨rfl, by simp [tableSizes]⟩

theorem leaves_setStack (n : Nat) (v : List Demand) : Leaves [.demands] s (s.setStack n v) := by
  refine ⟨fun a ha => ?_⟩
  cases a with
  | demands => simp at ha
  | lines => exact fun _ => PortTold.refl _
  | notices => exact fun _ => ⟨rfl, rfl⟩
  | tables => exact ⟨rfl, by simp [tableSizes]⟩
  | outputs | stations => exact ⟨rfl, rfl⟩
  | _ => exact rfl

theorem leaves_setArrival (v : Word) : Leaves [.demands] s (s.setArrival v) := by
  refine ⟨fun a ha => ?_⟩
  cases a with
  | demands => simp at ha
  | lines => exact fun _ => PortTold.refl _
  | notices => exact fun _ => ⟨rfl, rfl⟩
  | outputs | stations | tables => exact ⟨rfl, rfl⟩
  | _ => exact rfl

theorem leaves_setOut (n : Nat) (v : SignOut) : Leaves [.outputs] s (s.setOut n v) := by
  refine ⟨fun a ha => ?_⟩
  cases a with
  | outputs => simp at ha
  | lines => exact fun _ => PortTold.refl _
  | notices => exact fun _ => ⟨rfl, rfl⟩
  | tables => exact ⟨rfl, by simp [tableSizes]⟩
  | demands | stations => exact ⟨rfl, rfl⟩
  | _ => exact rfl

theorem leaves_setSlot (n : Nat) (v : UserSlot) : Leaves [.library] s (s.setSlot n v) :=
  leaves_of_changesOnly (bs := [.library])
    (by intro b hb; cases b <;> first | rfl | simp at hb) ⟨rfl, by simp [tableSizes]⟩

theorem leaves_setCursor (p : Nat) (v : Cursor) : Leaves [.library] s (s.setCursor p v) :=
  leaves_of_changesOnly (bs := [.library])
    (by intro b hb; cases b <;> first | rfl | simp at hb) ⟨rfl, by simp [tableSizes]⟩

theorem leaves_setPlacement (v : Placement) (hp : v.primaries.length = s.placement.primaries.length)
    (ht : v.targets.length = s.placement.targets.length) (hu : v.up.length = s.placement.up.length) :
    Leaves [.placement] s (s.setPlacement v) :=
  leaves_of_changesOnly (bs := [.placement])
    (by intro b hb; cases b <;> first | rfl | simp at hb) ⟨rfl, by simp [tableSizes, hp, ht, hu]⟩

/-- Exchange, round and marks for blanking may change while the stations stand. -/
theorem leaves_setField (v : Field) (hs : v.startSeq = s.field.startSeq)
    (hm : v.stations.map Station.unmarked = s.field.stations.map Station.unmarked) :
    Leaves [.field] s (s.setField v) := by
  have hlen : v.stations.length = s.field.stations.length := by
    simpa using congrArg List.length hm
  refine ⟨fun a ha => ?_⟩
  cases a with
  | field => simp at ha
  | stations => exact ⟨hs, hm⟩
  | tables => exact ⟨rfl, by simp [tableSizes, hlen]⟩
  | lines => exact fun _ => PortTold.refl _
  | notices => exact fun _ => ⟨rfl, rfl⟩
  | demands | outputs => exact ⟨rfl, rfl⟩
  | _ => exact rfl

theorem leaves_setStations (v : Field) (hlen : v.stations.length = s.field.stations.length) :
    Leaves [.stations, .field] s (s.setField v) :=
  leaves_of_changesOnly (bs := [.field])
    (by intro b hb; cases b <;> first | rfl | simp at hb) ⟨rfl, by simp [tableSizes, hlen]⟩

theorem leaves_setStation (x : Nat) (v : Station) : Leaves [.stations, .field] s (s.setStation x v) :=
  leaves_setStations s _ (by simp)

theorem map_unmarked_set {l : List Station} {x : Nat} {v : Station}
    (h : v.unmarked = (l.getD x default).unmarked) :
    (l.set x v).map Station.unmarked = l.map Station.unmarked := by
  refine List.ext_getElem (by simp) fun k hk hk' => ?_
  simp only [List.length_map] at hk'
  simp only [List.getElem_map, List.getElem_set]
  split
  · next e => subst e; simpa [List.getD, hk'] using h
  · rfl

/-- A station of which only the mark for blanking changes stands. -/
theorem leaves_markStation (x : Nat) (v : Station) (h : v.unmarked = (s.station x).unmarked) :
    Leaves [.field] s (s.setStation x v) :=
  leaves_setField s _ rfl (map_unmarked_set h)

theorem leaves_setLoader (v : Loader) (h : v.image = s.loader.image) :
    Leaves [.loader] s (s.setLoader v) :=
  leaves_of_changesOnly (bs := [.loader])
    (by intro b hb; cases b <;> first | rfl | simp at hb) ⟨h, by simp [tableSizes]⟩

theorem leaves_deliver (l : List Instr) : Leaves [.deliveries] s (s.deliver l) :=
  leaves_of_changesOnly (bs := [.deliveries])
    (by intro b hb; cases b <;> first | rfl | simp at hb) ⟨rfl, by simp [tableSizes]⟩

theorem leaves_taking (c : Instr) : Leaves [.deliveries] s (s.taking c) :=
  leaves_of_changesOnly (bs := [.deliveries])
    (by intro b hb; cases b <;> first | rfl | simp at hb) ⟨rfl, by simp [tableSizes]⟩

theorem Leaves.gathered {s t : State} {l : List Area} (h : Leaves l s t) (hd : Area.deliveries ∈ l) :
    Leaves l s (s.gathered t) := by
  refine ⟨fun a ha => ?_⟩
  have hk := h.kept a ha
  cases a with
  | deliveries => exact absurd hd ha
  | _ => exact hk

theorem portTold_notifyBut (e : Option Nat) (i : Nat) (b : NoticeBody) (q : Nat) :
    PortTold (s.port q) ((s.notifyBut e i b).port q) := by
  rcases lt_or_ge q s.ports.length with hq | hq
  · simp only [State.port, State.notifyBut_ports, List.getD, List.getElem?_mapIdx]
    rw [List.getElem?_eq_getElem hq]
    simp only [Option.map_some, Option.getD_some]
    split
    · next h =>
      refine portTold_pushNotice _ _ fun h0 => ?_
      simp [h0] at h
    · exact PortTold.refl _
  · have hnone : ∀ t : State, t.ports.length = s.ports.length → t.port q = default := fun t ht => by
      simp [State.port, List.getD, ht, hq]
    rw [hnone s rfl, hnone _ (by simp)]
    exact PortTold.refl _

theorem leaves_notifyBut (e : Option Nat) (i : Nat) (b : NoticeBody) :
    Leaves [.notices] s (s.notifyBut e i b) := by
  refine ⟨fun a ha => ?_⟩
  cases a with
  | notices => simp at ha
  | lines => exact portTold_notifyBut s e i b
  | tables => exact ⟨rfl, by simp [tableSizes]⟩
  | demands | outputs | stations => exact ⟨rfl, rfl⟩
  | _ => exact rfl

theorem leaves_notify (i : Nat) (b : NoticeBody) : Leaves [.notices] s (s.notify i b) :=
  leaves_notifyBut s none i b

theorem leaves_recarry (p : Carriage → Bool) : Leaves [.field] s (s.recarry p) := by
  unfold State.recarry
  split
  · exact leaves_ite (leaves_setField s _ rfl rfl) (leaves_refl _ s)
  · exact leaves_refl _ s

end

end Sys2Proof.Machine

/-! PROOF. The areas each shared operation can change, and from them the areas each command can change. -/

namespace Sys2Proof.Machine

set_option Elab.async false

open Sys2Proof

/-! ## The areas of the blocks' operations -/

/-- One event at a segment. -/
def segAreas : List Area := [.notices, .segments, .deliveries]
/-- One event at a gate: its orders replace what the bus carries. -/
def gateAreas : List Area := [.notices, .gates, .field, .deliveries]
/-- One event at a zone or at its lines. -/
def zoneAreas : List Area := [.notices, .zones, .deliveries]
/-- One event at a channel. -/
def weatherAreas : List Area := [.notices, .weather, .deliveries]
/-- One event at a sign's output. -/
def signAreas : List Area := [.notices, .outputs, .field, .deliveries]
/-- One event at a sign's stack. -/
def stackAreas : List Area := [.notices, .demands, .outputs, .library, .field]
/-- One event at a station. -/
def stationAreas : List Area := [.notices, .stations, .field, .deliveries]
/-- What the owners of the stations' roles do. -/
def ownerAreas : List Area := [.notices, .gates, .zones, .outputs, .placement, .field, .deliveries]
/-- A station that quiesces, with what the owner of its role does. -/
def quiesceAreas : List Area :=
  [.notices, .gates, .zones, .outputs, .placement, .stations, .field, .deliveries]

/-! ## Notices -/

theorem leaves_segNotice (s : State) (i : Nat) (cause : SegCause) :
    Leaves [.notices] s (segNotice s i cause) := leaves_notify ..

theorem leaves_zoneNotice (s : State) (z : Nat) (cause : ZoneCause) (l : Option (Nat × LineState))
    (n : Option Nat) : Leaves [.notices] s (zoneNotice s z cause l n) := leaves_notify ..

theorem leaves_signNotice (s : State) (n : Nat) (cause : SignCause) :
    Leaves [.notices] s (signNotice s n cause) := leaves_notify ..

theorem leaves_portNotice (s : State) (p : Nat) (cause : PortCause) :
    Leaves [.notices] s (portNotice s p cause) := leaves_notifyBut ..

/-! ## Holds -/

theorem leaves_dropHold (s : State) (i : Nat) (cause : SegCause) :
    Leaves [.auth, .notices] s (dropHold s i cause) :=
  (leaves_setHold s i none).mono.andThen (leaves_segNotice _ i cause)

theorem leaves_dropHolds (s : State) (src : AgentSource) : Leaves [.auth, .notices] s (dropHolds s src) := by
  refine leaves_foldl _ (fun t i => ?_) _ s
  split
  · exact leaves_ite (leaves_dropHold t i _) (leaves_refl _ t)
  · exact leaves_refl _ t

theorem leaves_loseLink (s : State) (p : Nat) :
    Leaves [.auth, .notices, .deliveries] s (loseLink s p) :=
  (((leaves_setLink s p _).mono.andThen (leaves_dropHolds _ _)).andThen
    (leaves_deliver _ _)).andThen (leaves_portNotice _ p _)

theorem leaves_takeHolds (src : AgentSource) (segs : List Nat) (s : State) (n m : Nat) :
    Leaves [.auth, .notices] s (takeHolds src segs (s, n, m)).1 := by
  induction segs generalizing s n m with
  | nil => exact leaves_refl _ s
  | cons i is ih =>
    simp only [takeHolds]
    split
    · exact ((leaves_setHold s i _).mono.andThen (leaves_segNotice _ i _)).trans (ih _ _ _)
    · exact (leaves_setHold s i _).mono.trans (ih _ _ _)

theorem leaves_dropOwn (src : AgentSource) (segs : List Nat) (s : State) (n : Nat) :
    Leaves [.auth, .notices] s (dropOwn src segs (s, n)).1 := by
  induction segs generalizing s n with
  | nil => exact leaves_refl _ s
  | cons i is ih =>
    simp only [dropOwn]
    split
    · split
      · exact (leaves_dropHold s i _).trans (ih _ _)
      · exact ih _ _
    · exact ih _ _

/-! ## Segments -/

theorem leaves_segEvent (s : State) (i : Nat) (m : Move) (cause : SegCause) (lock : Bool) :
    Leaves segAreas s (segEvent s i m cause lock) := by
  have h : Leaves segAreas s ((s.setSeg i (revised (s.seg i) m.seg)).deliver
      (m.reqs ++ closureDeliveries s i (s.seg i).state m.seg.state ++
        stampDeliveries s i (s.seg i).state m.seg.state)) :=
    (leaves_setSeg s i _).mono.andThen (leaves_deliver _ _)
  exact leaves_ite (h.andThen (leaves_segNotice _ i cause)) h

theorem leaves_claimAt (s : State) (i : Nat) (src : ClaimSource) (reason : Nat) (im : Bool) :
    Leaves segAreas s (claimAt s i src reason im).1 := by
  unfold claimAt
  dsimp only
  split <;> exact leaves_segEvent ..

theorem leaves_claimAll (src : ClaimSource) (reason : Nat) (im : Bool) (segs : List Nat) (s : State)
    (n : Nat) : Leaves segAreas s (claimAll src reason im segs (s, n)).1 := by
  induction segs generalizing s n with
  | nil => exact leaves_refl _ s
  | cons i is ih => exact (leaves_claimAt s i src reason im).trans (ih _ _)

theorem leaves_removeClaim (s : State) (i : Nat) (src : ClaimSource) (cause : SegCause) :
    Leaves segAreas s (removeClaim s i src cause) := leaves_segEvent ..

theorem leaves_releaseAll (src : ClaimSource) (segs : List Nat) (s : State) (n : Nat) :
    Leaves segAreas s (releaseAll src segs (s, n)).1 := by
  induction segs generalizing s n with
  | nil => exact leaves_refl _ s
  | cons i is ih =>
    simp only [releaseAll]
    split
    · exact (leaves_removeClaim s i src _).trans (ih _ _)
    · exact ih _ _

theorem leaves_dropClaim (s : State) (i : Nat) (src : ClaimSource) (cause : SegCause) :
    Leaves segAreas s (dropClaim s i src cause).state := by
  unfold dropClaim
  split
  · exact leaves_removeClaim ..
  · exact leaves_refl _ s

theorem leaves_detectorAt (s : State) (i z : Nat) : Leaves segAreas s (detectorAt s i z) := by
  unfold detectorAt
  dsimp only
  split
  · exact leaves_segEvent ..
  · exact leaves_ite (leaves_refl _ s) (leaves_segEvent ..)

theorem leaves_clearanceAt (s : State) (i z : Nat) (ends : Bool) :
    Leaves segAreas s (clearanceAt s i z ends) := leaves_segEvent ..

theorem leaves_lockStartAt (s : State) (i : Nat) : Leaves segAreas s (lockStartAt s i) :=
  leaves_segEvent ..

theorem leaves_reportAt (s : State) (i : Nat) : Leaves segAreas s (reportAt s i) := by
  unfold reportAt
  split
  · exact leaves_ite (leaves_segEvent ..) (leaves_refl _ s)
  · exact leaves_ite (leaves_segEvent ..) (leaves_refl _ s)
  all_goals exact leaves_refl _ s

/-! ## The evaluator -/

theorem leaves_classNotice (s : State) (i : Nat) (cause : SegCause) (old new : Nat) :
    Leaves [.notices] s (classNotice s i cause old new) := by
  unfold classNotice
  exact leaves_ite (leaves_refl _ s) (leaves_notify ..)

theorem leaves_evaluateSegment (r : State × List Instr) (i : Nat) :
    Leaves [.evaluator, .notices] r.1 (evaluateSegment r i).1 :=
  ((leaves_setEval r.1 i _).mono.andThen (leaves_classNotice _ i _ _ _)).andThen
    (leaves_classNotice _ i _ _ _)

theorem leaves_foldl_evaluateSegment (l : List Nat) (r : State × List Instr) :
    Leaves [.evaluator, .notices] r.1 (l.foldl evaluateSegment r).1 := by
  induction l generalizing r with
  | nil => exact leaves_refl _ _
  | cons i l ih => exact (leaves_evaluateSegment r i).trans (ih _)

theorem leaves_evalTimer (s : State) (n : Nat) :
    Leaves [.evaluator] s { s with evaluator := { s.evaluator with timer := n } } :=
  leaves_of_changesOnly (bs := [.evaluator])
    (by intro b hb; cases b <;> first | rfl | simp at hb) ⟨rfl, rfl⟩

theorem leaves_evaluate (s : State) : Leaves [.evaluator, .notices, .deliveries] s (evaluate s) := by
  have hfold := leaves_foldl_evaluateSegment (List.range 12)
    ({ s with evaluator := { s.evaluator with timer := s.image.evalPeriod } }, [])
  have h : Leaves [.evaluator, .notices, .deliveries] s _ :=
    (leaves_evalTimer s s.image.evalPeriod).mono.andThen hfold
  unfold evaluate
  exact h.andThen (leaves_deliver _ _)

/-! ## Gates -/

theorem leaves_gateEvent (s : State) (g : Nat) (m : GateMove) (cause : GateCause) :
    Leaves gateAreas s (gateEvent s g m cause) := by
  have h : Leaves gateAreas s ((s.setGate g m.gate).recarry (m.replaces g)) :=
    (leaves_setGate s g _).mono.andThen (leaves_recarry _ _)
  exact leaves_ite ((h.andThen (leaves_deliver _ _)).andThen (leaves_notify _ _ _)) h

theorem leaves_reportGate (s : State) (g : Nat) (r : GateReport) :
    Leaves gateAreas s (reportGate s g r) := by
  unfold reportGate
  exact leaves_ite (leaves_gateEvent ..) (leaves_refl _ s)

theorem leaves_limitGate (s : State) (g : Nat) : Leaves gateAreas s (limitGate s g) := by
  unfold limitGate
  exact leaves_ite (leaves_gateEvent ..) (leaves_refl _ s)

theorem leaves_gateLost (s : State) (g : Nat) : Leaves gateAreas s (gateLost s g) := leaves_gateEvent ..

theorem leaves_gateReturned (s : State) (g : Nat) (r : GateReport) :
    Leaves gateAreas s (gateReturned s g r) := leaves_gateEvent ..

theorem leaves_gateRecorded (s : State) (g : Nat) (r : GateReport) :
    Leaves [.gates] s (gateRecorded s g r) := leaves_setGate ..

theorem leaves_runGateFaultClear (s : State) (p g : Nat) :
    Leaves gateAreas s (runGateFaultClear s p g).state := by
  unfold runGateFaultClear
  split
  · exact leaves_gateEvent ..
  · exact leaves_refl _ s

/-! ## Zones -/

theorem leaves_redecideSegment (r : State × List Instr) (i : Nat) :
    Leaves [.zones] r.1 (redecideSegment r i).1 := by
  simp only [redecideSegment]
  split
  · exact leaves_refl _ _
  · exact leaves_setShown ..

theorem leaves_foldl_redecideSegment (l : List Nat) (r : State × List Instr) :
    Leaves [.zones] r.1 (l.foldl redecideSegment r).1 := by
  induction l generalizing r with
  | nil => exact leaves_refl _ _
  | cons i l ih => exact (leaves_redecideSegment r i).trans (ih _)

theorem leaves_redecide (s : State) (z : Nat) : Leaves [.zones, .deliveries] s (redecide s z) :=
  (leaves_foldl_redecideSegment _ (s, [])).mono.andThen (leaves_deliver _ _)

theorem leaves_zoneEnters (s : State) (z : Nat) (r : Zone) :
    Leaves [.zones, .deliveries] s (zoneEnters s z r) :=
  (leaves_setZone s z r).mono.andThen (leaves_redecide _ z)

theorem leaves_handToZone (s : State) (z l : Nat) (st : LineState) :
    Leaves zoneAreas s (handToZone s z l st) := by
  have htrip : Leaves zoneAreas s (tripZone s z l st) :=
    (((leaves_setZone s z _).mono.andThen (leaves_deliver _ _)).andThen (leaves_redecide _ z)).andThen
      (leaves_zoneNotice ..)
  have hfire : Leaves zoneAreas s (zoneNotice (s.setZone z (fire l (s.zone z))) z .line (some (l, st)) none) :=
    (leaves_setZone s z _).mono.andThen (leaves_zoneNotice ..)
  have htell : Leaves zoneAreas s (zoneNotice s z .line (some (l, st)) none) :=
    (leaves_zoneNotice ..).mono
  unfold handToZone
  split
  · cases (s.zone z).state with
    | quiet | watch => exact htrip
    | tripped | work => exact hfire
    | sweep => exact htell
  · exact htell

theorem leaves_lineEnters (s : State) (l : Nat) (st : LineState) :
    Leaves zoneAreas s (lineEnters s l st) := by
  have hline : Leaves zoneAreas s (s.setLine l { state := st, pending := none, confirm := 0 }) :=
    (leaves_setLine s l _).mono
  unfold lineEnters
  dsimp only
  split
  · exact hline
  · exact (hline.andThen (leaves_setZone _ _ _)).trans (leaves_handToZone ..)

theorem leaves_lineReport (s : State) (l : Nat) (c : Condition) : Leaves zoneAreas s (lineReport s l c) := by
  unfold lineReport
  dsimp only
  exact leaves_ite (leaves_ite (leaves_lineEnters ..) (leaves_setLine ..).mono) (leaves_setLine ..).mono

theorem leaves_stationReport (s : State) (x : Nat) (r : TripReport) :
    Leaves zoneAreas s (stationReport s x r) :=
  Leaves.gathered (leaves_foldl _ (fun _ _ => leaves_lineReport ..) _ s) (by decide)

theorem leaves_tripLost (s : State) (x : Nat) : Leaves zoneAreas s (tripLost s x) := by
  refine Leaves.gathered (leaves_foldl _ (fun t l => ?_) _ s) (by decide)
  unfold lineLost
  exact leaves_ite (leaves_refl _ t) (leaves_lineEnters ..)

theorem leaves_runSetLevel (s : State) (p : Nat) (a : Nat × Nat) :
    Leaves zoneAreas s (runSetLevel s p a).state := by
  have h := (leaves_zoneEnters s a.1 (levelled s (s.zone a.1) a.2)).mono (l' := zoneAreas)
  refine leaves_ite (leaves_refl _ s) (Leaves.andThen ?_ (leaves_zoneNotice ..))
  exact leaves_ite h (h.andThen (leaves_deliver _ _))

theorem leaves_runBeginSweep (s : State) (p z : Nat) : Leaves zoneAreas s (runBeginSweep s p z).state := by
  unfold runBeginSweep
  split
  · exact (((leaves_setZone s z _).mono.andThen (leaves_deliver _ _)).andThen
      (leaves_redecide _ z)).andThen (leaves_zoneNotice ..)
  · exact leaves_refl _ s

theorem leaves_clearZone (s : State) (z : Nat) (ls : List Nat) : Leaves zoneAreas s (clearZone s z ls) := by
  have hbypass : Leaves zoneAreas s (deriveDegraded (ls.foldl bypass s) z) :=
    (leaves_foldl (l := zoneAreas) bypass (fun t l => (leaves_setLine t l _).mono) ls s).andThen
      (leaves_setZone _ z _)
  have hclear := ((hbypass.andThen (leaves_setZone _ z
    { (deriveDegraded (ls.foldl bypass s) z).zone z with
      fired := [], state := stateOfLevel s ((deriveDegraded (ls.foldl bypass s) z).zone z).level })).andThen
    (leaves_deliver _ (clearanceDeliveries s z))).andThen (leaves_redecide _ z)
  exact (hclear.andThen (leaves_zoneNotice ..)).trans
    (leaves_foldl _ (fun t l => (leaves_zoneNotice t z _ _ _).mono) _ _)

theorem leaves_runZoneClear (s : State) (p : Nat) (a : Nat × Bool) :
    Leaves zoneAreas s (runZoneClear s p a).state := by
  unfold runZoneClear
  split
  · exact leaves_refl _ s
  · split
    · exact leaves_refl _ s
    · exact leaves_clearZone ..

/-- A permit locks the segments of its zone in the same event. -/
def permitAreas : List Area := [.notices, .segments, .zones, .deliveries]

theorem leaves_lockIfFree (s : State) (i : Nat) : Leaves segAreas s (lockIfFree s i) := by
  unfold lockIfFree
  exact leaves_ite (leaves_refl _ s) (leaves_lockStartAt s i)

theorem leaves_grantPermit (s : State) (z m : Nat) : Leaves permitAreas s (grantPermit s z m) :=
  leaves_ite ((leaves_setZone s z _).mono.andThen (leaves_zoneNotice ..))
    (((leaves_foldl lockIfFree leaves_lockIfFree (threatened s z) s).mono.andThen
      (leaves_zoneEnters _ z _)).andThen (leaves_zoneNotice ..))

theorem leaves_runPermitRequest (s : State) (p : Nat) (a : Nat × Nat) :
    Leaves permitAreas s (runPermitRequest s p a).state := by
  unfold runPermitRequest
  split
  · exact leaves_refl _ s
  · split
    · exact leaves_refl _ s
    · exact leaves_grantPermit ..

theorem leaves_endPermit (s : State) (z : Nat) (cause : ZoneCause) :
    Leaves zoneAreas s (endPermit s z cause) :=
  (leaves_zoneEnters s z _).mono.andThen (leaves_zoneNotice ..)

theorem leaves_runPermitEnd (s : State) (p z : Nat) : Leaves zoneAreas s (runPermitEnd s p z).state := by
  unfold runPermitEnd
  split
  · exact leaves_endPermit ..
  · exact leaves_refl _ s

/-! ## The weather unit -/

theorem grantLink_heads_length (w : Weather) : (grantLink w).heads.length = w.heads.length := by
  unfold grantLink
  split
  · rfl
  · split
    · rfl
    · split <;> simp

theorem grantLink_channels (w : Weather) : (grantLink w).channels = w.channels := by
  unfold grantLink
  split
  · rfl
  · split
    · rfl
    · split <;> rfl

theorem leaves_grantLink (s : State) (w : Weather) (hh : w.heads.length = s.weather.heads.length)
    (hc : w.channels.length = s.weather.channels.length) :
    Leaves [.weather] s (s.setWeather (grantLink w)) :=
  leaves_setWeather s _ (by rw [grantLink_heads_length, hh]) (by rw [grantLink_channels, hc])

theorem leaves_endExchange (s : State) : Leaves [.weather] s (endExchange s) :=
  leaves_grantLink s _ rfl rfl

theorem leaves_pollsDue (s : State) : Leaves [.weather] s (pollsDue s) :=
  leaves_setWeather s _ (by simp) rfl

theorem leaves_channelEvent (s : State) (c : Nat) (e : ChannelEntry) (new : Channel)
    (cause : ChannelCause) : Leaves weatherAreas s (channelEvent s c e new cause) := by
  have hset : Leaves weatherAreas s (s.setChannel c new) := (leaves_setChannel s c new).mono
  have htell := leaves_ite (p := shownChange e (s.channel c) new = true)
    (hset.andThen (leaves_deliver _ ((signsOfChannel s.image c).map Instr.placeholderChange))) hset
  exact leaves_ite (htell.andThen (leaves_notify ..)) htell

theorem leaves_sampleAt (s : State) (c : Nat) (e : ChannelEntry) (code : RawCode) :
    Leaves weatherAreas s (sampleAt s c e code) :=
  leaves_ite (leaves_channelEvent ..) (leaves_channelEvent ..)

theorem leaves_takeCodes (s : State) (h : Nat) (c0 c1 c2 c3 : RawCode) :
    Leaves weatherAreas s (takeCodes s h c0 c1 c2 c3) := by
  refine leaves_foldl _ (fun t c => ?_) _ s
  split
  · exact leaves_sampleAt ..
  · exact leaves_refl _ t

theorem leaves_slotReady (s : State) (r : Request) (v : ReadResult) :
    Leaves [.weather] s (slotReady s r v) := leaves_setWeather s _ rfl rfl

theorem leaves_immediateAnswer (s : State) (code : RawCode) :
    Leaves weatherAreas s (immediateAnswer s code) := by
  unfold immediateAnswer
  split
  · split
    · exact Leaves.trans (leaves_slotReady ..).mono (leaves_sampleAt ..)
    · exact leaves_refl _ s
  all_goals exact leaves_refl _ s

theorem leaves_immediateSilent (s : State) : Leaves [.weather] s (immediateSilent s) := by
  unfold immediateSilent
  split
  · exact leaves_slotReady ..
  all_goals exact leaves_refl _ s

theorem leaves_latch (s : State) (r : Request) (e : ChannelEntry) : Leaves [.weather] s (latch s r e) :=
  leaves_grantLink s _ rfl rfl

theorem leaves_runReading (s : State) (p : Nat) (r : Request) :
    Leaves [.weather] s (runReading s p r).state := by
  unfold runReading
  split
  · exact leaves_refl _ s
  · split
    · exact leaves_latch ..
    · split <;> exact leaves_refl _ s
    · split
      · exact leaves_setWeather s _ rfl rfl
      · exact leaves_refl _ s

theorem leaves_runForceChannel (s : State) (p : Nat) (a : Nat × Option Int) :
    Leaves weatherAreas s (runForceChannel s p a).state := by
  unfold runForceChannel
  split
  · exact leaves_refl _ s
  · exact leaves_channelEvent ..

theorem leaves_runUnforce (s : State) (p c : Nat) : Leaves weatherAreas s (runUnforce s p c).state := by
  unfold runUnforce
  split
  · exact leaves_refl _ s
  · split
    · exact leaves_channelEvent ..
    · exact leaves_refl _ s

end Sys2Proof.Machine

/-! PROOF. The areas the operations at signs, stations and the placement table can change, and from them the
areas each command can change. -/

namespace Sys2Proof.Machine

set_option Elab.async false

open Sys2Proof

/-! ## Signs -/

theorem leaves_composeAt (s : State) (n : Nat) : Leaves [.outputs, .field] s (composeAt s n) :=
  leaves_ite (leaves_setOut ..).mono ((leaves_setOut s n _).mono.andThen (leaves_recarry _ _))

theorem leaves_followWinner (s : State) (n : Nat) : Leaves [.outputs, .field] s (followWinner s n) :=
  leaves_ite (leaves_refl _ s) ((leaves_setOut s n _).mono.andThen (leaves_recarry _ _))

theorem leaves_winnerChange (s : State) (n : Nat) (cause : SignCause) :
    Leaves [.notices, .outputs, .field] s (winnerChange s n cause) :=
  ((leaves_composeAt s n).mono.andThen (leaves_followWinner _ n)).andThen (leaves_signNotice _ n cause)

theorem leaves_rerender (s : State) (n : Nat) : Leaves [.notices, .outputs, .field] s (rerender s n) :=
  leaves_ite ((leaves_composeAt s n).mono.andThen (leaves_signNotice ..)) (leaves_composeAt s n).mono

theorem leaves_joinSlot (s : State) (n : Nat) : Leaves [.library] s (joinSlot s n) :=
  leaves_ite (leaves_refl _ s) (leaves_setSlot ..)

theorem leaves_leaveSlot (s : State) (n : Nat) : Leaves [.library] s (leaveSlot s n) :=
  leaves_ite (leaves_refl _ s) (leaves_setSlot ..)

theorem leaves_foldl_leaveSlot (l : List Demand) (s : State) :
    Leaves [.library] s (l.foldl (fun t x => leaveSlot t x.slot) s) :=
  leaves_foldl _ (fun t x => leaves_leaveSlot t x.slot) l s

theorem leaves_placeDemand (s : State) (n : Nat) (d : Demand) (cause : SignCause) :
    Leaves stackAreas s (placeDemand s n d cause) := by
  have h : Leaves stackAreas s (((s.stack n).filter fun x => x.key == d.key).foldl
      (fun t x => leaveSlot t x.slot) (joinSlot ((s.setArrival (s.arbiter.arrival + 1)).setStack n
        (placed (s.stack n) { d with arrival := s.arbiter.arrival })) d.slot)) :=
    (((leaves_setArrival s _).mono.andThen (leaves_setStack _ n _)).andThen
      (leaves_joinSlot _ _)).andThen (leaves_foldl_leaveSlot _ _)
  exact leaves_ite (h.andThen (leaves_winnerChange _ n cause)) h

theorem leaves_removeDemands (s : State) (n : Nat) (p : DemandKey → Bool) (cause : SignCause) :
    Leaves stackAreas s (removeDemands s n p cause) := by
  have h : Leaves stackAreas s (((s.stack n).filter fun x => p x.key).foldl
      (fun t x => leaveSlot t x.slot) (s.setStack n (withoutKeys p (s.stack n)))) :=
    (leaves_setStack s n _).mono.andThen (leaves_foldl_leaveSlot _ _)
  exact leaves_ite h (h.andThen (leaves_winnerChange _ n cause))

theorem leaves_removeSource (s : State) (src : AgentSource) (cause : SignCause) :
    Leaves stackAreas s (removeSource s src cause) :=
  leaves_foldl _ (fun t n => leaves_removeDemands t n _ cause) _ s

theorem leaves_runPost (s : State) (p : Nat) (a : PostArgs) : Leaves stackAreas s (runPost s p a).state := by
  unfold runPost
  dsimp only
  split
  · exact leaves_refl _ s
  · exact leaves_foldl _ (fun t n => leaves_placeDemand t n _ _) _ s

theorem leaves_runWithdraw (s : State) (p : Nat) (a : Nat × Nat × Nat) :
    Leaves stackAreas s (runWithdraw s p a).state :=
  leaves_foldl _ (fun t n => leaves_removeDemands t n _ _) _ s

theorem leaves_deliverDemand (s : State) (n : Nat) (t : Topic) (c : Option DemandContent) :
    Leaves stackAreas s (deliverDemand s n t c) := by
  cases c with
  | some c => exact leaves_placeDemand ..
  | none => exact leaves_removeDemands ..

theorem leaves_placeholderAt (s : State) (n : Nat) :
    Leaves [.notices, .outputs, .field] s (placeholderAt s n) :=
  leaves_ite (leaves_rerender s n) (leaves_setOut ..).mono

theorem leaves_confirmAt (s : State) (n : Nat) : Leaves [.notices, .outputs] s (confirmAt s n) := by
  have h := (leaves_setOut s n { s.out n with
    mismatches := 0
    output := if (s.out n).output == .pending then .shown else (s.out n).output }).mono
    (l' := [.notices, .outputs])
  exact leaves_ite (h.andThen (leaves_signNotice ..)) h

theorem leaves_mismatchAt (s : State) (n x : Nat) :
    Leaves [.notices, .outputs, .deliveries] s (mismatchAt s n x) := by
  have h := (leaves_setOut s n { s.out n with
    mismatches := (s.out n).mismatches + 1, carried := false, output := awaiting (s.out n) }).mono
    (l' := [.notices, .outputs, .deliveries])
  exact leaves_ite (leaves_ite (h.andThen (leaves_signNotice ..)) h)
    ((leaves_setOut s n _).mono.andThen (leaves_deliver ..))

theorem leaves_checksumAt (s : State) (x : Nat) (v : Half) :
    Leaves [.notices, .outputs, .deliveries] s (checksumAt s x v) := by
  unfold checksumAt
  split
  · exact leaves_refl _ s
  · exact leaves_ite (leaves_ite (leaves_confirmAt ..).mono (leaves_mismatchAt ..)) (leaves_refl _ s)

theorem leaves_retargetAt (s : State) (n : Nat) (previous new : Option Nat) :
    Leaves [.notices, .outputs, .field] s (retargetAt s n previous new) := by
  unfold retargetAt
  dsimp only
  refine Leaves.andThen ?_ (leaves_signNotice ..)
  split
  · exact ((leaves_setOut s n _).mono.andThen (leaves_recarry _ _)).andThen
      (leaves_markStation _ _ _ rfl)
  · exact (leaves_setOut s n _).mono.andThen (leaves_recarry _ _)

theorem leaves_takeRetargets (s : State) : Leaves signAreas s (takeRetargets s) := by
  refine leaves_foldl _ (fun t c => ?_) _ s
  split
  · exact (leaves_taking t _).mono.andThen (leaves_retargetAt ..)
  · exact leaves_refl _ t

theorem leaves_beaconEntered (s : State) (x : Nat) : Leaves [.outputs] s (beaconEntered s x) := by
  unfold beaconEntered
  split
  · exact leaves_setOut ..
  · exact leaves_refl _ s

theorem leaves_beaconLeft (s : State) (x : Nat) : Leaves [.outputs] s (beaconLeft s x) := by
  unfold beaconLeft
  split
  · exact leaves_setOut ..
  · exact leaves_refl _ s

/-! ## The placement table -/

/-- A table with the sizes of another. -/
def Placement.sized (t u : Placement) : Prop :=
  u.primaries.length = t.primaries.length ∧ u.targets.length = t.targets.length ∧
    u.up.length = t.up.length

theorem Placement.sized_refl (t : Placement) : t.sized t := ⟨rfl, rfl, rfl⟩

theorem Placement.sized.trans {t u v : Placement} (h : t.sized u) (k : u.sized v) : t.sized v :=
  ⟨k.1.trans h.1, k.2.1.trans h.2.1, k.2.2.trans h.2.2⟩

theorem sized_setTarget (t : Placement) (n : Nat) (v : Option Nat) : t.sized (setTarget t n v) := by
  simp [Placement.sized, setTarget]

theorem sized_offer (img : Image) (t : Placement) (x : Nat) : t.sized (offer img t x) := by
  unfold offer
  split
  · split
    · exact sized_setTarget ..
    · exact t.sized_refl
  · exact t.sized_refl

theorem sized_displace (img : Image) (a x : Nat) (t : Placement) (m : Nat) :
    t.sized (displace img a x t m) := by
  unfold displace
  split
  · exact sized_setTarget ..
  · exact t.sized_refl

theorem sized_foldl_displace (img : Image) (a x : Nat) (l : List Nat) (t : Placement) :
    t.sized (l.foldl (displace img a x) t) := by
  induction l generalizing t with
  | nil => exact t.sized_refl
  | cons m l ih => exact (sized_displace img a x t m).trans (ih _)

theorem sized_takeStation (img : Image) (t : Placement) (a x : Nat) : t.sized (takeStation img t a x) := by
  have h := (sized_setTarget t a (some x)).trans (sized_foldl_displace img a x (List.range 24) _)
  unfold takeStation
  dsimp only
  split
  · exact h.trans (sized_offer ..)
  · exact h

theorem sized_departed (img : Image) (t : Placement) (x : Nat) : t.sized (departed img t x) := by
  have h : t.sized { t with up := t.up.set x false } := by simp [Placement.sized]
  unfold departed
  dsimp only
  split
  · exact h.trans (sized_setTarget ..)
  · exact h

theorem sized_entered (img : Image) (t : Placement) (x : Nat) : t.sized (entered img t x) := by
  have h : t.sized { t with up := t.up.set x true } := by simp [Placement.sized]
  unfold entered
  dsimp only
  split
  · exact h.trans (sized_takeStation ..)
  · exact h.trans (sized_offer ..)

theorem sized_remapped (img : Image) (t : Placement) (n x : Nat) : t.sized (remapped img t n x) := by
  have h : t.sized { t with primaries := t.primaries.set n (some x) } := by simp [Placement.sized]
  unfold remapped
  dsimp only
  split
  · split
    · exact h
    · exact h.trans (sized_takeStation ..)
  · split
    · exact (h.trans (sized_setTarget ..)).trans (sized_offer ..)
    · exact h

theorem map_unmarked_markBlank (old new : Placement) (l : List Station) :
    (markBlank old new l).map Station.unmarked = l.map Station.unmarked := by
  refine List.ext_getElem (by simp [markBlank]) fun x hx hx' => ?_
  simp only [markBlank, List.getElem_map, List.getElem_mapIdx]
  split
  · rfl
  · split <;> rfl

theorem leaves_replaceTable (s : State) (t : Placement) (ht : s.placement.sized t) :
    Leaves [.placement, .field, .deliveries] s (replaceTable s t) :=
  ((leaves_setPlacement s t ht.1 ht.2.1 ht.2.2).mono.andThen
    (leaves_setField _ { s.field with stations := markBlank s.placement t s.field.stations } rfl
      (map_unmarked_markBlank s.placement t s.field.stations))).andThen
    (leaves_deliver _ _)

theorem leaves_placementLeft (s : State) (x : Nat) :
    Leaves [.placement, .field, .deliveries] s (placementLeft s x) :=
  leaves_replaceTable s _ (sized_departed ..)

theorem leaves_placementEntered (s : State) (x : Nat) :
    Leaves [.placement, .field, .deliveries] s (placementEntered s x) :=
  leaves_replaceTable s _ (sized_entered ..)

theorem leaves_runRemap (s : State) (p : Nat) (a : Nat × Nat) :
    Leaves [.placement, .field, .deliveries] s (runRemap s p a).state := by
  unfold runRemap
  split
  · exact leaves_refl _ s
  · split
    · exact leaves_refl _ s
    · exact leaves_replaceTable s _ (sized_remapped ..)

/-! ## Field stations -/

theorem leaves_stationNotice (s : State) (x : Nat) (cause : StationCause) :
    Leaves [.notices] s (stationNotice s x cause) := leaves_notify ..

theorem leaves_grantBus (s : State) : Leaves [.stations, .field] s (grantBus s) := by
  unfold grantBus
  split
  · exact leaves_refl _ s
  · split
    · exact (leaves_setStation s _ _).andThen (leaves_setStations _ _ rfl)
    · exact leaves_setStations s _ rfl

theorem leaves_endBus (s : State) : Leaves [.stations, .field] s (endBus s) :=
  (leaves_setStations s { s.field with exchange := none } rfl).andThen (leaves_grantBus _)

theorem leaves_abandonBus (s : State) (x : Nat) : Leaves [.stations, .field] s (abandonBus s x) := by
  unfold abandonBus
  split
  · exact leaves_ite (leaves_setStations s _ rfl) (leaves_refl _ s)
  · exact leaves_refl _ s

theorem leaves_enterStation (s : State) (x : Nat) (r : Station) (st : StationState) (cause : StationCause) :
    Leaves stationAreas s (enterStation s x r st cause) :=
  (leaves_setStation s x _).mono.andThen (leaves_stationNotice _ x cause)

theorem leaves_powerFirst (s : State) : Leaves stationAreas s (powerFirst s) := by
  unfold powerFirst
  split
  · exact leaves_ite (leaves_enterStation ..) (leaves_refl _ s)
  · exact leaves_refl _ s

theorem leaves_advanceSeq (s : State) (x : Nat) : Leaves stationAreas s (advanceSeq s x) := by
  unfold advanceSeq
  split
  · next y ys _ =>
    exact leaves_ite ((leaves_setStations s { s.field with startSeq := ys } rfl).mono.andThen
      (leaves_powerFirst _)) (leaves_refl _ s)
  · exact leaves_refl _ s

theorem leaves_leftPowering (was : StationState) (s : State) (x : Nat) :
    Leaves stationAreas s (leftPowering was s x) :=
  leaves_ite (leaves_advanceSeq s x) (leaves_refl _ s)

/-- A station leaves service, and bus and start-up sequence go on without it. -/
theorem leaves_dropStation (s : State) (x : Nat) (r : Station) (st was : StationState)
    (cause : StationCause) (l : List Instr) :
    Leaves stationAreas s
      (grantBus (abandonBus (leftPowering was ((enterStation s x r st cause).deliver l) x) x)) :=
  ((((leaves_enterStation s x r st cause).andThen (leaves_deliver _ l)).trans
    (leaves_leftPowering was _ x)).andThen (leaves_abandonBus _ x)).andThen (leaves_grantBus _)

theorem leaves_faultStation (s : State) (x : Nat) (f : StationFault) (cause : StationCause) :
    Leaves stationAreas s (faultStation s x f cause) := leaves_dropStation ..

theorem leaves_powerStation (s : State) (x : Nat) (cause : StationCause) :
    Leaves stationAreas s (powerStation s x cause) := leaves_enterStation ..

theorem leaves_contactCloses (s : State) (x : Nat) : Leaves stationAreas s (contactCloses s x) := by
  have h := (leaves_setStation s x { s.station x with contactClosed := true }).mono (l' := stationAreas)
  exact leaves_ite (h.trans (leaves_powerStation ..)) h

theorem leaves_contactOpens (s : State) (x : Nat) : Leaves stationAreas s (contactOpens s x) :=
  leaves_ite ((leaves_setStation s x _).mono.andThen (leaves_setStations _ _ rfl)) (leaves_dropStation ..)

theorem leaves_identify (s : State) (x : Nat) (m : ModuleReport) (serial : Word) :
    Leaves stationAreas s (identify s x m serial) :=
  leaves_ite (((leaves_enterStation s x _ _ _).andThen (leaves_deliver _ _)).andThen (leaves_endBus _))
    ((leaves_setStation s x _).mono.trans (leaves_faultStation ..))

theorem leaves_carriedNow (s : State) (x : Nat) (c : Carriage) :
    Leaves [.gates, .outputs, .field] s (carriedNow s x c) := by
  cases c with
  | nothing => exact leaves_refl _ s
  | stop g | drive g => exact (leaves_setGate s g _).mono
  | face n | pattern n => exact (leaves_setOut s n _).mono
  | blank => exact (leaves_markStation s x { s.station x with blankOwed := false } rfl).mono
  | darken =>
    simp only [carriedNow]
    split
    · exact (leaves_setOut s _ _).mono
    · exact leaves_refl _ s

/-- The answer of a station, with what it settles of its poll. -/
def answerAreas : List Area := [.notices, .gates, .outputs, .stations, .field, .deliveries]

theorem leaves_lostAnswers (s : State) (x : Nat) : Leaves stationAreas s (lostAnswers s x) :=
  (leaves_enterStation s x _ _ _).andThen (leaves_endBus _)

theorem leaves_activeAnswers (s : State) (x : Nat) (a : PollAnswer) :
    Leaves answerAreas s (activeAnswers s x a) :=
  (((leaves_setStation s x { s.station x with missed := 0 }).mono.andThen
    (leaves_carriedNow _ x _)).andThen (leaves_deliver _ _)).andThen (leaves_endBus _)

theorem leaves_pollAnswer (s : State) (x : Nat) (a : PollAnswer) :
    Leaves answerAreas s (pollAnswer s x a) := by
  unfold pollAnswer
  split
  · exact leaves_ite (leaves_activeAnswers ..) (leaves_refl _ s)
  · exact (leaves_lostAnswers s x).mono
  all_goals exact (leaves_endBus s).mono

theorem leaves_activeMisses (s : State) (x : Nat) : Leaves stationAreas s (activeMisses s x) :=
  leaves_ite (leaves_setStation s x _).mono
    ((leaves_enterStation s x _ _ _).andThen (leaves_deliver _ _))

theorem leaves_takeRole (x : Nat) (s : State) (c : Instr) : Leaves ownerAreas s (takeRole x s c) := by
  unfold takeRole
  split
  · exact leaves_ite ((leaves_taking s _).mono.andThen (leaves_placementEntered ..)) (leaves_refl _ s)
  · exact leaves_ite ((leaves_taking s _).mono.andThen (leaves_placementLeft ..)) (leaves_refl _ s)
  · exact leaves_ite ((leaves_taking s _).mono.andThen (leaves_gateRecorded ..)) (leaves_refl _ s)
  · exact leaves_ite ((leaves_taking s _).mono.andThen (leaves_gateLost ..)) (leaves_refl _ s)
  · exact leaves_ite ((leaves_taking s _).mono.andThen (leaves_stationReport ..)) (leaves_refl _ s)
  · exact leaves_ite ((leaves_taking s _).mono.andThen (leaves_stationReport ..)) (leaves_refl _ s)
  · exact leaves_ite ((leaves_taking s _).mono.andThen (leaves_tripLost ..)) (leaves_refl _ s)
  · exact leaves_ite ((leaves_taking s _).mono.andThen (leaves_beaconEntered ..)) (leaves_refl _ s)
  · exact leaves_ite ((leaves_taking s _).mono.andThen (leaves_beaconLeft ..)) (leaves_refl _ s)
  · exact leaves_refl _ s

theorem leaves_roleTaken (s : State) (x : Nat) : Leaves ownerAreas s (roleTaken s x) :=
  leaves_foldl _ (fun t c => leaves_takeRole x t c) _ s

theorem leaves_departAtOnce (s : State) (x : Nat) : Leaves ownerAreas s (departAtOnce s x) := by
  unfold departAtOnce
  split
  · exact (leaves_placementLeft s x).mono.andThen (leaves_takeRetargets _)
  · split
    · exact (leaves_gateLost ..).mono
    · exact leaves_refl _ s
  · exact (leaves_tripLost ..).mono
  · exact (leaves_beaconLeft ..).mono
  · exact leaves_refl _ s

theorem leaves_quiesceStation (s : State) (x : Nat) (cause : StationCause) :
    Leaves quiesceAreas s (quiesceStation s x cause) :=
  (leaves_enterStation s x _ _ _).mono.andThen (leaves_departAtOnce _ x)

theorem leaves_press (s : State) (x : Nat) : Leaves quiesceAreas s (press s x) := by
  unfold press
  split
  · exact leaves_ite ((leaves_setStation s x _).mono.andThen (leaves_stationNotice ..))
      ((leaves_roleTaken s x).mono.trans (leaves_quiesceStation ..))
  · exact (leaves_powerStation ..).mono
  all_goals exact leaves_refl _ s

theorem leaves_switchOff (s : State) (x : Nat) : Leaves stationAreas s (switchOff s x) :=
  (leaves_enterStation s x _ _ _).andThen (leaves_endBus _)

theorem leaves_quiesceMisses (s : State) (x : Nat) : Leaves stationAreas s (quiesceMisses s x) :=
  leaves_ite ((leaves_setStation s x _).mono.andThen (leaves_endBus _)) (leaves_switchOff s x)

theorem leaves_beginRound (s : State) : Leaves [.stations, .field] s (beginRound s) :=
  (leaves_setStations s _ (by simp)).andThen (leaves_grantBus _)

theorem leaves_runStationOff (s : State) (p x : Nat) :
    Leaves quiesceAreas s (runStationOff s p x).state := by
  unfold runStationOff
  split
  · exact leaves_refl _ s
  · exact (leaves_roleTaken s x).mono.trans (leaves_quiesceStation ..)

theorem leaves_runStationRestart (s : State) (p x : Nat) :
    Leaves stationAreas s (runStationRestart s p x).state := by
  unfold runStationRestart
  split
  · exact leaves_powerStation ..
  · exact leaves_refl _ s

/-! ## Library and loader -/

theorem leaves_runCursor (s : State) (p : Nat) (a : CursorArgs) :
    Leaves [.library] s (runCursor s p a).state := by
  unfold runCursor
  split
  · exact leaves_refl _ s
  · dsimp only
    split
    · exact (leaves_setSlot s _ _).andThen (leaves_setCursor _ _ _)
    · exact leaves_setCursor ..

theorem leaves_runWriteText (s : State) (p : Nat) (chars : List Byte) :
    Leaves [.library] s (runWriteText s p chars).state := by
  unfold runWriteText
  split
  · exact leaves_refl _ s
  · split
    · exact leaves_refl _ s
    · exact (leaves_setSlot s _ _).andThen (leaves_setCursor _ _ _)

theorem leaves_runLibraryClear (s : State) (p n : Nat) :
    Leaves [.library] s (runLibraryClear s p n).state := by
  unfold runLibraryClear
  split
  · exact leaves_refl _ s
  · exact leaves_setSlot ..

theorem leaves_runImageWrite (s : State) (p : Nat) (a : Nat × List Byte) :
    Leaves [.loader] s (runImageWrite s p a).state := by
  unfold runImageWrite
  split
  · exact leaves_refl _ s
  · exact leaves_setLoader s _ rfl

theorem leaves_runImageCommit (s : State) (p : Nat) (a : Unit) :
    Leaves [.loader] s (runImageCommit s p a).state := by
  unfold runImageCommit
  split
  · exact leaves_refl _ s
  · exact leaves_setLoader s _ rfl

/-! ## Agent commands -/

theorem leaves_setClock (s : State) (v : Clock) : Leaves [.clock] s { s with clock := v } :=
  leaves_of_changesOnly (bs := [.clock])
    (by intro b hb; cases b <;> first | rfl | simp at hb) ⟨rfl, rfl⟩

theorem leaves_runPresence (s : State) (p : Nat) (a : Unit) :
    Leaves [.auth, .notices] s (runPresence s p a).state := by
  unfold runPresence
  dsimp only
  split
  · split
    · exact leaves_refl _ s
    · exact (leaves_setLink s p _).mono
  · exact (leaves_setLink s p _).mono.andThen (leaves_portNotice ..)

theorem leaves_runWithdrawAll (s : State) (p : Nat) (a : Unit) :
    Leaves stackAreas s (runWithdrawAll s p a).state := by
  unfold runWithdrawAll
  dsimp only
  exact leaves_removeSource s (agentOf s p) .withdraw

/-- The areas an agent's action can change, the taking of its frame and its reply aside. -/
def kindAreas : CmdKind → List Area
  | .presence | .hold | .unhold => [.auth, .notices]
  | .status => []
  | .subscribe | .portClear => [.lines, .notices]
  | .setTime => [.clock]
  | .claim | .release | .forceRelease | .restartConfirm => segAreas
  | .gateFaultClear => gateAreas
  | .setLevel | .beginSweep | .zoneClear | .permitEnd => zoneAreas
  | .permitRequest => permitAreas
  | .post | .withdraw | .withdrawAll => stackAreas
  | .remap => [.placement, .field, .deliveries]
  | .cursor | .writeText | .libraryClear => [.library]
  | .reading => [.weather]
  | .forceChannel | .unforce => weatherAreas
  | .stationOff => quiesceAreas
  | .stationRestart => stationAreas
  | .imageWrite | .imageCommit => [.loader]

theorem leaves_run (k : CmdKind) (s : State) (p : Nat) (a : (commandOf k).1) :
    Leaves (kindAreas k) s ((commandOf k).2.run s p a).state := by
  cases k with
  | presence => exact leaves_runPresence s p a
  | status => exact leaves_refl _ s
  | subscribe | portClear => exact leaves_setPort s p _
  | setTime => exact leaves_setClock s _
  | hold => exact leaves_takeHolds _ _ s 0 0
  | unhold => exact leaves_dropOwn _ _ s 0
  | claim => exact Leaves.gathered (leaves_claimAll _ _ _ _ s 0) (by decide)
  | release => exact Leaves.gathered (leaves_releaseAll _ _ s 0) (by decide)
  | forceRelease | restartConfirm => exact leaves_dropClaim s _ _ _
  | gateFaultClear => exact leaves_runGateFaultClear s p a
  | setLevel => exact leaves_runSetLevel s p a
  | beginSweep => exact leaves_runBeginSweep s p a
  | zoneClear => exact leaves_runZoneClear s p a
  | permitRequest => exact leaves_runPermitRequest s p a
  | permitEnd => exact leaves_runPermitEnd s p a
  | post => exact leaves_runPost s p a
  | withdraw => exact leaves_runWithdraw s p a
  | withdrawAll => exact leaves_runWithdrawAll s p a
  | remap => exact leaves_runRemap s p a
  | cursor => exact leaves_runCursor s p a
  | writeText => exact leaves_runWriteText s p a
  | libraryClear => exact leaves_runLibraryClear s p a
  | reading => exact leaves_runReading s p a
  | forceChannel => exact leaves_runForceChannel s p a
  | unforce => exact leaves_runUnforce s p a
  | stationOff => exact leaves_runStationOff s p a
  | stationRestart => exact leaves_runStationRestart s p a
  | imageWrite => exact leaves_runImageWrite s p a
  | imageCommit => exact leaves_runImageCommit s p a

theorem leaves_answered (s : State) (p : Nat) (k : CmdKind) (code : Result) (data : List Byte) :
    Leaves [.lines, .notices] s (answered s p k code data) :=
  (leaves_popFrame s p).trans (leaves_owe _ p _)

theorem leaves_takeCommand {α : Type} (c : Command α) (p : Nat) (s : State) {l : List Area}
    (h : ∀ (s : State) (p : Nat) (a : α), Leaves l s (c.run s p a).state) :
    Leaves (.lines :: .notices :: l) s (takeCommand c p s) := by
  have hports : ∀ a ∈ [Area.lines, .notices], a ∈ .lines :: .notices :: l := by simp
  rcases takeCommand_cases c p s with hs | ⟨code, data, hs⟩ | ⟨a, hs⟩
  · rw [hs]; exact leaves_refl _ s
  · rw [hs]; exact (leaves_answered ..).mono hports
  · rw [hs]
    exact (((leaves_popFrame s p).mono hports).andThen (h _ p a)
      (by intro x hx; simp [hx])).andThen (leaves_owe _ p _) hports

/-! ## Every command -/

/-- The areas an event can change that is no agent's command. -/
def eventAreas : Instr → List Area
  | .secondBoundary =>
    [.clock, .auth, .segments, .gates, .zones, .weather, .evaluator, .demands, .outputs, .stations, .field]
  | .keyLineChange _ | .lowerBoundExpiry _ => [.auth]
  | .frameArrival .. | .interByteGapDiscard .. | .unknownKind _ | .replySent _ | .noticeSent _
  | .startByteBeginsFrame _ => [.lines, .notices]
  | .windowExpiry _ => [.auth, .notices, .deliveries]
  | .holdExpiry _ => [.auth, .notices]
  | .linkLossRemoval _ | .internalDelivery .. => .deliveries :: stackAreas
  | .demandExpiry .. => stackAreas
  | .detectorEvent .. | .zoneClearanceEvent .. | .lockStartEvent _ | .dwellExpiry _
  | .gateReportToSegment _ => segAreas
  | .lowerRequest _ | .raiseRequest _ | .gateReport .. | .travelTimeout _ | .retryIntervalExpiry _
  | .startupLimit | .gateStationLost _ | .gateStationReturn .. => gateAreas
  | .tripReport .. | .tripStationLost _ | .tripStationReturn .. | .permitExpiry _ => zoneAreas
  | .samplePeriodExpiry | .headReplyLimit | .discardTimerExpiry => [.weather]
  | .headPollReply .. | .immediateSampleReply _ | .staleLimit _ => weatherAreas
  | .evaluationEvent => [.evaluator, .notices, .deliveries]
  | .placeholderChange _ | .reRenderTimerExpiry _ | .retarget .. | .checksum .. => signAreas
  | .beaconStationEntry _ | .beaconStationDeparture _ => [.outputs, .deliveries]
  | .beaconFlashTiming => [.outputs]
  | .placementDeparture _ | .placementEntry _ => [.placement, .field, .deliveries]
  | .startupSequenceBegin | .faceCheckFailure _ | .presenceContactCloses _ | .presenceContactOpens _
  | .powerSettleExpiry _ | .identificationReport .. | .identTimeout _ | .pollUnanswered _
  | .lostStationReply _ | .overCurrentTrip _ | .quiescingExchangeUnanswered _ => stationAreas
  | .identRequest _ | .pollRound | .refusalBlinkEnd _ => [.stations, .field]
  | .pollAnswered .. | .quiescingExchangeAnswered _ => answerAreas
  | .attentionButton _ => quiesceAreas
  | .commitCompletion => [.loader]
  | _ => []

/-- The areas a command can change. -/
def instrAreas (c : Instr) : List Area :=
  match agentCommand c with
  | some (_, k) => .lines :: .notices :: kindAreas k
  | none => eventAreas c

theorem leaves_agentInstr {k : CmdKind} {p : Nat} {s t : State} (h : exec (agentInstr k p) s = .next t) :
    Leaves (.lines :: .notices :: kindAreas k) s t := by
  rw [exec_agentInstr] at h
  obtain ⟨-, rfl⟩ := onObject_next h
  exact leaves_takeCommand _ p s (leaves_run k)

theorem leaves_secondBoundary (s : State) :
    Leaves (eventAreas .secondBoundary) s (secondBoundary s) :=
  leaves_of_changesOnly
    (bs := [.clock, .auth, .segments, .gates, .zones, .weather, .evaluator, .arbiter, .field])
    (by intro b hb; cases b <;> first | rfl | simp at hb)
    ⟨rfl, by simp [tableSizes, secondBoundary, tickAuthority, tickGates, tickZones, tickWeather,
      tickArbiter]⟩

theorem leaves_mapOutputs (s : State) (e : Nat) (f : SignOut → SignOut) :
    Leaves [.outputs] s { s with arbiter := { s.arbiter with
      elapsed := e, outputs := s.arbiter.outputs.map f } } := by
  refine ⟨fun a ha => ?_⟩
  cases a with
  | outputs => simp at ha
  | lines => exact fun _ => PortTold.refl _
  | notices => exact fun _ => ⟨rfl, rfl⟩
  | tables => exact ⟨rfl, by simp [tableSizes]⟩
  | demands | stations => exact ⟨rfl, rfl⟩
  | _ => exact rfl

theorem leaves_startupLimit (s : State) : Leaves gateAreas s
    (if due s.gates.startLimit then
      (List.range 8).foldl limitGate { s with gates := { s.gates with startLimit := none } } else s) := by
  have h : Leaves gateAreas s { s with gates := { s.gates with startLimit := none } } :=
    leaves_of_changesOnly (bs := [.gates])
      (by intro b hb; cases b <;> first | rfl | simp at hb) ⟨rfl, rfl⟩
  exact leaves_ite (h.trans (leaves_foldl _ leaves_limitGate _ _)) (leaves_refl _ s)

end Sys2Proof.Machine

/-! PROOF. The areas each command can change. -/

namespace Sys2Proof.Machine

set_option Elab.async false

open Sys2Proof

theorem leaves_onSettle (s : State) (x : Nat) :
    Leaves stationAreas s
      (if (s.station x).state == .powering then
        advanceSeq (enterStation s x { s.station x with identDue := false } .identifying .settled) x
       else s) :=
  leaves_ite ((leaves_enterStation s x _ _ _).trans (leaves_advanceSeq _ x)) (leaves_refl _ s)

/-- What an event changes that is no agent's command. -/
theorem leaves_event {c : Instr} {s t : State} (hc : c ≠ .startUp) (ha : agentCommand c = none)
    (h : exec c s = .next t) : Leaves (eventAreas c) s t := by
  cases c
  all_goals dsimp only [eventAreas]
  case startUp => exact absurd rfl hc
  case startupSequenceBegin => cases h; exact (leaves_taking s _).mono.trans (leaves_powerFirst _)
  case secondBoundary => cases h; exact leaves_secondBoundary s
  case keyLineChange active =>
    cases h
    exact leaves_of_changesOnly (bs := [.auth])
      (by intro b hb; cases b <;> first | rfl | simp at hb) ⟨rfl, rfl⟩
  case frameArrival p bytes | replySent p | noticeSent p =>
    obtain ⟨-, rfl⟩ := onObject_next h; exact leaves_setPort s p _
  case interByteGapDiscard p b =>
    obtain ⟨-, rfl⟩ := onObject_next h
    exact leaves_ite (leaves_setPort s p _) (leaves_setPort s p _)
  case startByteBeginsFrame p =>
    obtain ⟨-, rfl⟩ := onObject_next h
    exact leaves_ite (leaves_setPort s p _) (leaves_refl _ s)
  case unknownKind p =>
    obtain ⟨-, rfl⟩ := onObject_next h
    unfold takeUnknown
    split
    · exact leaves_refl _ s
    · exact leaves_ite (leaves_refl _ s) ((leaves_popFrame s p).trans (leaves_owe _ p _))
  case lowerBoundExpiry p =>
    obtain ⟨-, rfl⟩ := onObject_next h
    exact leaves_ite (leaves_setLink s p _) (leaves_refl _ s)
  case windowExpiry p =>
    obtain ⟨-, rfl⟩ := onObject_next h
    exact leaves_ite (leaves_loseLink s p) (leaves_refl _ s)
  case linkLossRemoval src =>
    have ht : removeSource (s.taking (.linkLossRemoval src)) src .linkLoss = t :=
      Host.Outcome.next.inj h
    rw [← ht]
    exact (leaves_taking s _).mono.andThen (leaves_removeSource _ src _)
  case holdExpiry i =>
    obtain ⟨-, rfl⟩ := onObject_next h
    exact leaves_ite (leaves_dropHold s i _) (leaves_refl _ s)
  case detectorEvent i z =>
    obtain ⟨-, rfl⟩ := onObject_next h; exact (leaves_taking s _).mono.trans (leaves_detectorAt _ i z)
  case zoneClearanceEvent i z e =>
    obtain ⟨-, rfl⟩ := onObject_next h; exact (leaves_taking s _).mono.trans (leaves_clearanceAt _ i z e)
  case lockStartEvent i =>
    obtain ⟨-, rfl⟩ := onObject_next h; exact (leaves_taking s _).mono.trans (leaves_lockStartAt _ i)
  case dwellExpiry i =>
    obtain ⟨-, rfl⟩ := onObject_next h
    exact leaves_ite (leaves_segEvent s i _ _ _) (leaves_refl _ s)
  case gateReportToSegment g =>
    obtain ⟨-, rfl⟩ := onObject_next h
    split
    · exact (leaves_taking s _).mono.trans (leaves_reportAt _ _)
    · exact (leaves_taking s _).mono
  case lowerRequest g | raiseRequest g =>
    obtain ⟨-, rfl⟩ := onObject_next h
    exact leaves_ite ((leaves_taking s _).mono.trans (leaves_gateEvent _ g _ _)) (leaves_taking s _).mono
  case gateReport g r =>
    obtain ⟨-, rfl⟩ := onObject_next h; exact (leaves_taking s _).mono.trans (leaves_reportGate _ g r)
  case travelTimeout g | retryIntervalExpiry g =>
    obtain ⟨-, rfl⟩ := onObject_next h
    exact leaves_ite (leaves_gateEvent s g _ _) (leaves_refl _ s)
  case startupLimit => cases h; exact leaves_startupLimit s
  case gateStationLost g =>
    obtain ⟨-, rfl⟩ := onObject_next h; exact (leaves_taking s _).mono.trans (leaves_gateLost _ g)
  case gateStationReturn g r =>
    obtain ⟨-, rfl⟩ := onObject_next h; exact (leaves_taking s _).mono.trans (leaves_gateReturned _ g r)
  case tripReport x r | tripStationReturn x r =>
    obtain ⟨-, rfl⟩ := onObject_next h; exact (leaves_taking s _).mono.trans (leaves_stationReport _ x r)
  case tripStationLost x =>
    obtain ⟨-, rfl⟩ := onObject_next h; exact (leaves_taking s _).mono.trans (leaves_tripLost _ x)
  case permitExpiry z =>
    obtain ⟨-, rfl⟩ := onObject_next h
    exact leaves_ite (leaves_endPermit s z _) (leaves_refl _ s)
  case samplePeriodExpiry =>
    cases h
    exact leaves_ite ((leaves_pollsDue s).trans (leaves_grantLink _ _ rfl rfl)) (leaves_refl _ s)
  case headPollReply k c0 c1 c2 c3 =>
    obtain ⟨-, rfl⟩ := onObject_next h
    exact leaves_ite (((leaves_setHead s k _).mono.trans (leaves_takeCodes _ k c0 c1 c2 c3)).andThen
      (leaves_endExchange _)) (leaves_refl _ s)
  case headReplyLimit =>
    cases h
    split
    · exact (leaves_setHead s _ _).trans (leaves_endExchange _)
    · exact ((leaves_setHead s _ _).trans (leaves_immediateSilent _)).trans (leaves_endExchange _)
    · exact leaves_refl _ s
  case immediateSampleReply code =>
    cases h
    split
    · exact ((leaves_setHead s _ _).mono.trans (leaves_immediateAnswer _ code)).andThen
        (leaves_endExchange _)
    all_goals exact leaves_refl _ s
  case staleLimit c =>
    obtain ⟨-, rfl⟩ := onObject_next h
    split
    · exact leaves_ite (leaves_channelEvent s c _ _ _) (leaves_refl _ s)
    · exact leaves_refl _ s
  case discardTimerExpiry =>
    cases h
    split
    · exact leaves_setWeather s _ rfl rfl
    · exact leaves_refl _ s
  case evaluationEvent => cases h; exact leaves_ite (leaves_evaluate s) (leaves_refl _ s)
  case demandExpiry n src tag =>
    obtain ⟨-, rfl⟩ := onObject_next h
    exact leaves_ite (leaves_removeDemands s n _ _) (leaves_refl _ s)
  case internalDelivery n t c =>
    obtain ⟨-, rfl⟩ := onObject_next h
    exact (leaves_taking s _).mono.andThen (leaves_deliverDemand _ n t c)
  case placeholderChange n =>
    obtain ⟨-, rfl⟩ := onObject_next h
    exact (leaves_taking s _).mono.andThen (leaves_placeholderAt _ n)
  case reRenderTimerExpiry n =>
    obtain ⟨-, rfl⟩ := onObject_next h
    exact leaves_ite (leaves_ite (leaves_rerender s n).mono (leaves_setOut s n _).mono) (leaves_refl _ s)
  case checksum x v =>
    obtain ⟨-, rfl⟩ := onObject_next h
    exact (leaves_taking s _).mono.andThen (leaves_checksumAt _ x v)
  case retarget n a b =>
    obtain ⟨-, rfl⟩ := onObject_next h
    exact (leaves_taking s _).mono.andThen (leaves_retargetAt _ n a b)
  case faceCheckFailure x =>
    obtain ⟨-, rfl⟩ := onObject_next h
    exact leaves_ite ((leaves_taking s _).mono.trans (leaves_faultStation _ x _ _)) (leaves_taking s _).mono
  case placementDeparture x =>
    obtain ⟨-, rfl⟩ := onObject_next h; exact (leaves_taking s _).mono.trans (leaves_placementLeft _ x)
  case placementEntry x =>
    obtain ⟨-, rfl⟩ := onObject_next h; exact (leaves_taking s _).mono.trans (leaves_placementEntered _ x)
  case beaconStationEntry x =>
    obtain ⟨-, rfl⟩ := onObject_next h; exact (leaves_taking s _).mono.andThen (leaves_beaconEntered _ x)
  case beaconStationDeparture x =>
    obtain ⟨-, rfl⟩ := onObject_next h; exact (leaves_taking s _).mono.andThen (leaves_beaconLeft _ x)
  case beaconFlashTiming => cases h; exact leaves_mapOutputs s _ _
  case presenceContactCloses x =>
    obtain ⟨-, rfl⟩ := onObject_next h; exact leaves_ite (leaves_refl _ s) (leaves_contactCloses s x)
  case presenceContactOpens x =>
    obtain ⟨-, rfl⟩ := onObject_next h; exact leaves_ite (leaves_contactOpens s x) (leaves_refl _ s)
  case powerSettleExpiry x => obtain ⟨-, rfl⟩ := onObject_next h; exact leaves_onSettle s x
  case identRequest x =>
    obtain ⟨-, rfl⟩ := onObject_next h
    exact leaves_ite ((leaves_setStation s x _).trans (leaves_grantBus _)) (leaves_refl _ s)
  case identificationReport x m n =>
    obtain ⟨-, rfl⟩ := onObject_next h; exact leaves_ite (leaves_identify s x m n) (leaves_refl _ s)
  case identTimeout x =>
    obtain ⟨-, rfl⟩ := onObject_next h; exact leaves_ite (leaves_faultStation s x _ _) (leaves_refl _ s)
  case pollRound => cases h; exact leaves_ite (leaves_refl _ s) (leaves_beginRound s)
  case pollAnswered x a =>
    obtain ⟨-, rfl⟩ := onObject_next h; exact leaves_ite (leaves_pollAnswer s x a) (leaves_refl _ s)
  case pollUnanswered x =>
    obtain ⟨-, rfl⟩ := onObject_next h
    exact leaves_ite ((leaves_ite (leaves_activeMisses s x) (leaves_refl _ s)).andThen (leaves_endBus _))
      (leaves_ite (leaves_endBus s).mono (leaves_refl _ s))
  case lostStationReply x =>
    obtain ⟨-, rfl⟩ := onObject_next h; exact leaves_ite (leaves_lostAnswers s x) (leaves_refl _ s)
  case overCurrentTrip x =>
    obtain ⟨-, rfl⟩ := onObject_next h; exact leaves_ite (leaves_faultStation s x _ _) (leaves_refl _ s)
  case attentionButton x => obtain ⟨-, rfl⟩ := onObject_next h; exact leaves_press s x
  case refusalBlinkEnd x =>
    obtain ⟨-, rfl⟩ := onObject_next h; exact leaves_ite (leaves_setStation s x _) (leaves_refl _ s)
  case quiescingExchangeAnswered x =>
    obtain ⟨-, rfl⟩ := onObject_next h
    exact leaves_ite ((leaves_carriedNow s x _).mono.andThen (leaves_switchOff _ x)) (leaves_refl _ s)
  case quiescingExchangeUnanswered x =>
    obtain ⟨-, rfl⟩ := onObject_next h; exact leaves_ite (leaves_quiesceMisses s x) (leaves_refl _ s)
  case commitCompletion =>
    cases h; exact leaves_ite (leaves_setLoader s _ rfl) (leaves_refl _ s)
  all_goals simp [agentCommand] at ha

/-- No command but START_UP changes an area that is not listed for it. -/
theorem leaves_exec {c : Instr} {s t : State} (hc : c ≠ .startUp) (h : exec c s = .next t) :
    Leaves (instrAreas c) s t := by
  unfold instrAreas
  split
  · next p k ha =>
    rw [eq_agentInstr ha] at h
    exact leaves_agentInstr h
  · next ha => exact leaves_event hc ha h

/-- No command but START_UP touches the image in effect, the sizes of the tables or the queue. -/
theorem instrAreas_tables (c : Instr) : Area.tables ∉ instrAreas c ∧ Area.pending ∉ instrAreas c := by
  unfold instrAreas
  split
  · next k _ => cases k <;> decide
  · unfold eventAreas
    split <;> decide

theorem exec_tables {c : Instr} {s t : State} (hc : c ≠ .startUp) (h : exec c s = .next t)
    (ht : TablesOk s) : TablesOk t ∧ t.image = s.image :=
  ⟨(leaves_exec hc h).tablesOk ht (instrAreas_tables c).1, (leaves_exec hc h).image (instrAreas_tables c).1⟩

/-! ## Steps -/

/-- A step carries out one command on the state but for the queue, or idles. -/
theorem step_cases {s t : State} (h : step s = .next t) :
    t = s ∨ ∃ c rest, exec c { s with pending := rest } = .next t := by
  unfold step at h
  split at h
  · next c rest _ => exact .inr ⟨c, rest, h⟩
  · split at h
    · next c _ _ => exact .inr ⟨c, s.pending, h⟩
    · cases h; exact .inl rfl

/-- A property that no command but START_UP can break, that START_UP gives and that does not speak of the
queue is kept by every step. -/
theorem step_keeps {P : State → Prop} {s t : State} (hqueue : ∀ rest, P s → P { s with pending := rest })
    (hstart : ∀ u v, P u → exec .startUp u = .next v → P v)
    (hexec : ∀ c u v, c ≠ .startUp → P u → exec c u = .next v → P v)
    (h : step s = .next t) (hs : P s) : P t := by
  rcases step_cases h with rfl | ⟨c, rest, hc⟩
  · exact hs
  · by_cases hup : c = .startUp
    · subst hup; exact hstart _ _ (hqueue rest hs) hc
    · exact hexec c _ _ hup (hqueue rest hs) hc

end Sys2Proof.Machine

/-! PROOF. What is known of a command whose own action is carried out: it stands ready, and it passed every
check of R174. -/

namespace Sys2Proof.Machine

set_option Elab.async false

open Sys2Proof

variable {α : Type}

/-- A command is taken from its port without the probe flag and passes every check up to the hold check. -/
structure Taken (c : Command α) (s : State) (p : Nat) (a : α) (body : List Byte) : Prop where
  frame : nextFrame s p = some body
  kind : bodyKind body = c.kind.byte
  unprobed : bodyProbe body = false
  admitted : Admitted (popFrame s p) p c.kind
  args : checkedArgs c (popFrame s p) body = some a
  guarded : guardOk (popFrame s p) body = true
  unheld : heldByOther (popFrame s p) p (c.held (popFrame s p) a) = false

/-- Where a frame leaves an intake queue, no reply of an executed command was owed (R173). -/
theorem nextFrame_some {s : State} {p : Nat} {body : List Byte} (h : nextFrame s p = some body) :
    (s.port p).owed.any (·.executed) = false ∧ (s.port p).intake.head? = some body := by
  unfold nextFrame at h
  split at h
  · cases h
  · next hn => exact ⟨by simpa using hn, h⟩

theorem judge_run {c : Command α} {s : State} {p : Nat} {body : List Byte} :
    (∃ code data, judge c s p body = { code, data, state := s }) ∨
    ∃ a, judge c s p body = c.run s p a ∧ Admitted s p c.kind ∧ checkedArgs c s body = some a ∧
      guardOk s body = true ∧ heldByOther s p (c.held s a) = false := by
  by_cases hadm : Admitted s p c.kind
  · rw [judge_admitted hadm]
    cases hargs : checkedArgs c s body with
    | none => exact .inl ⟨_, _, rfl⟩
    | some a =>
      dsimp only
      by_cases hg : guardOk s body = true
      · by_cases hh : heldByOther s p (c.held s a) = true
        · exact .inl ⟨_, _, by simp [hg, hh]; rfl⟩
        · exact .inr ⟨a, by simp [hg, hh], hadm, rfl, hg, by simpa using hh⟩
      · exact .inl ⟨.stale, staleData s body, by simp [hg]⟩
  · refine .inl ?_
    unfold judge
    split
    · exact ⟨_, _, rfl⟩
    · next hb =>
      split
      · exact ⟨_, _, rfl⟩
      · next hl =>
        split
        · exact ⟨_, _, rfl⟩
        · next ha =>
          exact absurd ⟨by simpa using hb, by simpa using hl, or_iff_not_imp_left.2 (by simpa using ha)⟩ hadm

/-- What the taking of a command can do, with what is known where its own action is carried out. -/
theorem takeCommand_inv (c : Command α) (p : Nat) (s : State) :
    takeCommand c p s = s ∨
    (∃ body code data, nextFrame s p = some body ∧ takeCommand c p s = answered s p c.kind code data) ∨
    ∃ a body, Taken c s p a body ∧ takeCommand c p s =
      (c.run (popFrame s p) p a).state.owe p
        { kind := replyKind c.kind.byte, code := (c.run (popFrame s p) p a).code,
          data := (c.run (popFrame s p) p a).data, executed := true } := by
  cases hf : nextFrame s p with
  | none => exact .inl (by simp [takeCommand, hf])
  | some body =>
    by_cases hk : bodyKind body = c.kind.byte
    · have htake : takeCommand c p s =
          answer c.kind (popFrame s p) p body (judge c (popFrame s p) p body) := by
        simp [takeCommand, hf, hk]
      by_cases hp : bodyProbe body = true
      · exact .inr (.inl ⟨body, _, _, rfl, htake.trans (answer_probe _ _ _ _ _ hp)⟩)
      · rcases judge_run (c := c) (s := popFrame s p) (p := p) (body := body) with
          ⟨code, data, hj⟩ | ⟨a, hj, hadm, hargs, hg, hh⟩
        · exact .inr (.inl ⟨body, code, data, rfl, by simp [htake, hj, answer, hp, answered]⟩)
        · exact .inr (.inr ⟨a, body, ⟨hf, hk, by simpa using hp, hadm, hargs, hg, hh⟩,
            by rw [htake, hj]; simp [answer, hp]⟩)
    · exact .inl (by simp [takeCommand, hf, hk])

/-- The arguments of a command are what its body spells. -/
theorem checkedArgs_parse {c : Command α} {s : State} {body : List Byte} {a : α}
    (h : checkedArgs c s body = some a) : c.parse s (bodyArgs body) = some a := by
  unfold checkedArgs at h
  split at h
  · cases h
  · split at h
    · cases h
    · next b hb =>
      split at h
      · cases h; exact hb
      · split at h
        · cases h; exact hb
        · cases h

/-- A property of the state that taking a frame and owing a reply keep is kept by a command whose action
keeps it. -/
theorem takeCommand_keeps {P : State → Prop} {c : Command α} {p : Nat} {s : State} (hs : P s)
    (hpop : P s → P (popFrame s p)) (howe : ∀ u r, P u → P (u.owe p r))
    (hrun : ∀ a body, Taken c s p a body → P (popFrame s p) → P (c.run (popFrame s p) p a).state) :
    P (takeCommand c p s) := by
  rcases takeCommand_inv c p s with h | ⟨_, _, _, _, h⟩ | ⟨a, body, ht, h⟩
  · rwa [h]
  · rw [h]; exact howe _ _ (hpop hs)
  · rw [h]; exact howe _ _ (hrun a body ht (hpop hs))

end Sys2Proof.Machine

/-! PROOF. The step of the part: the command it carries out, which commands complete, and the state in which it
idles. -/

namespace Sys2Proof

set_option Elab.async false

open Sys2Proof.Machine

/-- A command goes on exactly where it names objects the part has; another raises the one fault. -/
theorem exec_onObject (c : Instr) (s : State) : ∃ t, exec c s = onObject c.wellFormed t := by
  cases c with
  | internalDelivery n topic content => 
    have hok : (Instr.internalDelivery n topic content).wellFormed = (signOk n && contentOk content) := by
      cases content <;> simp [Instr.wellFormed, contentOk]
    exact ⟨_, by rw [hok]; rfl⟩
  | _ => exact ⟨_, rfl⟩

theorem exec_complete {c : Instr} (s : State) (h : c.wellFormed = true) : ∃ t, exec c s = .next t := by
  obtain ⟨t, ht⟩ := exec_onObject c s
  exact ⟨t, by rw [ht, h, onObject_true]⟩

/-- No command touches the queue. -/
theorem exec_pending {c : Instr} {s t : State} (h : exec c s = .next t) : t.pending = s.pending := by
  by_cases hc : c = .startUp
  · subst hc; cases h; rfl
  · exact (leaves_exec hc h).kept .pending (instrAreas_tables c).2

/-- Settles O2: the operands decide between completion and the one fault, and the queue is no area of any
command. -/
theorem wellFormedCommandsComplete : Obligations.WellFormedCommandsComplete := by
  refine ⟨fun c s h => ?_, fun c s h => ?_, fun s hq => ?_⟩
  · obtain ⟨t, ht⟩ := exec_complete s h
    exact ⟨t, ht, exec_pending ht⟩
  · obtain ⟨t, ht⟩ := exec_onObject c s
    rw [ht, h, onObject_false]
  · obtain ⟨hpending, hdeliveries⟩ := hq
    unfold SafeStep step
    split
    · next c rest hp => exact exec_complete _ (hpending c (by simp [hp]))
    · split
      · next c rest hd => exact exec_complete _ (hdeliveries c (by simp [hd]))
      · exact ⟨s, rfl⟩

/-- Settles O1: it is what a step is. -/
theorem stepTakesFrontCommand : Obligations.StepTakesFrontCommand := fun _ _ _ => rfl

/-- Settles O3: a step on an empty queue reads off the deliveries, and a command without its frame at the
head of its port's queue does nothing. -/
theorem partIdlesWithoutWork : Obligations.PartIdlesWithoutWork := by
  refine ⟨fun s hp => ⟨fun c rest hd => by simp [step, hp, hd], fun hd => by simp [step, hp, hd]⟩,
    fun c p k s hc hp hno => ?_⟩
  rw [exec_agentCommand s hc hp, takeCommand_idle hp (by simpa using hno)]

/-- Settles O10: the key line enters the authority matrix through the cabinet's keyed rows alone. -/
theorem keyLineDecidesKeyedCommands : Obligations.KeyLineDecidesKeyedCommands := by
  intro s active
  refine ⟨_, rfl, rfl, fun b hb => by cases b <;> first | rfl | simp at hb, fun k hk src => ?_⟩
  simp only [List.mem_cons, List.not_mem_nil, or_false] at hk
  have hkeyed : ∀ key : Bool, authorized k src key = (src == .cab && key) := by
    intro key
    rcases hk with rfl | rfl | rfl | rfl | rfl | rfl <;> rfl
  exact ⟨by rw [hkeyed]; cases src <;> rfl, by cases src <;> rfl⟩

/-- Settles O51: each property is decided on the one state. -/
theorem resetStateIsConsistent : Obligations.ResetStateIsConsistent :=
  ⟨@of_decide_eq_true _ (tablesDec _) (by decide +kernel),
   @of_decide_eq_true _ (buffersDec _) (by decide +kernel),
   @of_decide_eq_true _ (authorityDec _) (by decide +kernel),
   @of_decide_eq_true _ (portsDec _) (by decide +kernel),
   @of_decide_eq_true _ (segmentsDec _) (by decide +kernel),
   @of_decide_eq_true _ (gatesDec _) (by decide +kernel),
   @of_decide_eq_true _ (zonesDec _) (by decide +kernel),
   @of_decide_eq_true _ (weatherDec _) (by decide +kernel),
   @of_decide_eq_true _ (evaluatorDec _) (by decide +kernel),
   @of_decide_eq_true _ (stacksDec _) (by decide +kernel),
   @of_decide_eq_true _ (countsDec _) (by decide +kernel),
   @of_decide_eq_true _ (libraryDec _) (by decide +kernel),
   @of_decide_eq_true _ (placementDec _) (by decide +kernel),
   @of_decide_eq_true _ (stationsDec _) (by decide +kernel)⟩

/-! ## START_UP -/

theorem safeImage_accepted : imageAccepted safeImage = true := by decide +kernel

/-- The load check lets no other image into effect. -/
theorem loadImage_accepted (m : Memory) (marker : Bool) : imageAccepted (loadImage m marker).1 = true := by
  unfold loadImage
  split
  · split
    · next img h =>
      unfold acceptedImage at h
      split at h
      · cases h
      · split at h
        · next ha => cases h; exact ha
        · cases h
    · exact safeImage_accepted
  · exact safeImage_accepted

theorem grantLink_sizes (w : Weather) :
    (grantLink w).heads.length = w.heads.length ∧ (grantLink w).channels.length = w.channels.length :=
  ⟨grantLink_heads_length w, by rw [grantLink_channels]⟩

theorem boot_tablesOk (l : Loader) (key : Bool) (contacts : List Bool) (pending : List Instr)
    (h : imageAccepted l.image = true) : TablesOk (boot l key contacts pending) := by
  rw [tablesOk_iff]
  exact ⟨h, by simp [tableSizes, boot, startBlocks, startWeather, grantLink_sizes]⟩

theorem exec_startUp (s : State) : exec .startUp s =
    .next (boot (reload s.loader) s.auth.keyLine (s.field.stations.map (·.contactClosed)) s.pending) := rfl

theorem startUp_tablesOk {s t : State} (h : exec .startUp s = .next t) : TablesOk t := by
  rw [exec_startUp] at h
  cases h
  exact boot_tablesOk _ _ _ _ (loadImage_accepted ..)

/-! ## The buffers -/

theorem argsImageWrite_bound {l : List Byte} {a : Nat × List Byte} (h : argsImageWrite l = some a) :
    a.1 + a.2.length ≤ 8192 := by
  unfold argsImageWrite at h
  split at h
  · next d =>
    split at h
    · next hb =>
      cases h
      simp only [Bool.and_eq_true, decide_eq_true_eq] at hb
      exact hb.2
    · cases h
  · cases h

/-- An agent's action keeps the buffers in canonical form: IMAGE WRITE writes within the staging buffer, and
no other touches a byte. -/
theorem run_buffersOk {k : CmdKind} {s : State} {p : Nat} {a : (commandOf k).1} {body : List Byte}
    (ht : Taken (commandOf k).2 s p a body) (hs : BuffersOk (popFrame s p)) :
    BuffersOk ((commandOf k).2.run (popFrame s p) p a).state := by
  obtain ⟨hm, hst⟩ := hs
  by_cases hl : Area.loader ∈ kindAreas k
  · cases k with
    | imageWrite =>
      have hbound := argsImageWrite_bound (checkedArgs_parse ht.args)
      show BuffersOk (runImageWrite (popFrame s p) p a).state
      unfold runImageWrite
      split
      · exact ⟨hm, hst⟩
      · exact ⟨hm, Memory.wf_writeRun _ hst hbound⟩
    | imageCommit =>
      show BuffersOk (runImageCommit (popFrame s p) p a).state
      unfold runImageCommit
      split <;> exact ⟨hm, hst⟩
    | _ => exact absurd hl (by decide)
  · have hload : ((commandOf k).2.run (popFrame s p) p a).state.loader = (popFrame s p).loader :=
      (leaves_run k _ p a).kept .loader hl
    exact ⟨by rw [hload]; exact hm, by rw [hload]; exact hst⟩

theorem commitCompletion_buffersOk {s t : State} (h : exec .commitCompletion s = .next t)
    (hs : BuffersOk s) : BuffersOk t := by
  cases h
  split
  · exact ⟨hs.2, hs.2⟩
  · exact hs

/-- Of the events that are no agent's command only the completion of a commit touches the loader. -/
theorem loader_event {c : Instr} (h : Area.loader ∈ eventAreas c) : c = .commitCompletion := by
  cases c <;> first | rfl | exact absurd h (by simp [eventAreas, segAreas, gateAreas, zoneAreas,
    weatherAreas, signAreas, stackAreas, stationAreas, answerAreas, quiesceAreas])

theorem exec_buffersOk {c : Instr} {s t : State} (hc : c ≠ .startUp) (hs : BuffersOk s)
    (h : exec c s = .next t) : BuffersOk t := by
  cases ha : agentCommand c with
  | some pk =>
    obtain ⟨p, k⟩ := pk
    rw [eq_agentInstr ha, exec_agentInstr] at h
    obtain ⟨-, rfl⟩ := onObject_next h
    exact takeCommand_keeps hs id (fun _ _ => id) fun _ _ => run_buffersOk
  | none =>
    by_cases hl : Area.loader ∈ eventAreas c
    · cases loader_event hl
      exact commitCompletion_buffersOk h hs
    · have hload : t.loader = s.loader := (leaves_event hc ha h).kept .loader hl
      exact ⟨by rw [hload]; exact hs.1, by rw [hload]; exact hs.2⟩

theorem startUp_buffersOk {s t : State} (hs : BuffersOk s) (h : exec .startUp s = .next t) :
    BuffersOk t := by
  rw [exec_startUp] at h
  cases h
  exact ⟨Memory.wf_memoryNow hs.1, Memory.wf_memoryNow hs.1⟩

/-- Settles O52: no command but START_UP touches a table's size or the image in effect, START_UP sets them
afresh, and each of the four commands that touch a buffer keeps its canonical form. -/
theorem stepsKeepTablesAndBuffers : Obligations.StepsKeepTablesAndBuffers := fun _ _ h =>
  ⟨step_keeps (fun _ => id) (fun _ _ _ h => startUp_tablesOk h)
      (fun _ _ _ hc ht h => (exec_tables hc h ht).1) h,
    step_keeps (fun _ => id) (fun _ _ => startUp_buffersOk) (fun _ _ _ => exec_buffersOk) h⟩

end Sys2Proof

/-! PROOF. Folds over the records of a table, and the hold records and links of the authority unit (R24–R33):
what each operation leaves in them. -/

namespace Sys2Proof.Machine

set_option Elab.async false

open Sys2Proof

/-! ## One operation at each record of a list -/

/-- An operation carried out once at each index of a list, under a condition it keeps: where it changes the
record of its own index alone, every index of the list has its record changed once. -/
theorem foldl_record {σ β : Type} {f : σ → Nat → σ} {get : σ → Nat → β} {g : Nat → β → β} {R : σ → Prop}
    {l : List Nat} (hl : l.Nodup) (hR : ∀ s, ∀ i ∈ l, R s → R (f s i))
    (hself : ∀ s, ∀ i ∈ l, R s → get (f s i) i = g i (get s i))
    (hne : ∀ s, ∀ i ∈ l, R s → ∀ j, j ≠ i → get (f s i) j = get s j) (s : σ) (hs : R s) (j : Nat) :
    get (l.foldl f s) j = if j ∈ l then g j (get s j) else get s j := by
  induction l generalizing s with
  | nil => simp
  | cons i l ih =>
    obtain ⟨hi, hnd⟩ := List.nodup_cons.1 hl
    have hstep := ih hnd (fun s k hk => hR s k (List.mem_cons_of_mem _ hk))
      (fun s k hk => hself s k (List.mem_cons_of_mem _ hk))
      (fun s k hk => hne s k (List.mem_cons_of_mem _ hk)) (f s i) (hR s i (by simp) hs)
    rw [List.foldl_cons, hstep]
    by_cases hj : j = i
    · subst hj
      simp [hi, hself s j (by simp) hs]
    · simp [hj, hne s i (by simp) hs j hj]

/-- A table entry of a mapped table. -/
theorem getD_map_default {α β : Type} (f : α → β) (l : List α) (i : Nat) (d : α) (e : β) (he : f d = e) :
    (l.map f).getD i e = f (l.getD i d) := by
  subst he
  simp [List.getD]

/-! ## Hold records (R30–R33) -/

theorem segNotice_hold (s : State) (i j : Nat) (cause : SegCause) :
    (segNotice s i cause).hold j = s.hold j := rfl

theorem dropHold_hold {s : State} {i : Nat} (cause : SegCause) (hi : i < s.auth.holds.length) (j : Nat) :
    (dropHold s i cause).hold j = if j = i then none else s.hold j := by
  rw [dropHold, segNotice_hold]
  split
  · next h => subst h; exact State.setHold_hold_self s j none hi
  · next h => exact State.setHold_hold_ne s i j none h

/-- What the loss of a link does to one hold (R28). -/
def dropIfOf (src : AgentSource) (t : State) (i : Nat) : State :=
  match t.hold i with
  | some h => if h.holder == src then dropHold t i .holdLost else t
  | none => t

theorem dropHolds_eq (s : State) (src : AgentSource) :
    dropHolds s src = (List.range 12).foldl (dropIfOf src) s := rfl

theorem dropIfOf_auth (src : AgentSource) (t : State) (i : Nat) :
    (dropIfOf src t i).auth.holds.length = t.auth.holds.length ∧
      (dropIfOf src t i).auth.links = t.auth.links ∧
      (dropIfOf src t i).auth.keyLine = t.auth.keyLine := by
  unfold dropIfOf
  split
  · split
    · exact ⟨by simp [dropHold, segNotice], rfl, rfl⟩
    · exact ⟨rfl, rfl, rfl⟩
  · exact ⟨rfl, rfl, rfl⟩

theorem dropIfOf_hold {t : State} {i : Nat} (src : AgentSource) (hi : i < t.auth.holds.length) (j : Nat) :
    (dropIfOf src t i).hold j =
      if j = i then (t.hold j).filter fun h => h.holder != src else t.hold j := by
  unfold dropIfOf
  cases hh : t.hold i with
  | none => by_cases hj : j = i <;> simp [hj, hh]
  | some h =>
    by_cases he : h.holder = src
    · by_cases hj : j = i <;> simp [he, dropHold_hold _ hi, hj, hh, Option.filter]
    · by_cases hj : j = i <;> simp [he, hj, hh, Option.filter]

/-- Every hold of the source is dropped, and no other (R28). -/
theorem dropHolds_hold {s : State} (src : AgentSource) (hlen : s.auth.holds.length = 12) {j : Nat}
    (hj : j < 12) :
    (dropHolds s src).hold j = (s.hold j).filter fun h => h.holder != src := by
  have hlt : ∀ t : State, ∀ i ∈ List.range 12, t.auth.holds.length = 12 → i < t.auth.holds.length :=
    fun t i hi ht => by rw [ht]; exact List.mem_range.1 hi
  rw [dropHolds_eq, foldl_record (get := State.hold) (R := fun t => t.auth.holds.length = 12)
    (g := fun _ h => h.filter fun h => h.holder != src) List.nodup_range
    (fun t i _ ht => (dropIfOf_auth src t i).1.trans ht)
    (fun t i hi ht => by simp [dropIfOf_hold src (hlt t i hi ht)])
    (fun t i hi ht j hj => by simp [dropIfOf_hold src (hlt t i hi ht), hj]) s hlen j,
    if_pos (List.mem_range.2 hj)]

/-- Each listed segment has the source's hold at the full duration (R31). -/
theorem takeHolds_hold (src : AgentSource) (segs : List Nat) (s : State) (n m j : Nat)
    (hj : j < s.auth.holds.length) :
    (takeHolds src segs (s, n, m)).1.hold j =
      if j ∈ segs then some { holder := src, remaining := s.image.holdDuration } else s.hold j := by
  induction segs generalizing s n m with
  | nil => simp [takeHolds]
  | cons i is ih =>
    have hset : (s.setHold i (some { holder := src, remaining := s.image.holdDuration })).hold j =
        if j = i then some { holder := src, remaining := s.image.holdDuration } else s.hold j := by
      split
      · next h => subst h; exact State.setHold_hold_self s j _ hj
      · next h => exact State.setHold_hold_ne s i j _ h
    simp only [takeHolds]
    split
    · rw [ih _ _ _ (by simpa [segNotice] using hj), segNotice_hold, hset]
      by_cases h : j = i <;> simp [h, segNotice, State.image]
    · rw [ih _ _ _ (by simpa using hj), hset]
      by_cases h : j = i <;> simp [h, State.image]

/-- Of the listed holds the source's own are dropped (R32). -/
theorem dropOwn_hold (src : AgentSource) (segs : List Nat) (s : State) (n j : Nat)
    (hj : j < s.auth.holds.length) :
    (dropOwn src segs (s, n)).1.hold j =
      if j ∈ segs ∧ (s.hold j).map (·.holder) = some src then none else s.hold j := by
  induction segs generalizing s n with
  | nil => simp [dropOwn]
  | cons i is ih =>
    simp only [dropOwn]
    by_cases hji : j = i
    · subst hji
      cases hh : s.hold j with
      | none => simp [ih s _ hj, hh]
      | some h =>
        by_cases he : h.holder = src
        · have hdrop : (dropHold s j .holdReleased).hold j = none := by simp [dropHold_hold _ hj]
          simp [he, ih _ _ (show j < (dropHold s j .holdReleased).auth.holds.length by
            simpa [dropHold, segNotice] using hj), hdrop]
        · simp [he, ih s _ hj, hh]
    · cases hh : s.hold i with
      | none => simp [ih s _ hj, hji]
      | some h =>
        by_cases he : h.holder = src
        · have hkeep : (dropHold s i .holdReleased).hold j = s.hold j :=
            State.setHold_hold_ne s i j none hji
          simp [he, ih _ _ (show j < (dropHold s i .holdReleased).auth.holds.length by
            simpa [dropHold, segNotice] using hj), hkeep, hji]
        · simp [he, ih s _ hj, hji]

theorem dropHolds_links (s : State) (src : AgentSource) :
    (dropHolds s src).auth.links = s.auth.links ∧ (dropHolds s src).auth.keyLine = s.auth.keyLine := by
  have h : ∀ (l : List Nat) (t : State), (l.foldl (dropIfOf src) t).auth.links = t.auth.links ∧
      (l.foldl (dropIfOf src) t).auth.keyLine = t.auth.keyLine := by
    intro l
    induction l with
    | nil => exact fun _ => ⟨rfl, rfl⟩
    | cons i l ih =>
      intro t
      obtain ⟨-, hl, hk⟩ := dropIfOf_auth src t i
      exact ⟨(ih _).1.trans hl, (ih _).2.trans hk⟩
  rw [dropHolds_eq]
  exact h _ s

theorem takeHolds_links (src : AgentSource) (segs : List Nat) (s : State) (n m : Nat) :
    (takeHolds src segs (s, n, m)).1.auth.links = s.auth.links ∧
    (takeHolds src segs (s, n, m)).1.auth.keyLine = s.auth.keyLine := by
  induction segs generalizing s n m with
  | nil => exact ⟨rfl, rfl⟩
  | cons i is ih =>
    simp only [takeHolds]
    split <;> exact ih _ _ _

theorem dropOwn_links (src : AgentSource) (segs : List Nat) (s : State) (n : Nat) :
    (dropOwn src segs (s, n)).1.auth.links = s.auth.links ∧
    (dropOwn src segs (s, n)).1.auth.keyLine = s.auth.keyLine := by
  induction segs generalizing s n with
  | nil => exact ⟨rfl, rfl⟩
  | cons i is ih =>
    simp only [dropOwn]
    split
    · split <;> exact ih _ _
    · exact ih _ _

/-! ## The binding of an accepted image (R20) -/

theorem imageAccepted_ports {img : Image} (h : imageAccepted img = true) :
    img.ports.length = 4 ∧ portsOk img = true := by
  simp only [imageAccepted, sizesOk, Bool.and_eq_true, beq_iff_eq] at h
  tauto

/-- A bound port of an accepted image: its lower bound lies within its window. -/
theorem imagePort_bounds {img : Image} {p : Nat} {b : PortBinding} (ha : imageAccepted img = true)
    (h : imagePort img p = some b) :
    p < 4 ∧ b.lower ≤ 30 ∧ 5 ≤ b.upper ∧ b.upper ≤ 600 ∧ (b.lower = 0 ∨ b.lower < b.upper) := by
  obtain ⟨hlen, hports⟩ := imageAccepted_ports ha
  have hp : p < img.ports.length := by
    by_contra hn
    simp [imagePort, List.getD, Nat.not_lt.1 hn] at h
  have hmem : some b ∈ img.ports := by
    rw [← h]
    simp [imagePort, List.getD, hp]
  simp only [portsOk, Bool.and_eq_true, List.all_eq_true] at hports
  have hb := hports.2 _ hmem
  simp only [within, Bool.and_eq_true, Bool.or_eq_true, decide_eq_true_eq, beq_iff_eq] at hb
  omega

theorem sourceOf_eq_some {s : State} {p : Nat} {src : AgentSource} (h : s.sourceOf p = some src) :
    ∃ b, imagePort s.image p = some b ∧ b.source = src := by
  simpa [State.sourceOf] using h

end Sys2Proof.Machine

/-! PROOF. Every step keeps the ports within their bounds and the links and holds consistent (R24, R28, R30,
R31, R173, R176, R177). -/

namespace Sys2Proof

set_option Elab.async false

open Sys2Proof.Machine

/-! ## Ports -/

/-- Notices keep a port within its bounds. -/
theorem port_ok_of_told {q r : Port} (h : PortTold q r) (hq : q.ok) : r.ok := by
  obtain ⟨hin, hurgent, hbusy, hexec, hnotices, herr⟩ := hq
  refine ⟨by rwa [h.intake], by rwa [h.intake], ?_, by rwa [h.owed], h.bounded hnotices, by rwa [h.crcErrors]⟩
  rwa [busyOwed, h.owed]

theorem portsOk_of_told {s t : State} (h : Area.lines.kept s t) (himg : t.image = s.image)
    (hs : PortsOk s) : PortsOk t := by
  intro p hp
  obtain ⟨hok, hbound⟩ := hs p hp
  refine ⟨port_ok_of_told (h p) hok, fun hnone => ?_⟩
  obtain ⟨hsub, hno⟩ := hbound (by rwa [State.sourceOf, himg] at hnone)
  exact ⟨(h p).subscription.trans hsub, ((h p).silent hsub).trans hno⟩

/-- A port that is written within its bounds; where it is unbound nothing is subscribed and nothing waits. -/
theorem portsOk_setPort {s : State} {p : Nat} {q : Port} (hs : PortsOk s) (hlen : s.ports.length = 4)
    (hq : p < 4 → q.ok)
    (hbound : s.sourceOf p = none → (s.port p).subscription = 0 → (s.port p).notices = [] →
      q.subscription = 0 ∧ q.notices = []) : PortsOk (s.setPort p q) := by
  intro k hk
  by_cases h : k = p
  · subst h
    rw [State.setPort_port_self s k q (by omega)]
    obtain ⟨-, hsilent⟩ := hs k hk
    exact ⟨hq hk, fun hnone => hbound hnone (hsilent hnone).1 (hsilent hnone).2⟩
  · rw [State.setPort_port_ne s p k q h]
    exact hs k hk

/-- The urgent frames of an intake queue stand ahead of the routine ones (R173). -/
def UrgentFirst (l : List (List Byte)) : Prop :=
  l.Pairwise fun a b => bodyUrgent b = true → bodyUrgent a = true

theorem urgentFirst_placeFrame {l : List (List Byte)} (body : List Byte) (h : UrgentFirst l) :
    UrgentFirst (placeFrame l body) := by
  unfold placeFrame UrgentFirst at *
  split
  · next hu =>
    simp only [List.pairwise_append, List.mem_append, List.mem_filter, List.mem_singleton]
    refine ⟨⟨h.sublist List.filter_sublist, by simp, ?_⟩, h.sublist List.filter_sublist, ?_⟩
    · rintro a ⟨-, ha⟩ b rfl _
      exact ha
    · rintro a (⟨-, ha⟩ | rfl) b ⟨-, hb⟩ hub
      · exact ha
      · exact hu
  · next hu =>
    rw [List.pairwise_append]
    exact ⟨h, by simp, fun a _ b hb hub => by simp_all⟩

theorem length_placeFrame (l : List (List Byte)) (body : List Byte) :
    (placeFrame l body).length = l.length + 1 := by
  unfold placeFrame
  split
  · have h : (l.filter bodyUrgent).length + (l.filter fun b => !bodyUrgent b).length = l.length := by
      simpa using (List.length_eq_length_filter_add (l := l) bodyUrgent).symm
    simp only [List.length_append, List.length_singleton]
    omega
  · simp

theorem arrive_ok {q : Port} (body : List Byte) (hq : q.ok) : (q.arrive body).ok := by
  obtain ⟨hin, hurgent, hbusy, hexec, hnotices, herr⟩ := hq
  unfold Port.arrive
  split
  · next hlt =>
    exact ⟨by rw [length_placeFrame]; omega, urgentFirst_placeFrame body hurgent, hbusy, hexec, hnotices, herr⟩
  · split
    · next hb => exact ⟨hin, hurgent, by simpa [busyOwed] using hb, by simpa using hexec, hnotices, herr⟩
    · exact ⟨hin, hurgent, hbusy, hexec, hnotices, herr⟩

theorem discard_ok {q : Port} (hq : q.ok) : q.discard.ok := by
  obtain ⟨hin, hurgent, hbusy, hexec, hnotices, -⟩ := hq
  exact ⟨hin, hurgent, hbusy, hexec, hnotices, by simp [Port.discard]⟩

theorem assembly_ok {q : Port} (a : Assembly) (hq : q.ok) : Port.ok { q with assembly := a } := hq

theorem takeByte_ok {q : Port} (b : Byte) (hq : q.ok) : (q.takeByte b).ok := by
  unfold Port.takeByte
  split
  · split
    · exact assembly_ok _ hq
    · exact hq
  · split
    · exact discard_ok hq
    · exact assembly_ok _ hq
  · split
    · exact assembly_ok _ hq
    · unfold Port.complete
      dsimp only
      split
      · exact arrive_ok _ (assembly_ok _ hq)
      · exact discard_ok hq

/-- What the receive assembly does leaves subscription and notices. -/
theorem takeByte_silent (q : Port) (b : Byte) :
    (q.takeByte b).subscription = q.subscription ∧ (q.takeByte b).notices = q.notices := by
  unfold Port.takeByte
  split
  · split <;> exact ⟨rfl, rfl⟩
  · split <;> exact ⟨rfl, rfl⟩
  · split
    · exact ⟨rfl, rfl⟩
    · unfold Port.complete
      dsimp only
      split
      · unfold Port.arrive
        split
        · exact ⟨rfl, rfl⟩
        · split <;> exact ⟨rfl, rfl⟩
      · exact ⟨rfl, rfl⟩

theorem foldl_takeByte_ok (l : List Byte) {q : Port} (hq : q.ok) : (l.foldl Port.takeByte q).ok := by
  induction l generalizing q with
  | nil => exact hq
  | cons b l ih => exact ih (takeByte_ok b hq)

theorem foldl_takeByte_silent (l : List Byte) (q : Port) :
    (l.foldl Port.takeByte q).subscription = q.subscription ∧
      (l.foldl Port.takeByte q).notices = q.notices := by
  induction l generalizing q with
  | nil => exact ⟨rfl, rfl⟩
  | cons b l ih =>
    obtain ⟨hs, hn⟩ := ih (q.takeByte b)
    obtain ⟨hs', hn'⟩ := takeByte_silent q b
    exact ⟨hs.trans hs', hn.trans hn'⟩

/-- No reply of an executed command is owed on the port. -/
def NoneExecuted (s : State) (p : Nat) : Prop := ((s.port p).owed.filter (·.executed)).length = 0

theorem noneExecuted_of_nextFrame {s : State} {p : Nat} {body : List Byte}
    (h : nextFrame s p = some body) : NoneExecuted s p := by
  have hnone := (nextFrame_some h).1
  simp only [List.any_eq_false] at hnone
  simpa [NoneExecuted, List.filter_eq_nil_iff] using hnone

theorem popFrame_portsOk {s : State} (p : Nat) (hs : PortsOk s) (hlen : s.ports.length = 4) :
    PortsOk (popFrame s p) := by
  refine portsOk_setPort hs hlen (fun hp => ?_) fun _ h1 h2 => ⟨h1, h2⟩
  obtain ⟨hin, hurgent, hbusy, hexec, hnotices, herr⟩ := (hs p hp).1
  exact ⟨by simp; omega, hurgent.sublist (List.drop_sublist _ _), hbusy, hexec, hnotices, herr⟩

theorem popFrame_owed (s : State) (p : Nat) : ((popFrame s p).port p).owed = (s.port p).owed := by
  by_cases hp : p < s.ports.length
  · rw [popFrame, State.setPort_port_self s p _ hp]
  · have h : ∀ t : State, t.ports.length = s.ports.length → t.port p = default := fun t ht => by
      simp [State.port, List.getD, ht, Nat.not_lt.1 hp]
    rw [h s rfl, h (popFrame s p) (by simp [popFrame])]

/-- One reply of an executed command may be owed where none was. -/
theorem owe_portsOk {s : State} {p : Nat} (r : Reply) (hr : r.executed = true) (hs : PortsOk s)
    (hlen : s.ports.length = 4) (hfree : NoneExecuted s p) : PortsOk (s.owe p r) := by
  refine portsOk_setPort hs hlen (fun hp => ?_) fun _ h1 h2 => ⟨h1, h2⟩
  obtain ⟨hin, hurgent, hbusy, -, hnotices, herr⟩ := (hs p hp).1
  rw [NoneExecuted] at hfree
  exact ⟨hin, hurgent, by simpa [busyOwed, hr] using hbusy, by simp [hr, hfree], hnotices, herr⟩

theorem answered_portsOk {s : State} {p : Nat} (k : CmdKind) (code : Result) (data : List Byte)
    (hs : PortsOk s) (hlen : s.ports.length = 4) (hfree : NoneExecuted s p) :
    PortsOk (answered s p k code data) := by
  refine owe_portsOk _ rfl (popFrame_portsOk p hs hlen) (by simpa [popFrame] using hlen) ?_
  rwa [NoneExecuted, popFrame_owed]

/-- A command other than STATUS that is admitted comes from a bound port (R21). -/
theorem Admitted.bound {s : State} {p : Nat} {k : CmdKind} (h : Admitted s p k) (hk : k ≠ .status) :
    ∃ src, s.sourceOf p = some src := by
  have hb := h.1
  simpa [bindingOk, hk, Option.isSome_iff_exists] using hb

/-- An action keeps the ports within their bounds and the replies owed on its own port. -/
theorem run_portsOk {k : CmdKind} {s : State} {p : Nat} (a : (commandOf k).1)
    (hadm : Admitted s p (commandOf k).2.kind) (hs : PortsOk s) (hlen : s.ports.length = 4) :
    PortsOk ((commandOf k).2.run s p a).state ∧
      ((((commandOf k).2.run s p a).state).port p).owed = (s.port p).owed := by
  by_cases hl : Area.lines ∈ kindAreas k
  · have hk : k = .subscribe ∨ k = .portClear := by
      cases k <;> simp_all [kindAreas, segAreas, gateAreas, zoneAreas, permitAreas, stackAreas,
        weatherAreas, quiesceAreas, stationAreas]
    have howed : ∀ q : Port, q.owed = (s.port p).owed → ((s.setPort p q).port p).owed = (s.port p).owed := by
      intro q hq
      by_cases hp : p < s.ports.length
      · rw [State.setPort_port_self s p q hp, hq]
      · have hdef : ∀ t : State, t.ports.length = s.ports.length → t.port p = default := fun t ht => by
          simp [State.port, List.getD, ht, Nat.not_lt.1 hp]
        rw [hdef s rfl, hdef (s.setPort p q) (by simp)]
    rcases hk with rfl | rfl
    · obtain ⟨src, hsrc⟩ := hadm.bound (by decide)
      exact ⟨portsOk_setPort hs hlen (fun hp => (hs p hp).1) fun h => by simp [hsrc] at h, howed _ rfl⟩
    · refine ⟨portsOk_setPort hs hlen (fun hp => ?_) fun _ _ _ => ⟨rfl, rfl⟩, howed _ rfl⟩
      obtain ⟨-, -, hbusy, hexec, -, -⟩ := (hs p hp).1
      exact ⟨by simp [Port.cleared], by simp [Port.cleared], hbusy, hexec, by simp [Port.cleared],
        by simp [Port.cleared]⟩
  · have h := leaves_run k s p a
    have himg : ((commandOf k).2.run s p a).state.image = s.image := by
      refine h.image ?_
      cases k <;> decide
    exact ⟨portsOk_of_told (h.kept .lines hl) himg hs, (h.kept .lines hl p).owed⟩

theorem agentInstr_portsOk {k : CmdKind} {p : Nat} {s t : State} (ht : TablesOk s) (hs : PortsOk s)
    (h : exec (agentInstr k p) s = .next t) : PortsOk t := by
  rw [exec_agentInstr] at h
  obtain ⟨-, rfl⟩ := onObject_next h
  obtain ⟨-, -, -, hlen, -⟩ := ht
  have hlen' : (popFrame s p).ports.length = 4 := by simpa [popFrame] using hlen
  rcases takeCommand_inv (commandOf k).2 p s with he | ⟨body, code, data, hf, he⟩ | ⟨a, body, htk, he⟩
  · rwa [he]
  · rw [he]
    exact answered_portsOk _ _ _ hs hlen (noneExecuted_of_nextFrame hf)
  · rw [he]
    obtain ⟨hok, howed⟩ := run_portsOk a htk.admitted (popFrame_portsOk p hs hlen) hlen'
    have hsize : ((commandOf k).2.run (popFrame s p) p a).state.ports.length = 4 := by
      rw [tableSizes_ports ((leaves_run k _ p a).tables (by cases k <;> decide)).2, hlen']
    refine owe_portsOk _ rfl hok hsize ?_
    rw [NoneExecuted, howed, popFrame_owed]
    exact noneExecuted_of_nextFrame htk.frame

/-- The events of the agent lines. -/
theorem line_event_portsOk {c : Instr} {s t : State} (ht : TablesOk s) (hs : PortsOk s)
    (hl : Area.lines ∈ eventAreas c) (h : exec c s = .next t) : PortsOk t := by
  obtain ⟨-, -, -, hlen, -⟩ := ht
  have hport : ∀ (p : Nat) (q : Port), (p < 4 → (s.port p).ok → q.ok) →
      q.subscription = (s.port p).subscription → ((s.port p).notices = [] → q.notices = []) →
      PortsOk (s.setPort p q) := fun p q hq hsub hnot =>
    portsOk_setPort hs hlen (fun hp => hq hp (hs p hp).1) fun _ h1 h2 => ⟨hsub.trans h1, hnot h2⟩
  cases c
  case frameArrival p bytes =>
    obtain ⟨-, rfl⟩ := onObject_next h
    obtain ⟨hsub, hnot⟩ := foldl_takeByte_silent bytes (s.port p)
    exact hport p _ (fun _ hq => foldl_takeByte_ok bytes hq) hsub fun h0 => hnot.trans h0
  case interByteGapDiscard p b =>
    obtain ⟨-, rfl⟩ := onObject_next h
    have hwhole := takeByte_silent (s.port p) b
    have hbegun := takeByte_silent (s.port p).discard b
    split
    · exact hport p _ (fun _ hq => takeByte_ok b hq) hwhole.1 fun h0 => hwhole.2.trans h0
    · exact hport p _ (fun _ hq => takeByte_ok b (discard_ok hq)) hbegun.1 fun h0 => hbegun.2.trans h0
  case startByteBeginsFrame p =>
    obtain ⟨-, rfl⟩ := onObject_next h
    split
    · exact hport p _ (fun _ hq => assembly_ok _ hq) rfl id
    · exact hs
  case replySent p =>
    obtain ⟨-, rfl⟩ := onObject_next h
    refine hport p _ (fun _ hq => ?_) ?_ ?_
    · obtain ⟨hin, hurgent, hbusy, hexec, hnotices, herr⟩ := hq
      unfold Port.sendReply
      split
      · exact ⟨hin, hurgent, hbusy, hexec, hnotices, herr⟩
      · next r rs hr =>
        have hsub : ∀ f : Reply → Bool, (rs.filter f).length ≤ ((s.port p).owed.filter f).length := by
          intro f
          rw [hr]
          exact ((List.sublist_cons_self r rs).filter f).length_le
        exact ⟨hin, hurgent, (hsub _).trans hbusy, (hsub _).trans hexec, hnotices, herr⟩
    all_goals unfold Port.sendReply; split
    · rfl
    · rfl
    · exact id
    · exact id
  case noticeSent p =>
    obtain ⟨-, rfl⟩ := onObject_next h
    refine hport p _ (fun _ hq => ?_) ?_ ?_
    · obtain ⟨hin, hurgent, hbusy, hexec, hnotices, herr⟩ := hq
      unfold Port.sendNotice
      split
      · split
        · exact ⟨hin, hurgent, hbusy, hexec, hnotices, herr⟩
        · next n ns hn =>
          exact ⟨hin, hurgent, hbusy, hexec, by rw [hn] at hnotices; simp at hnotices ⊢; omega, herr⟩
      · exact ⟨hin, hurgent, hbusy, hexec, hnotices, herr⟩
    all_goals unfold Port.sendNotice; split
    · split <;> rfl
    · rfl
    · split
      · exact id
      · next n ns hn => intro h0; simp [hn] at h0
    · exact id
  case unknownKind p =>
    obtain ⟨-, rfl⟩ := onObject_next h
    unfold takeUnknown
    split
    · exact hs
    · next body hf =>
      split
      · exact hs
      · refine owe_portsOk _ rfl (popFrame_portsOk p hs hlen) (by simpa [popFrame] using hlen) ?_
        rw [NoneExecuted, popFrame_owed]
        exact noneExecuted_of_nextFrame hf
  all_goals simp [eventAreas, segAreas, gateAreas, zoneAreas, weatherAreas, signAreas, stackAreas,
    stationAreas, answerAreas, quiesceAreas] at hl

theorem exec_portsOk {c : Instr} {s t : State} (hc : c ≠ .startUp) (ht : TablesOk s) (hs : PortsOk s)
    (h : exec c s = .next t) : PortsOk t := by
  cases ha : agentCommand c with
  | some pk =>
    rw [eq_agentInstr (p := pk.1) (k := pk.2) ha] at h
    exact agentInstr_portsOk ht hs h
  | none =>
    by_cases hl : Area.lines ∈ eventAreas c
    · exact line_event_portsOk ht hs hl h
    · exact portsOk_of_told ((leaves_event hc ha h).kept .lines hl) (exec_tables hc h ht).2 hs

theorem startUp_portsOk {s t : State} (h : exec .startUp s = .next t) : PortsOk t := by
  rw [exec_startUp] at h
  cases h
  intro p hp
  have hport : ∀ l key contacts pending, (boot l key contacts pending).port p = Port.reset := by
    intro l key contacts pending
    show (List.replicate 4 Port.reset).getD p default = Port.reset
    rw [List.getD_replicate _ hp]
  rw [hport]
  exact ⟨by refine ⟨?_, ?_, ?_, ?_, ?_, ?_⟩ <;> simp [Port.reset, busyOwed], fun _ => ⟨rfl, rfl⟩⟩

end Sys2Proof

/-! PROOF. Invariants of one block: what no command outside the block's own can break. Then the authority unit's
(R24, R25, R28, R30, R31). -/

namespace Sys2Proof.Machine

set_option Elab.async false

open Sys2Proof

/-! ## Invariants of some areas -/

/-- A property of the image and of some areas, none a port's: the commands that change one of these areas decide
whether it is kept. -/
theorem exec_keeps {P : State → Prop} (l : List Area)
    (hframe : ∀ s t : State, (∀ a ∈ l, a.kept s t) → t.image = s.image → P s → P t)
    (hrun : ∀ k s p x body, (∃ a ∈ l, a ∈ kindAreas k) → Taken (commandOf k).2 s p x body →
      TablesOk (popFrame s p) → P (popFrame s p) → P ((commandOf k).2.run (popFrame s p) p x).state)
    (hevent : ∀ c s t, c ≠ .startUp → agentCommand c = none → (∃ a ∈ l, a ∈ eventAreas c) →
      TablesOk s → P s → exec c s = .next t → P t)
    {c : Instr} {s t : State} (hc : c ≠ .startUp) (ht : TablesOk s) (hs : P s) (h : exec c s = .next t)
    (hl : Area.lines ∉ l ∧ Area.notices ∉ l := by decide) : P t := by
  cases ha : agentCommand c with
  | some pk =>
    obtain ⟨p, k⟩ := pk
    rw [eq_agentInstr ha, exec_agentInstr] at h
    obtain ⟨-, rfl⟩ := onObject_next h
    have hside : ∀ a ∈ l, a ∉ [Area.lines, Area.notices] := fun a ha hm => by
      rcases List.mem_pair.1 hm with rfl | rfl
      · exact hl.1 ha
      · exact hl.2 ha
    have hpop : P (popFrame s p) := hframe s _ (fun a ha => (leaves_popFrame s p).kept a (hside a ha)) rfl hs
    refine takeCommand_keeps hs (fun _ => hpop)
      (fun u r hu => hframe u _ (fun a ha => (leaves_owe u p r).kept a (hside a ha)) rfl hu)
      fun x body htk _ => ?_
    by_cases hk : ∃ a ∈ l, a ∈ kindAreas k
    · exact hrun k s p x body hk htk ((leaves_popFrame s p).tablesOk ht) hpop
    · have hleaves := leaves_run k (popFrame s p) p x
      exact hframe _ _ (fun a ha => hleaves.kept a fun hm => hk ⟨a, ha, hm⟩)
        (hleaves.image (by cases k <;> decide)) hpop
  | none =>
    by_cases hk : ∃ a ∈ l, a ∈ eventAreas c
    · exact hevent c s t hc ha hk ht hs h
    · exact hframe s t (fun a hm => (leaves_event hc ha h).kept a fun hm' => hk ⟨a, hm, hm'⟩)
        (exec_tables hc h ht).2 hs

/-! ## Links and holds -/

theorem authorityOk_of_auth {s t : State} (hauth : t.auth = s.auth) (himg : t.image = s.image)
    (hs : AuthorityOk s) : AuthorityOk t := by
  simpa only [AuthorityOk, LinkOk, State.hold, State.portLink, State.sourceOf, hauth, himg] using hs

/-- Links may be written consistently, and holds may go, where no port leaves LINKED. -/
theorem authorityOk_of_linked {s t : State} (himg : t.image = s.image) (hlinks : ∀ p < 4, LinkOk t p)
    (hholds : ∀ i < 12, ∀ h, t.hold i = some h →
      s.hold i = some h ∨ ∃ g, s.hold i = some g ∧ g.holder = h.holder ∧ h.remaining ≤ g.remaining)
    (hlinked : ∀ p < 4, (s.portLink p).state = .linked → (t.portLink p).state = .linked)
    (hs : AuthorityOk s) : AuthorityOk t := by
  refine ⟨hlinks, fun i hi h hh => ?_⟩
  have hold : ∃ g, s.hold i = some g ∧ g.holder = h.holder ∧ h.remaining ≤ g.remaining := by
    rcases hholds i hi h (by simpa using hh) with he | he
    · exact ⟨h, he, rfl, le_rfl⟩
    · exact he
  obtain ⟨g, hg, hholder, hle⟩ := hold
  obtain ⟨hrem, p, hp, hsrc, hst⟩ := hs.2 i hi g (by simp [hg])
  rw [himg]
  exact ⟨hle.trans hrem, p, hp, by rw [State.sourceOf, himg]; exact hholder ▸ hsrc,
    hlinked p (List.mem_range.1 hp) hst⟩

theorem linkOk_setLink_ne {s : State} {p q : Nat} (k : PortLink) (hq : q ≠ p) (h : LinkOk s q) :
    LinkOk (s.setLink p k) q := by
  rw [LinkOk, State.setLink_portLink_ne s p q k hq]
  exact h

/-- An accepted presence gives a bound port its timers (R25). -/
theorem linkOk_linkedNow {s : State} {p : Nat} {b : PortBinding} (ha : imageAccepted s.image = true)
    (hb : imagePort s.image p = some b) (hlen : s.auth.links.length = 4) :
    LinkOk (s.setLink p (linkedNow s p)) p := by
  obtain ⟨hp, -, -, -, hlt⟩ := imagePort_bounds ha hb
  have hsrc : (s.setLink p (linkedNow s p)).sourceOf p = some b.source := by
    show (imagePort s.image p).map (·.source) = _
    simp [hb]
  rw [LinkOk, State.setLink_portLink_self s p _ (by omega), hsrc]
  by_cases h0 : b.lower = 0
  · simp [linkedNow, hb, h0]
  · simp [linkedNow, hb, h0]
    omega

theorem presence_authorityOk {s : State} {p : Nat} {b : PortBinding} (ht : TablesOk s)
    (hb : imagePort s.image p = some b) (hs : AuthorityOk s) :
    AuthorityOk (s.setLink p (linkedNow s p)) := by
  obtain ⟨ha, hlen, -⟩ := ht
  obtain ⟨hp, -⟩ := imagePort_bounds ha hb
  refine authorityOk_of_linked (s := s) rfl (fun q hq => ?_) (fun i _ h hh => .inl hh) (fun q _ hst => ?_) hs
  · by_cases h : q = p
    · subst h; exact linkOk_linkedNow ha hb hlen
    · exact linkOk_setLink_ne _ h (hs.1 q hq)
  · by_cases h : q = p
    · subst h
      rw [State.setLink_portLink_self s q _ (by omega)]
      simp [linkedNow, hb]
    · rwa [State.setLink_portLink_ne s p q _ h]

theorem runPresence_authorityOk {s : State} {p : Nat} (ht : TablesOk s)
    (hbound : ∃ src, s.sourceOf p = some src) (hs : AuthorityOk s) :
    AuthorityOk (runPresence s p ()).state := by
  obtain ⟨src, hsrc⟩ := hbound
  obtain ⟨b, hb, -⟩ := sourceOf_eq_some hsrc
  unfold runPresence
  dsimp only
  split
  · split
    · exact hs
    · exact presence_authorityOk ht hb hs
  · exact authorityOk_of_auth rfl rfl (presence_authorityOk ht hb hs)

/-- The source of a command admitted on a LINKED port (R20, R27). -/
theorem agentOf_linked {s : State} {p : Nat} {src : AgentSource} (hsrc : s.sourceOf p = some src) :
    agentOf s p = src := by simp [agentOf, hsrc]

theorem hold_linked {s : State} {p : Nat} {k : CmdKind} (hadm : Admitted s p k) (hx : ¬LinkExempt k) :
    (s.portLink p).state = .linked := by
  have h := (linkOk_iff s p k).1 hadm.2.1
  tauto

theorem takeHolds_image (src : AgentSource) (segs : List Nat) (s : State) (n m : Nat) :
    (takeHolds src segs (s, n, m)).1.image = s.image :=
  (leaves_takeHolds src segs s n m).image

theorem dropOwn_image (src : AgentSource) (segs : List Nat) (s : State) (n : Nat) :
    (dropOwn src segs (s, n)).1.image = s.image := (leaves_dropOwn src segs s n).image

/-- Where links, holds and image are the only parts that count, equal links carry over. -/
theorem linkOk_of_links {s t : State} (hl : t.auth.links = s.auth.links) (himg : t.image = s.image)
    {p : Nat} (h : LinkOk s p) : LinkOk t p := by
  simpa only [LinkOk, State.portLink, State.sourceOf, hl, himg] using h

theorem runHold_authorityOk {s : State} {p : Nat} (segs : List Nat) (ht : TablesOk s)
    (hadm : Admitted s p .hold) (hs : AuthorityOk s) : AuthorityOk (runHold s p segs).state := by
  obtain ⟨ha, -, hlen, -⟩ := ht
  obtain ⟨src, hsrc⟩ := hadm.bound (by decide)
  have hst := hold_linked hadm (by simp [LinkExempt])
  obtain ⟨b, hb, -⟩ := sourceOf_eq_some hsrc
  obtain ⟨hp, -⟩ := imagePort_bounds ha hb
  have hlinks := takeHolds_links (agentOf s p) segs s 0 0
  have himg := takeHolds_image (agentOf s p) segs s 0 0
  refine ⟨fun q hq => linkOk_of_links hlinks.1 himg (hs.1 q hq), fun i hi h hh => ?_⟩
  simp only [runHold, State.sourceOf, State.portLink, hlinks.1, himg] at hh ⊢
  rw [takeHolds_hold _ _ _ _ _ _ (by omega)] at hh
  split at hh
  · obtain rfl := Option.mem_some_iff.1 (Option.mem_toList.1 hh)
    exact ⟨le_rfl, p, by simpa using hp, by rw [agentOf_linked hsrc]; exact hsrc, hst⟩
  · exact hs.2 i hi h hh

theorem runUnhold_authorityOk {s : State} {p : Nat} (segs : List Nat) (ht : TablesOk s)
    (hs : AuthorityOk s) : AuthorityOk (runUnhold s p segs).state := by
  obtain ⟨-, -, hlen, -⟩ := ht
  have hlinks := dropOwn_links (agentOf s p) segs s 0
  have himg := dropOwn_image (agentOf s p) segs s 0
  refine authorityOk_of_linked himg (fun q hq => linkOk_of_links hlinks.1 himg (hs.1 q hq))
    (fun i hi h hh => .inl ?_) (fun q _ hst => by simpa only [State.portLink, runUnhold, hlinks.1] using hst) hs
  simp only [runUnhold] at hh
  rw [dropOwn_hold _ _ _ _ _ (by omega)] at hh
  split at hh
  · cases hh
  · exact hh

theorem dropHolds_image (s : State) (src : AgentSource) : (dropHolds s src).image = s.image :=
  (leaves_dropHolds s src).image

/-- A port LOST (R26). -/
def lostLink (s : State) (p : Nat) : State := s.setLink p { state := .lost, lower := none, window := none }

theorem lostLink_portLink_self {s : State} {p : Nat} (hp : p < s.auth.links.length) :
    (lostLink s p).portLink p = { state := .lost, lower := none, window := none } :=
  State.setLink_portLink_self s p _ hp

theorem lostLink_portLink_ne (s : State) {p q : Nat} (h : q ≠ p) : (lostLink s p).portLink q = s.portLink q :=
  State.setLink_portLink_ne s p q _ h

theorem authorityOk_portNotice {s : State} {p : Nat} {l : List Instr} {cause : PortCause}
    (h : AuthorityOk s) : AuthorityOk (portNotice (s.deliver l) p cause) := authorityOk_of_auth rfl rfl h

/-- The loss of a link takes the source's holds with it, and those alone depend on the port (R28). -/
theorem loseLink_authorityOk {s : State} {p : Nat} (ht : TablesOk s) (hp : p < 4)
    (hst : (s.portLink p).state = .linked) (hs : AuthorityOk s) : AuthorityOk (loseLink s p) := by
  obtain ⟨ha, hlinks, hlen, -⟩ := ht
  have hp' : p < s.auth.links.length := by omega
  have hbound : s.sourceOf p ≠ none := fun h => by simp [(hs.1 p hp).1.2 h] at hst
  have hlk := dropHolds_links (lostLink s p) (agentOf s p)
  have himg : (dropHolds (lostLink s p) (agentOf s p)).image = s.image := dropHolds_image (lostLink s p) _
  refine authorityOk_portNotice (s := dropHolds (lostLink s p) (agentOf s p))
    ⟨fun q hq => linkOk_of_links hlk.1 (dropHolds_image (lostLink s p) _) ?_, fun i hi h hh => ?_⟩
  · by_cases hqp : q = p
    · subst hqp
      have hbound' : (lostLink s q).sourceOf q ≠ none := hbound
      simp [LinkOk, lostLink_portLink_self hp', hbound']
    · exact linkOk_setLink_ne _ hqp (hs.1 q hq)
  · have hlen' : (lostLink s p).auth.holds.length = 12 := hlen
    rw [dropHolds_hold _ hlen' hi, Option.mem_toList, Option.filter_eq_some_iff] at hh
    obtain ⟨hh, hne⟩ := hh
    obtain ⟨hrem, q, hq, hqs, hqst⟩ := hs.2 i hi h (Option.mem_toList.2 hh)
    have hqp : q ≠ p := by
      rintro rfl
      simp [agentOf_linked hqs] at hne
    refine ⟨by rwa [himg], q, hq, by rw [State.sourceOf, himg]; exact hqs, ?_⟩
    rw [State.portLink, hlk.1]
    exact (congrArg PortLink.state (lostLink_portLink_ne s hqp)).trans hqst

theorem secondBoundary_portLink (s : State) (p : Nat) : (secondBoundary s).portLink p =
    { s.portLink p with lower := tick (s.portLink p).lower, window := tick (s.portLink p).window } :=
  getD_map_default _ _ _ _ _ rfl

theorem secondBoundary_hold (s : State) (i : Nat) : (secondBoundary s).hold i =
    (s.hold i).map fun h => { h with remaining := h.remaining - 1 } :=
  getD_map_default _ _ _ _ _ rfl

theorem isSome_tick (d : Option Nat) : (tick d).isSome = d.isSome := by simp [tick]

theorem secondBoundary_authorityOk {s : State} (hs : AuthorityOk s) : AuthorityOk (secondBoundary s) := by
  refine authorityOk_of_linked (s := s) rfl (fun p hp => ?_) (fun i _ h hh => .inr ?_) (fun p _ hst => ?_) hs
  · obtain ⟨hb, hn, hw, hle⟩ := hs.1 p hp
    rw [LinkOk, secondBoundary_portLink]
    refine ⟨hb, fun hst => ?_, fun hst => by rw [isSome_tick]; exact hw hst, ?_⟩
    · obtain ⟨hl, hw⟩ := hn hst
      simp [hl, hw, tick]
    · simp only [tick, Option.mem_toList, Option.map_eq_some_iff]
      rintro l ⟨l', hl, rfl⟩ w ⟨w', hw', rfl⟩
      have := hle l' (by simp [hl]) w' (by simp [hw'])
      omega
  · rw [secondBoundary_hold, Option.map_eq_some_iff] at hh
    obtain ⟨g, hg, rfl⟩ := hh
    exact ⟨g, hg, rfl, Nat.sub_le _ _⟩
  · rw [secondBoundary_portLink]
    exact hst

theorem auth_event_authorityOk {c : Instr} {s t : State} (ht : TablesOk s) (hs : AuthorityOk s)
    (hl : Area.auth ∈ eventAreas c) (h : exec c s = .next t) : AuthorityOk t := by
  have hlinks : s.auth.links.length = 4 := ht.2.1
  have hholds : s.auth.holds.length = 12 := ht.2.2.1
  cases c
  case secondBoundary => cases h; exact secondBoundary_authorityOk hs
  case keyLineChange active => cases h; exact hs
  case lowerBoundExpiry p =>
    obtain ⟨hp, rfl⟩ := onObject_next h
    have hp : p < 4 := by simpa [portOk] using hp
    split
    · have hself := State.setLink_portLink_self s p { s.portLink p with lower := none } (by omega)
      refine authorityOk_of_linked (s := s) rfl (fun q hq => ?_) (fun i _ h hh => .inl hh) (fun q _ hst => ?_) hs
      · by_cases hqp : q = p
        · subst hqp
          obtain ⟨hb, hn, hw, -⟩ := hs.1 q hq
          rw [LinkOk, hself]
          exact ⟨hb, fun hst => ⟨rfl, (hn hst).2⟩, hw, by simp⟩
        · exact linkOk_setLink_ne _ hqp (hs.1 q hq)
      · by_cases hqp : q = p
        · subst hqp; rw [hself]; exact hst
        · rwa [State.setLink_portLink_ne s p q _ hqp]
    · exact hs
  case windowExpiry p =>
    obtain ⟨hp, rfl⟩ := onObject_next h
    split
    · next hdue =>
      simp only [Bool.and_eq_true, beq_iff_eq] at hdue
      exact loseLink_authorityOk ht (by simpa [portOk] using hp) hdue.1 hs
    · exact hs
  case holdExpiry i =>
    obtain ⟨hi, rfl⟩ := onObject_next h
    have hi : i < 12 := by simpa [segOk] using hi
    split
    · refine authorityOk_of_linked (s := s) rfl (fun q hq => linkOk_of_links rfl rfl (hs.1 q hq)) (fun j _ h hh => ?_)
        (fun q _ hst => hst) hs
      rw [dropHold_hold _ (by omega)] at hh
      split at hh
      · cases hh
      · exact .inl hh
    · exact hs
  all_goals simp [eventAreas, segAreas, gateAreas, zoneAreas, weatherAreas, signAreas, stackAreas,
    stationAreas, answerAreas, quiesceAreas] at hl

theorem run_authorityOk {k : CmdKind} {s : State} {p : Nat} {x : (commandOf k).1} {body : List Byte}
    (hk : Area.auth ∈ kindAreas k) (htk : Taken (commandOf k).2 s p x body)
    (ht : TablesOk (popFrame s p)) (hs : AuthorityOk (popFrame s p)) :
    AuthorityOk ((commandOf k).2.run (popFrame s p) p x).state := by
  cases k with
  | presence => exact runPresence_authorityOk ht (htk.admitted.bound (by decide)) hs
  | hold => exact runHold_authorityOk x ht htk.admitted hs
  | unhold => exact runUnhold_authorityOk x ht hs
  | _ => exact absurd hk (by decide)

theorem exec_authorityOk {c : Instr} {s t : State} (hc : c ≠ .startUp) (ht : TablesOk s)
    (hs : AuthorityOk s) (h : exec c s = .next t) : AuthorityOk t :=
  exec_keeps [.auth] (fun _ _ hk himg => authorityOk_of_auth (hk .auth (by simp)) himg)
    (fun _ _ _ _ _ hk => run_authorityOk (by simpa using hk))
    (fun _ _ _ _ _ hk ht hs h => auth_event_authorityOk ht hs (by simpa using hk) h) hc ht hs h

theorem startUp_authorityOk {s t : State} (h : exec .startUp s = .next t) : AuthorityOk t := by
  rw [exec_startUp] at h
  cases h
  refine ⟨fun p hp => ?_, fun i hi g hg => ?_⟩
  · have hlink : ∀ l key contacts pending, (boot l key contacts pending).portLink p = startLink l.image p := by
      intro l key contacts pending
      show ((List.range 4).map (startLink l.image)).getD p default = _
      simp [List.getD, hp]
    have hsrc : ∀ l key contacts pending,
        (boot l key contacts pending).sourceOf p = (imagePort l.image p).map (·.source) := fun _ _ _ _ => rfl
    rw [LinkOk, hlink, hsrc]
    unfold startLink
    cases imagePort (reload s.loader).image p <;> simp
  · have hhold : ∀ l key contacts pending, (boot l key contacts pending).hold i = none := by
      intro l key contacts pending
      show (List.replicate 12 none).getD i none = _
      rw [List.getD_replicate _ hi]
    rw [hhold] at hg
    simp at hg

end Sys2Proof.Machine

namespace Sys2Proof

set_option Elab.async false

open Sys2Proof.Machine

/-- Settles O53: a port is touched by its own lines and by notices alone, and the links and holds by the
presence, hold and loss operations; the loss of a link drops exactly the holds that depend on it. -/
theorem stepsKeepPortsBounded : Obligations.StepsKeepPortsBounded := fun _ _ ht h =>
  ⟨fun hs => (step_keeps (P := fun u => TablesOk u ∧ PortsOk u) (fun _ => id)
      (fun _ _ _ h => ⟨startUp_tablesOk h, startUp_portsOk h⟩)
      (fun _ _ _ hc hu h => ⟨(exec_tables hc h hu.1).1, exec_portsOk hc hu.1 hu.2 h⟩) h ⟨ht, hs⟩).2,
    fun hs => (step_keeps (P := fun u => TablesOk u ∧ AuthorityOk u) (fun _ => id)
      (fun _ _ _ h => ⟨startUp_tablesOk h, startUp_authorityOk h⟩)
      (fun _ _ _ hc hu h => ⟨(exec_tables hc h hu.1).1, exec_authorityOk hc hu.1 hu.2 h⟩) h ⟨ht, hs⟩).2⟩

end Sys2Proof

/-! PROOF. Every step keeps the segment records consistent (R43–R45, R57–R64): each move of the sequencer makes a
consistent record of a consistent one. -/

namespace Sys2Proof.Machine

set_option Elab.async false

open Sys2Proof

/-! ## Claim sets (R44, R45) -/

theorem ClaimSet.isEmpty_iff (c : ClaimSet) : c.isEmpty = true ↔ ∀ src, c.get src = Option.none := by
  constructor
  · intro h src
    cases src <;> simp_all [ClaimSet.isEmpty, claimSources]
  · intro h
    simp [ClaimSet.isEmpty, claimSources, h]

theorem ClaimSet.isEmpty_eq_false (c : ClaimSet) : c.isEmpty = false ↔ ∃ src, (c.get src).isSome = true := by
  rw [← Bool.not_eq_true, ClaimSet.isEmpty_iff, not_forall]
  simp [Option.isSome_iff_ne_none]

theorem ClaimSet.get_put (c : ClaimSet) (src src' : ClaimSource) (v : Option Claim) :
    (c.put src v).get src' = if src' = src then v else c.get src' := by
  cases src <;> cases src' <;> rfl

theorem ClaimSet.put_isEmpty_some (c : ClaimSet) (src : ClaimSource) (k : Claim) :
    (c.put src (some k)).isEmpty = false :=
  (c.put src (some k)).isEmpty_eq_false.2 ⟨src, by simp [ClaimSet.get_put]⟩

theorem ClaimSet.isEmpty_false_of_get {c : ClaimSet} {src : ClaimSource} {k : Claim}
    (h : c.get src = some k) : c.isEmpty = false := c.isEmpty_eq_false.2 ⟨src, by simp [h]⟩

/-- An agent's claim may be put with any reason, without a zone list. -/
theorem ClaimSet.ok_put_agent {c : ClaimSet} (src : AgentSource) {v : Option Claim} (hc : c.ok)
    (hv : ∀ k ∈ v.toList, k.zones = []) : (c.put (claimSourceFor src) v).ok := by
  obtain ⟨hdet, hrst, hagent⟩ := hc
  refine ⟨?_, ?_, fun a ha k hk => ?_⟩
  · cases src <;> exact hdet
  · cases src <;> exact hrst
  · rw [ClaimSet.get_put] at hk
    split at hk
    · exact hv k hk
    · exact hagent a ha k hk

/-- A claim may be taken out of any place. -/
theorem ClaimSet.ok_put_none {c : ClaimSet} (src : ClaimSource) (hc : c.ok) : (c.put src Option.none).ok := by
  obtain ⟨hdet, hrst, hagent⟩ := hc
  refine ⟨?_, ?_, fun a ha k hk => ?_⟩
  · cases src <;> first | exact hdet | simp [ClaimSet.put]
  · cases src <;> first | exact hrst | simp [ClaimSet.put]
  · rw [ClaimSet.get_put] at hk
    split at hk
    · simp at hk
    · exact hagent a ha k hk

theorem ClaimSet.ok_det {c : ClaimSet} {v : Option Claim} (hc : c.ok)
    (hv : ∀ k ∈ v.toList, k.zones ≠ [] ∧ k.zones.Nodup ∧ k.reason = 0 ∧ k.immediate = true) :
    ClaimSet.ok { c with det := v } := by
  obtain ⟨-, hrst, hagent⟩ := hc
  refine ⟨hv, hrst, fun a ha k hk => hagent a ha k ?_⟩
  cases a <;> exact hk

theorem ClaimSet.det_isEmpty_some (c : ClaimSet) (k : Claim) :
    ClaimSet.isEmpty { c with det := some k } = false := c.put_isEmpty_some .det k

/-- Without a DET claim to clear nothing changes, and a cleared one keeps its form (R52). -/
theorem clearedDet_ok {c : ClaimSet} (z : Nat) (hc : c.ok) :
    ClaimSet.ok { c with det := clearedDet z c.det } := by
  refine ClaimSet.ok_det hc fun k hk => ?_
  obtain ⟨hdet, -⟩ := hc
  cases hd : c.det with
  | none => simp [hd, clearedDet] at hk
  | some d =>
    obtain ⟨hne, hnd, hr, him⟩ := hdet d (by simp [hd])
    simp only [hd, clearedDet] at hk
    split at hk
    · split at hk
      · simp at hk
      · next h =>
        obtain rfl := Option.mem_some_iff.1 (Option.mem_toList.1 hk)
        exact ⟨by simpa using h, hnd.erase z, hr, him⟩
    · obtain rfl := Option.mem_some_iff.1 (Option.mem_toList.1 hk)
      exact ⟨hne, hnd, hr, him⟩

/-! ## Moves (R57–R63) -/

/-- A claim set that is not empty may take the place of one in a segment that is neither OPEN nor RAISING and
does not wait to reopen. -/
theorem Segment.ok_claims {g : Segment} {c : ClaimSet} (hg : g.ok) (hc : c.ok) (hne : c.isEmpty = false)
    (hst : g.claims.isEmpty = false) : Segment.ok { g with claims := c } := by
  obtain ⟨-, hdwell, hopen, -, hreopen, hbar⟩ := hg
  rw [hst] at hopen hreopen
  exact ⟨hc, hdwell, by simpa [hne] using hopen, by simp [hne], by simpa [hne] using hreopen, hbar⟩

theorem shorten_ok {g : Segment} (s : State) (hg : g.ok) : (shorten s g).ok := by
  obtain ⟨hc, hdwell, h⟩ := hg
  unfold shorten
  split
  · exact ⟨hc, by simpa using hdwell, h⟩
  · exact ⟨hc, hdwell, h⟩

theorem enterClosed_ok {g : Segment} (s : State) (i : Nat) (hc : g.claims.ok)
    (hlock : g.claims.isEmpty = true → g.zoneLock = true) : (enterClosed s i g).ok := by
  refine ⟨hc, by simp [enterClosed], by simp [enterClosed], fun h => .inr (.inr (hlock h)), ?_,
    by simp [enterClosed]⟩
  simp [enterClosed]

/-- LOWERING is entered with a claim or under zone lock. -/
theorem enterLowering_ok {g : Segment} (s : State) (i : Nat) (hc : g.claims.ok)
    (hlock : g.claims.isEmpty = true → g.zoneLock = true) : (enterLowering s i g).seg.ok := by
  unfold enterLowering
  dsimp only
  split
  · exact enterClosed_ok s i hc hlock
  · exact ⟨hc, by simp, by simp, fun h => .inr (.inr (hlock h)), by simp, by simp⟩

/-- RAISING is entered without a claim. -/
theorem enterRaising_ok {g : Segment} (s : State) (i : Nat) (hc : g.claims.ok)
    (he : g.claims.isEmpty = true) : (enterRaising s i g).seg.ok := by
  unfold enterRaising
  dsimp only
  split
  · exact ⟨hc, by simp [enterOpen], fun _ => he, fun _ => .inl rfl, by simp [enterOpen], fun _ => rfl⟩
  · exact ⟨hc, by simp, fun _ => he, fun _ => .inr (.inl rfl), by simp, by simp⟩

/-- A claim joins the set of a consistent segment (R57, R58, R62, R63). -/
theorem claimJoins_ok {g : Segment} {c : ClaimSet} (s : State) (i : Nat) (im : Bool) (hg : g.ok) (hc : c.ok)
    (hne : c.isEmpty = false) : (claimJoins s i g { g with claims := c } im).seg.ok := by
  have hjoined : g.state = .prewarn ∨ g.state = .lowering → Segment.ok { g with claims := c } := by
    obtain ⟨-, hdwell, hopen, -, hreopen, hbar⟩ := hg
    rintro (h | h) <;> rw [h] at hdwell hopen hreopen hbar <;>
      exact ⟨hc, by simpa [h] using hdwell, by simp [h], by simp [hne], by simpa [h] using hreopen,
        by simpa [h] using hbar⟩
  obtain ⟨-, hdwell, hopen, -, hreopen, hbar⟩ := hg
  unfold claimJoins
  dsimp only
  split
  · next hst =>
    have he := hopen (.inl hst)
    rw [if_pos he]
    exact ⟨hc, by simp [Move.still], by simp [Move.still], by simp [Move.still, hne],
      by simpa [Move.still, hst] using hreopen, fun _ => hbar (.inl hst)⟩
  · next hst =>
    cases im
    · exact hjoined (.inl hst)
    · exact shorten_ok s (hjoined (.inl hst))
  · next hst => exact hjoined (.inr hst)
  · next hst =>
    exact ⟨hc, by simpa [Move.still, hst] using hdwell, by simp [Move.still, hst], by simp [Move.still, hne],
      by simp [Move.still, hne], by simp [Move.still, hst]⟩
  · next hst =>
    rw [if_pos (hopen (.inr hst))]
    exact enterLowering_ok s i hc (by simp [hne])

/-- The set of a consistent segment becomes empty (R59, R61, R62). -/
theorem setEmptied_ok {g : Segment} {c : ClaimSet} (s : State) (i : Nat) (hg : g.ok) (hc : c.ok)
    (he : c.isEmpty = true) : (setEmptied s i { g with claims := c }).seg.ok := by
  obtain ⟨-, hdwell, -, -, hreopen, hbar⟩ := hg
  have hstill : ∀ g' : Segment, g'.claims = c → g'.state = g.state → g'.dwell = g.dwell →
      g'.barrierFault = g.barrierFault → (g'.reopenPending = true ↔ g.state = .closed) →
      (g'.state = .opened ∨ g'.state = .raising ∨ g'.zoneLock = true) → g'.ok := by
    intro g' h1 h2 h3 h4 h5 h6
    exact ⟨h1 ▸ hc, by rwa [h3, h2], fun _ => h1 ▸ he, fun _ => h6, by rw [h2, h1, he]; simpa using h5,
      by rwa [h2, h4]⟩
  have hkept : g.state ≠ .closed → (g.reopenPending = true ↔ g.state = .closed) := fun h => by
    simpa [h] using hreopen
  unfold setEmptied
  dsimp only
  split
  · next hst => exact hstill _ rfl rfl rfl rfl (hkept (by simp [hst])) (.inl hst)
  · next hst => exact hstill _ rfl rfl rfl rfl (hkept (by simp [hst])) (.inr (.inl hst))
  · next hst =>
    split
    · next hl => exact hstill _ rfl rfl rfl rfl (hkept (by simp [hst])) (.inr (.inr hl))
    · exact ⟨hc, by simp [Move.still], fun _ => he, fun _ => .inl rfl,
        by simpa [Move.still, hst] using hreopen, fun _ => hbar (.inr hst)⟩
  · next hst =>
    split
    · next hl => exact hstill _ rfl rfl rfl rfl (hkept (by simp [hst])) (.inr (.inr hl))
    · exact enterRaising_ok s i hc he
  · next hst =>
    split
    · next hl => exact hstill _ rfl rfl rfl rfl (by simp [Move.still, hst]) (.inr (.inr hl))
    · exact enterRaising_ok s i hc he

/-- A claim leaves the set of a consistent segment. -/
theorem claimLeaves_ok {g : Segment} (s : State) (i : Nat) (src : ClaimSource) (hg : g.ok)
    (hsome : (g.claims.get src).isSome = true) :
    (if (g.claims.put src none).isEmpty then setEmptied s i { g with claims := g.claims.put src none }
      else Move.still { g with claims := g.claims.put src none }).seg.ok := by
  have hc := ClaimSet.ok_put_none src hg.1
  split
  · next he => exact setEmptied_ok s i hg hc he
  · next he => exact Segment.ok_claims hg hc (by simpa using he) (g.claims.isEmpty_eq_false.2 ⟨src, hsome⟩)

/-- A clearance takes a zone out of the DET claim and may end the lock (R52). -/
theorem clearanceMove_ok {g : Segment} (s : State) (i z : Nat) (lock : Bool) (hg : g.ok) :
    (clearanceMove s i { g with claims := { g.claims with det := clearedDet z g.claims.det },
                                zoneLock := lock }).seg.ok := by
  have hc := clearedDet_ok z hg.1
  have hsub : g.claims.isEmpty = true →
      ClaimSet.isEmpty { g.claims with det := clearedDet z g.claims.det } = true := by
    intro h
    have hnone : clearedDet z g.claims.det = g.claims.det := by
      have hd : g.claims.det = none := (g.claims.isEmpty_iff.1 h) .det
      simp [hd, clearedDet]
    rwa [hnone]
  obtain ⟨-, hdwell, hopen, -, hreopen, hbar⟩ := hg
  generalize { g.claims with det := clearedDet z g.claims.det } = c at hc hsub
  unfold clearanceMove
  dsimp only
  split
  · next he =>
    split
    · next hl =>
      split
      · next hst =>
        have hst : g.state = .closed := by simpa using hst
        exact ⟨hc, by simpa [Move.still, hst] using hdwell, fun _ => he, fun _ => .inr (.inr hl),
          by simp [Move.still, hst, he], by simp [Move.still, hst]⟩
      · next hst =>
        have hst : g.state ≠ .closed := by simpa using hst
        exact ⟨hc, hdwell, fun _ => he, fun _ => .inr (.inr hl), by simpa [Move.still, hst] using hreopen, hbar⟩
    · split
      · next hst =>
        exact ⟨hc, by simp [Move.still], fun _ => he, fun _ => .inl rfl,
          by simpa [Move.still, hst] using hreopen, fun _ => hbar (.inr hst)⟩
      · exact enterRaising_ok s i hc he
      · exact enterRaising_ok s i hc he
      · next hst =>
        exact ⟨hc, hdwell, fun _ => he, fun _ => .inl hst, by simpa [Move.still, hst] using hreopen, hbar⟩
      · next hst =>
        exact ⟨hc, hdwell, fun _ => he, fun _ => .inr (.inl hst), by simpa [Move.still, hst] using hreopen, hbar⟩
  · next he =>
    have hne : g.claims.isEmpty = false := by
      by_contra h
      exact he (hsub (by simpa using h))
    rw [hne] at hopen hreopen
    exact ⟨hc, hdwell, by simpa [Move.still, he] using hopen, by simp [Move.still, he],
      by simpa [Move.still, he] using hreopen, hbar⟩

/-! ## Segments of the table -/

theorem revised_ok {old new : Segment} (h : new.ok) : (revised old new).ok := by
  unfold revised
  split
  · exact h
  · exact h

/-- What an event at a segment makes of the table. -/
theorem segEvent_seg_cases (s : State) (i k : Nat) (m : Move) (cause : SegCause) (lock : Bool) :
    (segEvent s i m cause lock).seg k = s.seg k ∨
    k = i ∧ (segEvent s i m cause lock).seg k = revised (s.seg i) m.seg := by
  by_cases hi : i < s.segments.length
  · rw [segEvent_seg s i k m cause lock hi]
    by_cases h : k = i <;> simp [h]
  · left
    have hset : (segEvent s i m cause lock).segments = s.segments.set i (revised (s.seg i) m.seg) := by
      unfold segEvent segNotice; dsimp only; split <;> rfl
    simp [State.seg, hset, List.set_eq_of_length_le (Nat.not_lt.1 hi)]

theorem segEvent_segmentsOk {s : State} {i : Nat} {m : Move} (cause : SegCause) (lock : Bool)
    (hs : SegmentsOk s) (hm : (s.seg i).ok → m.seg.ok) : SegmentsOk (segEvent s i m cause lock) := by
  intro k hk
  rcases segEvent_seg_cases s i k m cause lock with h | ⟨rfl, h⟩
  · rw [h]; exact hs k hk
  · rw [h]; exact revised_ok (hm (hs k hk))

theorem segmentsOk_of_segments {s t : State} (h : t.segments = s.segments) (hs : SegmentsOk s) :
    SegmentsOk t := by
  simpa only [SegmentsOk, State.seg, h] using hs

theorem claimAt_segmentsOk {s : State} (i : Nat) (src : AgentSource) (reason : Nat) (im : Bool)
    (hs : SegmentsOk s) : SegmentsOk (claimAt s i (claimSourceFor src) reason im).1 := by
  unfold claimAt
  dsimp only
  split
  · exact segEvent_segmentsOk _ _ hs fun hg => claimJoins_ok s i im hg
      (ClaimSet.ok_put_agent src hg.1 (by simp)) (ClaimSet.put_isEmpty_some _ _ _)
  · next k hk =>
    refine segEvent_segmentsOk _ _ hs fun hg => ?_
    have hzones : k.zones = [] := hg.1.2.2 src (by cases src <;> simp) k (by simp [hk])
    have hok := Segment.ok_claims hg (ClaimSet.ok_put_agent src hg.1
      (v := some { k with reason := reason, immediate := k.immediate || im }) (by simpa using hzones))
      (ClaimSet.put_isEmpty_some _ _ _) (ClaimSet.isEmpty_false_of_get hk)
    cases im
    · exact hok
    · exact shorten_ok s hok

theorem claimAll_segmentsOk (src : AgentSource) (reason : Nat) (im : Bool) (segs : List Nat) {s : State}
    (n : Nat) (hs : SegmentsOk s) :
    SegmentsOk (claimAll (claimSourceFor src) reason im segs (s, n)).1 := by
  induction segs generalizing s n with
  | nil => exact hs
  | cons i is ih => exact ih _ (claimAt_segmentsOk i src reason im hs)

theorem removeClaim_segmentsOk {s : State} {i : Nat} {src : ClaimSource} (cause : SegCause)
    (hsome : ((s.seg i).claims.get src).isSome = true) (hs : SegmentsOk s) :
    SegmentsOk (removeClaim s i src cause) :=
  segEvent_segmentsOk _ _ hs fun hg => claimLeaves_ok s i src hg hsome

theorem releaseAll_segmentsOk (src : ClaimSource) (segs : List Nat) {s : State} (n : Nat)
    (hs : SegmentsOk s) : SegmentsOk (releaseAll src segs (s, n)).1 := by
  induction segs generalizing s n with
  | nil => exact hs
  | cons i is ih =>
    simp only [releaseAll]
    split
    · next h => exact ih _ (removeClaim_segmentsOk _ h hs)
    · exact ih _ hs

theorem dropClaim_segmentsOk {s : State} (i : Nat) (src : ClaimSource) (cause : SegCause)
    (hs : SegmentsOk s) : SegmentsOk (dropClaim s i src cause).state := by
  unfold dropClaim
  split
  · next h => exact removeClaim_segmentsOk cause h hs
  · exact hs

theorem detectorAt_segmentsOk {s : State} (i z : Nat) (hs : SegmentsOk s) : SegmentsOk (detectorAt s i z) := by
  unfold detectorAt
  dsimp only
  split
  · exact segEvent_segmentsOk _ _ hs fun hg => claimJoins_ok s i true hg
      (ClaimSet.ok_det hg.1 (by simp)) (ClaimSet.det_isEmpty_some _ _)
  · next k hk =>
    split
    · exact hs
    · next hz =>
      refine segEvent_segmentsOk _ _ hs fun hg => ?_
      obtain ⟨-, hnd, hr, him⟩ := hg.1.1 k (by simp [hk])
      have hz : z ∉ k.zones := by simpa using hz
      have hnd' : (k.zones ++ [z]).Nodup := List.nodup_append'.2 ⟨hnd, by simp, by simpa using hz⟩
      refine shorten_ok s (Segment.ok_claims hg (ClaimSet.ok_det hg.1 ?_) (ClaimSet.det_isEmpty_some _ _)
        (ClaimSet.isEmpty_false_of_get (src := .det) hk))
      simp [hnd', hr, him]

theorem clearanceAt_segmentsOk {s : State} (i z : Nat) (lockEnds : Bool) (hs : SegmentsOk s) :
    SegmentsOk (clearanceAt s i z lockEnds) :=
  segEvent_segmentsOk _ _ hs fun hg => clearanceMove_ok s i z _ hg

theorem lockStartAt_segmentsOk {s : State} (i : Nat) (hs : SegmentsOk s) : SegmentsOk (lockStartAt s i) := by
  refine segEvent_segmentsOk _ _ hs fun hg => ?_
  dsimp only
  obtain ⟨hc, hdwell, hopen, -, hreopen, hbar⟩ := hg
  split
  · exact enterLowering_ok s i hc fun _ => rfl
  · exact ⟨hc, hdwell, hopen, fun _ => .inr (.inr rfl), hreopen, hbar⟩

theorem reportAt_segmentsOk {s : State} (i : Nat) (hs : SegmentsOk s) : SegmentsOk (reportAt s i) := by
  unfold reportAt
  split
  · next hst =>
    split
    · refine segEvent_segmentsOk _ _ hs fun hg => enterClosed_ok s i hg.1 fun h => ?_
      have hlock := hg.2.2.2.1 h
      simpa [hst] using hlock
    · exact hs
  · next hst =>
    split
    · refine segEvent_segmentsOk _ _ hs fun hg => ?_
      obtain ⟨hc, -, hopen, -⟩ := hg
      exact ⟨hc, by simp [Move.still, enterOpen], fun _ => hopen (.inr hst), fun _ => .inl rfl,
        by simp [Move.still, enterOpen], fun _ => rfl⟩
    · exact hs
  all_goals exact hs

theorem dwell_segmentsOk {s : State} {i : Nat} (hst : (s.seg i).state = .prewarn) (hs : SegmentsOk s) :
    SegmentsOk (segEvent s i (enterLowering s i (s.seg i)) .dwellExpiry false) := by
  refine segEvent_segmentsOk _ _ hs fun hg => ?_
  obtain ⟨hc, -, -, hlock, -⟩ := hg
  exact enterLowering_ok s i hc fun h => by simpa [hst] using hlock h

theorem foldl_lockIfFree_segmentsOk (l : List Nat) {s : State} (hs : SegmentsOk s) :
    SegmentsOk (l.foldl lockIfFree s) := by
  induction l generalizing s with
  | nil => exact hs
  | cons i l ih =>
    refine ih ?_
    unfold lockIfFree
    split
    · exact hs
    · exact lockStartAt_segmentsOk i hs

theorem grantPermit_segments (s : State) (z minutes : Nat) : (grantPermit s z minutes).segments =
    if (s.zone z).state = .work then s.segments else ((threatened s z).foldl lockIfFree s).segments := by
  unfold grantPermit
  dsimp only
  by_cases h : (s.zone z).state = .work
  · simp only [h, beq_self_eq_true, if_true]; rfl
  · simp only [beq_iff_eq, h, if_false]
    exact ((leaves_zoneEnters _ z _).mono.trans (leaves_zoneNotice _ z _ _ _).mono (l := zoneAreas)).kept .segments (by decide)

theorem grantPermit_segmentsOk {s : State} (z minutes : Nat) (hs : SegmentsOk s) :
    SegmentsOk (grantPermit s z minutes) := by
  have h := grantPermit_segments s z minutes
  split at h
  · exact segmentsOk_of_segments h hs
  · exact segmentsOk_of_segments h (foldl_lockIfFree_segmentsOk _ hs)

theorem secondBoundary_seg (s : State) (i : Nat) :
    (secondBoundary s).seg i = { s.seg i with dwell := tick (s.seg i).dwell } :=
  getD_map_default _ _ _ _ _ rfl

theorem segment_event_ok {c : Instr} {s t : State} (hs : SegmentsOk s)
    (hl : Area.segments ∈ eventAreas c) (h : exec c s = .next t) : SegmentsOk t := by
  cases c
  case secondBoundary =>
    cases h
    intro i hi
    rw [secondBoundary_seg]
    obtain ⟨hc, hdwell, hrest⟩ := hs i hi
    exact ⟨hc, by rwa [isSome_tick], hrest⟩
  case detectorEvent i z => obtain ⟨-, rfl⟩ := onObject_next h; exact detectorAt_segmentsOk i z hs
  case zoneClearanceEvent i z e => obtain ⟨-, rfl⟩ := onObject_next h; exact clearanceAt_segmentsOk i z e hs
  case lockStartEvent i => obtain ⟨-, rfl⟩ := onObject_next h; exact lockStartAt_segmentsOk i hs
  case dwellExpiry i =>
    obtain ⟨-, rfl⟩ := onObject_next h
    split
    · next hd =>
      simp only [Bool.and_eq_true, beq_iff_eq] at hd
      exact dwell_segmentsOk hd.1 hs
    · exact hs
  case gateReportToSegment g =>
    obtain ⟨-, rfl⟩ := onObject_next h
    split
    · exact reportAt_segmentsOk _ hs
    · exact hs
  all_goals simp [eventAreas, gateAreas, zoneAreas, weatherAreas, signAreas, stackAreas,
    stationAreas, answerAreas, quiesceAreas] at hl

theorem run_segmentsOk {k : CmdKind} {s : State} {p : Nat} (x : (commandOf k).1)
    (hk : Area.segments ∈ kindAreas k) (hs : SegmentsOk s) : SegmentsOk ((commandOf k).2.run s p x).state := by
  cases k with
  | claim => exact segmentsOk_of_segments rfl (claimAll_segmentsOk _ _ _ _ 0 hs)
  | release => exact segmentsOk_of_segments rfl (releaseAll_segmentsOk _ _ 0 hs)
  | forceRelease => exact dropClaim_segmentsOk _ _ _ hs
  | restartConfirm => exact dropClaim_segmentsOk _ _ _ hs
  | permitRequest =>
    show SegmentsOk (runPermitRequest s p x).state
    unfold runPermitRequest
    split
    · exact hs
    · split
      · exact hs
      · exact grantPermit_segmentsOk x.1 x.2 hs
  | _ => exact absurd hk (by decide)

theorem exec_segmentsOk {c : Instr} {s t : State} (hc : c ≠ .startUp) (ht : TablesOk s)
    (hs : SegmentsOk s) (h : exec c s = .next t) : SegmentsOk t :=
  exec_keeps [.segments] (fun _ _ hk _ => segmentsOk_of_segments (hk .segments (by simp)))
    (fun _ _ _ x _ hk _ _ hs => run_segmentsOk x (by simpa using hk) hs)
    (fun _ _ _ _ _ hk _ hs h => segment_event_ok hs (by simpa using hk) h) hc ht hs h

theorem startSegment_ok (img : Image) (i : Nat) : (startSegment img i).ok := by
  unfold startSegment
  cases (imageSegment img i).restartHold
  · cases (gateList img i).isEmpty <;>
      simp [Segment.ok, ClaimSet.ok, ClaimSet.none, ClaimSet.isEmpty, claimSources, ClaimSet.get, claimSourceFor]
  · simp [Segment.ok, ClaimSet.ok, ClaimSet.none, ClaimSet.isEmpty, claimSources, ClaimSet.get,
      claimSourceFor, Claim.restart]

theorem boot_seg {i : Nat} (hi : i < 12) (l : Loader) (key : Bool) (contacts : List Bool)
    (pending : List Instr) : (boot l key contacts pending).seg i = startSegment l.image i := by
  show ((List.range 12).map (startSegment l.image)).getD i default = _
  simp [List.getD, hi]

theorem startUp_segmentsOk {s t : State} (h : exec .startUp s = .next t) : SegmentsOk t := by
  rw [exec_startUp] at h
  cases h
  intro i hi
  rw [boot_seg hi]
  exact startSegment_ok _ i

end Sys2Proof.Machine

namespace Sys2Proof

set_option Elab.async false

open Sys2Proof.Machine

/-- Settles O54: every move of the sequencer gives a consistent record, whatever the gates decide. -/
theorem stepsKeepSegmentsConsistent : Obligations.StepsKeepSegmentsConsistent := fun _ _ ht hs h =>
  (step_keeps (P := fun u => TablesOk u ∧ SegmentsOk u) (fun _ => id)
    (fun _ _ _ h => ⟨startUp_tablesOk h, startUp_segmentsOk h⟩)
    (fun _ _ _ hc hu h => ⟨(exec_tables hc h hu.1).1, exec_segmentsOk hc hu.1 hu.2 h⟩) h ⟨ht, hs⟩).2

end Sys2Proof

/-! PROOF. What any command but START_UP and the second boundary makes of a segment: it leaves the record, or one
move of the sequencer is made at it (R57–R67). -/

namespace Sys2Proof.Machine

set_option Elab.async false

open Sys2Proof

/-! ## Moves -/

/-- The moves an event makes at a segment. -/
inductive SegMove (s : State) (i : Nat) : Move → Prop
  /-- A claim joins the set (R46, R51). -/
  | joins (src : ClaimSource) (k : Claim) (im : Bool) : (s.seg i).claims.get src = none →
      SegMove s i (claimJoins s i (s.seg i) { s.seg i with claims := (s.seg i).claims.put src (some k) } im)
  /-- A claim of the set is renewed (R47, R51). -/
  | renewed (src : ClaimSource) (k k' : Claim) (im : Bool) : (s.seg i).claims.get src = some k →
      SegMove s i (Move.still
        (if im then shorten s { s.seg i with claims := (s.seg i).claims.put src (some k') }
         else { s.seg i with claims := (s.seg i).claims.put src (some k') }))
  /-- A claim leaves the set (R48–R50). -/
  | leaves (src : ClaimSource) : ((s.seg i).claims.get src).isSome = true →
      SegMove s i (if ((s.seg i).claims.put src none).isEmpty then
          setEmptied s i { s.seg i with claims := (s.seg i).claims.put src none }
        else Move.still { s.seg i with claims := (s.seg i).claims.put src none })
  /-- A zone is cleared (R52). -/
  | cleared (z : Nat) (ends : Bool) : (ends = true → lockedByZone s i = false) →
      SegMove s i (clearanceMove s i
        { s.seg i with claims := { (s.seg i).claims with det := clearedDet z (s.seg i).claims.det },
                       zoneLock := (s.seg i).zoneLock && !ends })
  /-- A lock starts (R64). -/
  | locked : SegMove s i (if (s.seg i).state == .raising then enterLowering s i { s.seg i with zoneLock := true }
      else Move.still { s.seg i with zoneLock := true })
  /-- The dwell has run out (R58). -/
  | dwelled : (s.seg i).state = .prewarn → SegMove s i (enterLowering s i (s.seg i))
  /-- The gates are down (R60). -/
  | gatesDown : (s.seg i).state = .lowering → SegMove s i (Move.still (enterClosed s i (s.seg i)))
  /-- The gates are up (R63). -/
  | gatesUp : (s.seg i).state = .raising → SegMove s i (Move.still (enterOpen (s.seg i)))

/-- The blocks a move reads are those two states agree on. -/
structure SameSurround (s u : State) : Prop where
  clock : u.clock = s.clock
  loader : u.loader = s.loader
  gates : u.gates = s.gates
  zones : u.zones = s.zones

theorem sameSurround_refl (s : State) : SameSurround s s := ⟨rfl, rfl, rfl, rfl⟩

theorem SameSurround.trans {s u v : State} (h : SameSurround s u) (k : SameSurround u v) :
    SameSurround s v :=
  ⟨k.clock.trans h.clock, k.loader.trans h.loader, k.gates.trans h.gates, k.zones.trans h.zones⟩

theorem sameSurround_of_leaves {s u : State} (h : Leaves segAreas s u) : SameSurround s u :=
  ⟨h.kept .clock (by decide), h.kept .loader (by decide), h.kept .gates (by decide),
    h.kept .zones (by decide)⟩

theorem loweringDone_congr {s u : State} (h : SameSurround s u) (i : Nat) :
    loweringDone u i = loweringDone s i := by
  simp only [loweringDone, State.image, State.gate, h.loader, h.gates]

theorem raisingDone_congr {s u : State} (h : SameSurround s u) (i : Nat) :
    raisingDone u i = raisingDone s i := by
  simp only [raisingDone, State.image, State.gate, h.loader, h.gates]

theorem enterClosed_congr {s u : State} (h : SameSurround s u) (i : Nat) (g : Segment) :
    enterClosed u i g = enterClosed s i g := by
  simp only [enterClosed, barrierDecided, State.image, State.gate, h.clock, h.loader, h.gates]

theorem lowerRequests_congr {s u : State} (h : SameSurround s u) (i : Nat) :
    lowerRequests u i = lowerRequests s i := by
  simp only [lowerRequests, State.image, State.gate, h.loader, h.gates]

theorem raiseRequests_congr {s u : State} (h : SameSurround s u) (i : Nat) :
    raiseRequests u i = raiseRequests s i := by
  simp only [raiseRequests, State.image, State.gate, h.loader, h.gates]

theorem enterLowering_congr {s u : State} (h : SameSurround s u) (i : Nat) (g : Segment) :
    enterLowering u i g = enterLowering s i g := by
  rw [enterLowering, enterLowering, loweringDone_congr h, enterClosed_congr h, lowerRequests_congr h]

theorem enterRaising_congr {s u : State} (h : SameSurround s u) (i : Nat) (g : Segment) :
    enterRaising u i g = enterRaising s i g := by
  rw [enterRaising, enterRaising, raisingDone_congr h, raiseRequests_congr h]

theorem shorten_congr {s u : State} (h : SameSurround s u) (g : Segment) : shorten u g = shorten s g := by
  simp only [shorten, State.image, h.loader]

theorem claimJoins_congr {s u : State} (h : SameSurround s u) (i : Nat) (was g : Segment) (im : Bool) :
    claimJoins u i was g im = claimJoins s i was g im := by
  unfold claimJoins
  simp only [enterLowering_congr h, shorten_congr h, State.image, h.loader]

theorem setEmptied_congr {s u : State} (h : SameSurround s u) (i : Nat) (g : Segment) :
    setEmptied u i g = setEmptied s i g := by
  unfold setEmptied
  simp only [enterRaising_congr h]

theorem clearanceMove_congr {s u : State} (h : SameSurround s u) (i : Nat) (g : Segment) :
    clearanceMove u i g = clearanceMove s i g := by
  unfold clearanceMove
  simp only [enterRaising_congr h]

theorem lockedByZone_congr {s u : State} (h : SameSurround s u) (i : Nat) :
    lockedByZone u i = lockedByZone s i := by
  simp only [lockedByZone, State.image, State.zone, h.loader, h.zones]

/-- A move is decided by the segment's own record and the surrounding blocks. -/
theorem SegMove.congr {s u : State} {i : Nat} {m : Move} (h : SameSurround s u) (hseg : u.seg i = s.seg i)
    (hm : SegMove u i m) : SegMove s i m := by
  cases hm with
  | joins src k im hn =>
    rw [hseg] at hn
    rw [claimJoins_congr h, hseg]
    exact .joins src k im hn
  | renewed src k k' im hk =>
    rw [hseg] at hk
    rw [shorten_congr h, hseg]
    exact .renewed src k k' im hk
  | leaves src hk =>
    rw [hseg] at hk
    rw [setEmptied_congr h, hseg]
    exact .leaves src hk
  | cleared z ends he =>
    rw [lockedByZone_congr h] at he
    rw [clearanceMove_congr h, hseg]
    exact .cleared z ends he
  | locked =>
    rw [enterLowering_congr h, hseg]
    exact .locked
  | dwelled hd =>
    rw [hseg] at hd
    rw [enterLowering_congr h, hseg]
    exact .dwelled hd
  | gatesDown hd =>
    rw [hseg] at hd
    rw [enterClosed_congr h, hseg]
    exact .gatesDown hd
  | gatesUp hd =>
    rw [hseg] at hd ⊢
    exact .gatesUp hd

/-! ## One move at each segment -/

/-- Every segment keeps its record or takes one move. -/
def EachMoves (s t : State) : Prop :=
  ∀ k, t.seg k = s.seg k ∨ ∃ m, SegMove s k m ∧ t.seg k = revised (s.seg k) m.seg

theorem eachMoves_of_segments {s t : State} (h : t.segments = s.segments) : EachMoves s t :=
  fun k => .inl (by rw [State.seg, h]; rfl)

theorem EachMoves.then_kept {s t u : State} (h : EachMoves s t) (hu : u.segments = t.segments) :
    EachMoves s u := fun k => by
  have hk : u.seg k = t.seg k := by rw [State.seg, hu]; rfl
  rw [hk]
  exact h k

/-- An operation at one segment: it alone takes a move. -/
def MovesAt (s : State) (i : Nat) (t : State) : Prop :=
  ∀ k, t.seg k = s.seg k ∨ k = i ∧ ∃ m, SegMove s i m ∧ t.seg k = revised (s.seg i) m.seg

theorem MovesAt.each {s t : State} {i : Nat} (h : MovesAt s i t) : EachMoves s t := fun k => by
  rcases h k with hk | ⟨rfl, m, hm, hk⟩
  · exact .inl hk
  · exact .inr ⟨m, hm, hk⟩

theorem movesAt_refl (s : State) (i : Nat) : MovesAt s i s := fun _ => .inl rfl

theorem movesAt_segEvent {s : State} {i : Nat} {m : Move} (cause : SegCause) (lock : Bool)
    (hm : SegMove s i m) : MovesAt s i (segEvent s i m cause lock) := fun k => by
  rcases segEvent_seg_cases s i k m cause lock with h | ⟨hk, h⟩
  · exact .inl h
  · exact .inr ⟨hk, m, hm, h⟩

/-- One operation at each segment of a list without repeats. -/
theorem eachMoves_foldl {f : State → Nat → State} (hf : ∀ u i, MovesAt u i (f u i))
    (hl : ∀ u i, Leaves segAreas u (f u i)) {l : List Nat} (hnd : l.Nodup) (s : State) :
    EachMoves s (l.foldl f s) := by
  have hgen : ∀ (l : List Nat) (u : State), l.Nodup → SameSurround s u → (∀ i ∈ l, u.seg i = s.seg i) →
      EachMoves s u → EachMoves s (l.foldl f u) := by
    intro l
    induction l with
    | nil => exact fun _ _ _ _ h => h
    | cons i l ih =>
      intro u hnd hsur hsame hmoves
      obtain ⟨hi, hnd⟩ := List.nodup_cons.1 hnd
      refine ih (f u i) hnd (hsur.trans (sameSurround_of_leaves (hl u i))) (fun j hj => ?_) fun k => ?_
      · rcases hf u i j with h | ⟨rfl, -⟩
        · exact h.trans (hsame j (List.mem_cons_of_mem _ hj))
        · exact absurd hj hi
      · rcases hf u i k with h | ⟨rfl, m, hm, h⟩
        · rw [h]; exact hmoves k
        · have hk := hsame k (by simp)
          rw [h, hk]
          exact .inr ⟨m, hm.congr hsur hk, rfl⟩
  exact hgen l s hnd (sameSurround_refl s) (fun _ _ => rfl) fun _ => .inl rfl

/-! ## The commands -/

theorem noRepeat_nodup {α : Type} [BEq α] [LawfulBEq α] {l : List α} (h : noRepeat l = true) : l.Nodup := by
  induction l with
  | nil => simp
  | cons x l ih =>
    simp only [noRepeat, Bool.and_eq_true, Bool.not_eq_true', List.contains_eq_mem, decide_eq_false_iff_not] at h
    exact List.nodup_cons.2 ⟨h.1, ih h.2⟩

/-- A listed segment is one of the part, and no list repeats one (R31, R46). -/
theorem segmentsOk_list {l : List Nat} (h : segmentsOk l = true) : (∀ i ∈ l, i < 12) ∧ l.Nodup := by
  simp only [segmentsOk, Bool.and_eq_true, List.all_eq_true, segOk, decide_eq_true_eq] at h
  exact ⟨h.1.2, noRepeat_nodup h.2⟩

theorem argsSegments_list {l : List Byte} {segs : List Nat} (h : argsSegments l = some segs) :
    (∀ i ∈ segs, i < 12) ∧ segs.Nodup := by
  unfold argsSegments at h
  split at h
  · split at h
    · next hs => cases h; exact segmentsOk_list hs
    · cases h
  · cases h

theorem argsClaim_list {l : List Byte} {a : ClaimArgs} (h : argsClaim l = some a) :
    (∀ i ∈ a.segs, i < 12) ∧ a.segs.Nodup := by
  unfold argsClaim at h
  split at h
  · split at h
    · next hs =>
      obtain ⟨im, -, rfl⟩ := Option.map_eq_some_iff.1 h
      exact segmentsOk_list hs
    · cases h
  · cases h

/-- A claim at one segment as a fold takes it. -/
def claimStep (src : ClaimSource) (reason : Nat) (im : Bool) (u : State) (i : Nat) : State :=
  (claimAt u i src reason im).1

theorem claimAll_fst (src : ClaimSource) (reason : Nat) (im : Bool) (segs : List Nat) (s : State) (n : Nat) :
    (claimAll src reason im segs (s, n)).1 = segs.foldl (claimStep src reason im) s := by
  induction segs generalizing s n with
  | nil => rfl
  | cons i is ih => exact ih _ _

/-- A release at one segment as a fold takes it. -/
def releaseStep (src : ClaimSource) (u : State) (i : Nat) : State :=
  if ((u.seg i).claims.get src).isSome then removeClaim u i src .release else u

theorem releaseAll_fst (src : ClaimSource) (segs : List Nat) (s : State) (n : Nat) :
    (releaseAll src segs (s, n)).1 = segs.foldl (releaseStep src) s := by
  induction segs generalizing s n with
  | nil => rfl
  | cons i is ih =>
    rw [List.foldl_cons, releaseAll, releaseStep]
    split
    · exact ih _ _
    · exact ih _ _

theorem movesAt_claimStep (src : ClaimSource) (reason : Nat) (im : Bool) (u : State) (i : Nat) :
    MovesAt u i (claimStep src reason im u i) := by
  unfold claimStep claimAt
  dsimp only
  split
  · next hn => exact movesAt_segEvent _ _ (.joins src _ im hn)
  · next k hk => exact movesAt_segEvent _ _ (.renewed src k _ im hk)

theorem movesAt_releaseStep (src : ClaimSource) (u : State) (i : Nat) :
    MovesAt u i (releaseStep src u i) := by
  unfold releaseStep
  split
  · next h => exact movesAt_segEvent _ _ (.leaves src h)
  · exact movesAt_refl u i

theorem leaves_releaseStep (src : ClaimSource) (u : State) (i : Nat) :
    Leaves segAreas u (releaseStep src u i) := leaves_ite (leaves_removeClaim u i src _) (leaves_refl _ u)

theorem eachMoves_claimAll (src : ClaimSource) (reason : Nat) (im : Bool) {segs : List Nat}
    (hnd : segs.Nodup) (s : State) (n : Nat) : EachMoves s (claimAll src reason im segs (s, n)).1 := by
  rw [claimAll_fst]
  exact eachMoves_foldl (movesAt_claimStep _ _ _) (fun u i => leaves_claimAt u i _ _ _) hnd s

theorem eachMoves_releaseAll (src : ClaimSource) {segs : List Nat} (hnd : segs.Nodup) (s : State) (n : Nat) :
    EachMoves s (releaseAll src segs (s, n)).1 := by
  rw [releaseAll_fst]
  exact eachMoves_foldl (movesAt_releaseStep _) (leaves_releaseStep _) hnd s

theorem movesAt_lockStartAt (u : State) (i : Nat) : MovesAt u i (lockStartAt u i) :=
  movesAt_segEvent _ _ .locked

theorem movesAt_lockIfFree (u : State) (i : Nat) : MovesAt u i (lockIfFree u i) := by
  unfold lockIfFree
  split
  · exact movesAt_refl u i
  · exact movesAt_lockStartAt u i

theorem eachMoves_dropClaim (s : State) (i : Nat) (src : ClaimSource) (cause : SegCause) :
    EachMoves s (dropClaim s i src cause).state := by
  unfold dropClaim
  split
  · next h => exact (movesAt_segEvent _ _ (.leaves src h)).each
  · exact eachMoves_of_segments rfl

/-- The threatened segments of an accepted image's zone (R3, R6). -/
theorem imageZone_threatened {img : Image} (h : imageAccepted img = true) (z : Nat) :
    (∀ i ∈ (imageZone img z).threatened, i < 12) ∧ (imageZone img z).threatened.Nodup := by
  have hz : zonesOk img = true := by
    simp only [imageAccepted, Bool.and_eq_true] at h
    tauto
  simp only [zonesOk, List.all_eq_true, Bool.and_eq_true] at hz
  by_cases hlt : z < img.zones.length
  · have hmem : imageZone img z ∈ img.zones := by simp [imageZone, List.getD, hlt]
    obtain ⟨⟨-, hrep⟩, hall⟩ := hz _ hmem
    exact ⟨fun i hi => by simpa [segOk] using hall i hi, noRepeat_nodup hrep⟩
  · have hdef : imageZone img z = default := by simp [imageZone, List.getD, Nat.not_lt.1 hlt]
    have hnone : (imageZone img z).threatened = [] := by rw [hdef]; rfl
    simp [hnone]

theorem eachMoves_grantPermit {s : State} (ht : TablesOk s) (z minutes : Nat) :
    EachMoves s (grantPermit s z minutes) := by
  have h := grantPermit_segments s z minutes
  split at h
  · exact eachMoves_of_segments h
  · exact (eachMoves_foldl movesAt_lockIfFree leaves_lockIfFree (imageZone_threatened ht.1 z).2 s).then_kept h

theorem run_eachMoves {k : CmdKind} {s : State} {p : Nat} {x : (commandOf k).1} {body : List Byte}
    (htk : Taken (commandOf k).2 s p x body) (ht : TablesOk (popFrame s p)) :
    EachMoves (popFrame s p) ((commandOf k).2.run (popFrame s p) p x).state := by
  by_cases hl : Area.segments ∈ kindAreas k
  · have hargs := checkedArgs_parse htk.args
    cases k with
    | claim =>
      obtain ⟨-, hnd⟩ := argsClaim_list hargs
      exact (eachMoves_claimAll _ x.reason x.immediate hnd (popFrame s p) 0).then_kept rfl
    | release =>
      obtain ⟨-, hnd⟩ := argsSegments_list hargs
      exact (eachMoves_releaseAll _ hnd (popFrame s p) 0).then_kept rfl
    | forceRelease => exact eachMoves_dropClaim _ _ _ _
    | restartConfirm => exact eachMoves_dropClaim _ _ _ _
    | permitRequest =>
      show EachMoves _ (runPermitRequest (popFrame s p) p x).state
      unfold runPermitRequest
      split
      · exact eachMoves_of_segments rfl
      · split
        · exact eachMoves_of_segments rfl
        · exact eachMoves_grantPermit ht _ _
    | _ => exact absurd hl (by decide)
  · exact eachMoves_of_segments ((leaves_run k _ p x).kept .segments hl)

theorem movesAt_detectorAt (s : State) (i z : Nat) : MovesAt s i (detectorAt s i z) := by
  unfold detectorAt
  dsimp only
  split
  · next hn => exact movesAt_segEvent _ _ (.joins .det _ true hn)
  · next k hk =>
    split
    · exact movesAt_refl s i
    · exact movesAt_segEvent _ _ (.renewed .det k _ true hk)

theorem movesAt_clearanceAt (s : State) (i z : Nat) (e : Bool) : MovesAt s i (clearanceAt s i z e) :=
  movesAt_segEvent _ _ (.cleared z _ (by simp +contextual))

theorem movesAt_reportAt (s : State) (i : Nat) : MovesAt s i (reportAt s i) := by
  unfold reportAt
  split
  · next hst =>
    split
    · exact movesAt_segEvent _ _ (.gatesDown hst)
    · exact movesAt_refl s i
  · next hst =>
    split
    · exact movesAt_segEvent _ _ (.gatesUp hst)
    · exact movesAt_refl s i
  all_goals exact movesAt_refl s i

theorem SegMove.of_taking {s : State} {c : Instr} {i : Nat} {m : Move} (h : SegMove (s.taking c) i m) :
    SegMove s i m := SegMove.congr (u := s.taking c) ⟨rfl, rfl, rfl, rfl⟩ rfl h

theorem EachMoves.of_taking {s t : State} {c : Instr} (h : EachMoves (s.taking c) t) : EachMoves s t :=
  fun k => (h k).imp id fun ⟨m, hm, hk⟩ => ⟨m, hm.of_taking, hk⟩

theorem event_eachMoves {c : Instr} {s t : State} (hc : c ≠ .secondBoundary)
    (hl : Area.segments ∈ eventAreas c) (h : exec c s = .next t) : EachMoves s t := by
  cases c
  case secondBoundary => exact absurd rfl hc
  case detectorEvent i z => obtain ⟨-, rfl⟩ := onObject_next h; exact (movesAt_detectorAt _ i z).each.of_taking
  case zoneClearanceEvent i z e =>
    obtain ⟨-, rfl⟩ := onObject_next h; exact (movesAt_clearanceAt _ i z e).each.of_taking
  case lockStartEvent i => obtain ⟨-, rfl⟩ := onObject_next h; exact (movesAt_lockStartAt _ i).each.of_taking
  case dwellExpiry i =>
    obtain ⟨-, rfl⟩ := onObject_next h
    split
    · next hd =>
      simp only [Bool.and_eq_true, beq_iff_eq] at hd
      exact (movesAt_segEvent _ _ (.dwelled hd.1)).each
    · exact eachMoves_of_segments rfl
  case gateReportToSegment g =>
    obtain ⟨-, rfl⟩ := onObject_next h
    split
    · exact (movesAt_reportAt _ _).each.of_taking
    · exact eachMoves_of_segments rfl
  all_goals simp [eventAreas, gateAreas, zoneAreas, weatherAreas, signAreas, stackAreas,
    stationAreas, answerAreas, quiesceAreas] at hl

/-- What a command makes of the segments: each keeps its record or takes one move. -/
theorem exec_eachMoves {c : Instr} {s t : State} (hc : c ≠ .startUp) (hb : c ≠ .secondBoundary)
    (ht : TablesOk s) (h : exec c s = .next t) : EachMoves s t := by
  cases ha : agentCommand c with
  | some pk =>
    obtain ⟨p, k⟩ := pk
    rw [eq_agentInstr ha, exec_agentInstr] at h
    obtain ⟨-, rfl⟩ := onObject_next h
    have hpop : ∀ u, EachMoves (popFrame s p) u → EachMoves s u := fun u hu k =>
      (hu k).imp id fun ⟨m, hm, hk⟩ => ⟨m, SegMove.congr (u := popFrame s p) ⟨rfl, rfl, rfl, rfl⟩ rfl hm, hk⟩
    exact takeCommand_keeps (P := EachMoves s) (eachMoves_of_segments rfl) (fun _ => eachMoves_of_segments rfl)
      (fun u r hu => hu.then_kept rfl)
      fun x body htk _ => hpop _ (run_eachMoves htk ((leaves_popFrame s p).tablesOk ht))
  | none =>
    by_cases hl : Area.segments ∈ eventAreas c
    · exact event_eachMoves hb hl h
    · exact eachMoves_of_segments ((leaves_event hc ha h).kept .segments hl)

/-! ## Revisions (R36) -/

/-- No move writes the revision. -/
theorem enterLowering_revision (s : State) (i : Nat) (g : Segment) :
    (enterLowering s i g).seg.revision = g.revision := by
  unfold enterLowering
  dsimp only
  split <;> rfl

theorem enterRaising_revision (s : State) (i : Nat) (g : Segment) :
    (enterRaising s i g).seg.revision = g.revision := by
  unfold enterRaising
  dsimp only
  split <;> rfl

theorem shorten_revision (s : State) (g : Segment) : (shorten s g).revision = g.revision := by
  unfold shorten
  split <;> rfl

theorem claimJoins_revision (s : State) (i : Nat) (was g : Segment) (im : Bool) :
    (claimJoins s i was g im).seg.revision = g.revision := by
  unfold claimJoins
  split
  · split <;> rfl
  · split
    · exact shorten_revision s g
    · rfl
  · rfl
  · rfl
  · split
    · exact enterLowering_revision s i g
    · rfl

theorem setEmptied_revision (s : State) (i : Nat) (g : Segment) :
    (setEmptied s i g).seg.revision = g.revision := by
  unfold setEmptied
  split
  · rfl
  · rfl
  · split <;> rfl
  all_goals split
  any_goals rfl
  all_goals exact enterRaising_revision s i g

theorem clearanceMove_revision (s : State) (i : Nat) (g : Segment) :
    (clearanceMove s i g).seg.revision = g.revision := by
  unfold clearanceMove
  split
  · split
    · split <;> rfl
    · split
      any_goals rfl
      all_goals exact enterRaising_revision s i g
  · rfl

theorem SegMove.revision {s : State} {i : Nat} {m : Move} (h : SegMove s i m) :
    m.seg.revision = (s.seg i).revision := by
  cases h with
  | joins => exact claimJoins_revision ..
  | renewed _ _ _ im => cases im <;> first | rfl | exact shorten_revision ..
  | leaves =>
    split
    · exact setEmptied_revision ..
    · rfl
  | cleared => exact clearanceMove_revision ..
  | locked =>
    split
    · exact enterLowering_revision ..
    · rfl
  | dwelled => exact enterLowering_revision ..
  | gatesDown | gatesUp => rfl

/-- The condition under which a revision is raised, as R36 states it. -/
theorem revisionChange_iff (old new : Segment) : revisionChange old new = true ↔
    new.state ≠ old.state ∨ new.barrierFault ≠ old.barrierFault ∨
      new.claims.watched ≠ old.claims.watched := by
  simp only [revisionChange, Bool.or_eq_true, bne_iff_ne, ne_eq]
  rw [eq_comm (a := old.state), eq_comm (a := old.barrierFault), eq_comm (a := old.claims.watched)]
  tauto

theorem revised_counts {old new : Segment} (h : new.revision = old.revision) :
    (revised old new).revision = old.revision +
      (if (revised old new).state ≠ old.state ∨ (revised old new).barrierFault ≠ old.barrierFault ∨
        (revised old new).claims.watched ≠ old.claims.watched then 1 else 0) := by
  have hrest : (revised old new).state = new.state ∧ (revised old new).barrierFault = new.barrierFault ∧
      (revised old new).claims = new.claims := by unfold revised; split <;> exact ⟨rfl, rfl, rfl⟩
  obtain ⟨hs, hb, hc⟩ := hrest
  rw [hs, hb, hc]
  unfold revised
  by_cases hch : revisionChange old new = true
  · rw [if_pos hch, if_pos ((revisionChange_iff old new).1 hch)]
  · rw [if_neg hch, if_neg (mt (revisionChange_iff old new).2 hch), h]
    simp

end Sys2Proof.Machine

namespace Sys2Proof

set_option Elab.async false

open Sys2Proof.Machine

/-- Settles O59: a command makes at most one move at a segment, and a move's revision is raised once. -/
theorem revisionCountsChanges : Obligations.RevisionCountsChanges := by
  intro c s t ht _ hc h i _
  by_cases hb : c = .secondBoundary
  · subst hb
    cases h
    rw [secondBoundary_seg]
    simp
  · rcases exec_eachMoves hc hb ht h i with hi | ⟨m, hm, hi⟩
    · simp [hi]
    · rw [hi]
      exact revised_counts hm.revision

end Sys2Proof

/-! PROOF. What the owners of the stations' roles do when a station quiesces (log 35), and the gate records: every
step keeps them consistent (R69–R84). -/

namespace Sys2Proof.Machine

set_option Elab.async false

open Sys2Proof

/-! ## A quiescing station (R168) -/

/-- The areas that the owners of the roles change, but for outputs and notices. -/
def roleAreas : List Area := [.gates, .zones, .placement, .tables]

/-- A property of some of these areas that every operation of an owner on a station keeps. -/
structure KeptByOwners (P : State → Prop) (l : List Area) (x : Nat) : Prop where
  areas : ∀ a ∈ l, a ∈ roleAreas
  frame : ∀ s t : State, (∀ a ∈ l, a.kept s t) → t.image = s.image → P s → P t
  left : ∀ s, P s → P (placementLeft s x)
  entered : ∀ s, P s → P (placementEntered s x)
  recorded : ∀ s g r, P s → P (gateRecorded s g r)
  lost : ∀ s g, P s → P (gateLost s g)
  report : ∀ s r, P s → P (stationReport s x r)
  tripLost : ∀ s, P s → P (tripLost s x)

theorem KeptByOwners.by_leaves {P : State → Prop} {l l' : List Area} {x : Nat} (h : KeptByOwners P l x) {s t : State}
    (hl : Leaves l' s t) (hs : P s) (hd : ∀ a ∈ roleAreas, a ∉ l' := by decide) : P t :=
  h.frame s t (fun a ha => hl.kept a (hd a (h.areas a ha))) (hl.image (hd .tables (by decide))) hs

theorem KeptByOwners.takeRole {P : State → Prop} {l : List Area} {x : Nat} (h : KeptByOwners P l x) (s : State)
    (c : Instr) (hs : P s) : P (takeRole x s c) := by
  have ht : ∀ c, P (s.taking c) := fun c => h.by_leaves (leaves_taking s c) hs
  unfold Machine.takeRole
  split
  · split
    · exact h.entered _ (ht _)
    · exact hs
  · split
    · exact h.left _ (ht _)
    · exact hs
  · split
    · exact h.recorded _ _ _ (ht _)
    · exact hs
  · split
    · exact h.lost _ _ (ht _)
    · exact hs
  · split
    · exact h.report _ _ (ht _)
    · exact hs
  · split
    · exact h.report _ _ (ht _)
    · exact hs
  · split
    · exact h.tripLost _ (ht _)
    · exact hs
  · split
    · exact h.by_leaves (leaves_beaconEntered _ x) (ht _)
    · exact hs
  · split
    · exact h.by_leaves (leaves_beaconLeft _ x) (ht _)
    · exact hs
  · exact hs

theorem KeptByOwners.roleTaken {P : State → Prop} {l : List Area} {x : Nat} (h : KeptByOwners P l x) (s : State)
    (hs : P s) : P (roleTaken s x) := by
  have hgen : ∀ (cs : List Instr) (u : State), P u → P (cs.foldl (Machine.takeRole x) u) := by
    intro cs
    induction cs with
    | nil => exact fun _ h => h
    | cons c cs ih => exact fun u hu => ih _ (h.takeRole u c hu)
  exact hgen s.deliveries s hs

theorem KeptByOwners.departAtOnce {P : State → Prop} {l : List Area} {x : Nat} (h : KeptByOwners P l x) (s : State)
    (hs : P s) : P (departAtOnce s x) := by
  unfold Machine.departAtOnce
  split
  · exact h.by_leaves (leaves_takeRetargets _) (h.left s hs)
  · split
    · exact h.lost _ _ hs
    · exact hs
  · exact h.tripLost _ hs
  · exact h.by_leaves (leaves_beaconLeft s x) hs
  · exact hs

theorem KeptByOwners.quiesce {P : State → Prop} {l : List Area} {x : Nat} (h : KeptByOwners P l x) (s : State)
    (cause : StationCause) (hs : P s) : P (quiesceStation (Machine.roleTaken s x) x cause) :=
  h.departAtOnce _ (h.by_leaves (leaves_enterStation _ x _ _ _) (h.roleTaken s hs))

theorem KeptByOwners.press {P : State → Prop} {l : List Area} {x : Nat} (h : KeptByOwners P l x) (s : State)
    (hs : P s) : P (press s x) := by
  unfold Machine.press
  split
  · split
    · exact h.by_leaves ((leaves_setStation s x _).mono.andThen (leaves_stationNotice _ x _) (l' := stationAreas))
        hs
    · exact h.quiesce s _ hs
  · exact h.by_leaves (leaves_powerStation s x _) hs
  all_goals exact hs

theorem KeptByOwners.stationOff {P : State → Prop} {l : List Area} {x : Nat} (h : KeptByOwners P l x) (s : State)
    (p : Nat) (hs : P s) : P (runStationOff s p x).state := by
  unfold runStationOff
  split
  · exact hs
  · exact h.quiesce s _ hs

/-! ## Gates -/

/-- A gate between its events, whatever orders, position, station and lever. -/
theorem Gate.ok_congr {n : Nat} {g h : Gate} (hg : g.ok n) (hst : h.state = g.state) (ha : h.attempts = g.attempts)
    (ht : h.timer.isSome = g.timer.isSome) (hc : h.cause = g.cause) : h.ok n := by
  simpa only [Gate.ok, Gate.moving, hst, ha, ht, hc] using hg

theorem restIn_ok {n : Nat} {g : Gate} {st : GateState} (h : g.attempts ≤ n)
    (hst : st = .opened ∨ st = .closed ∨ st = .unknown ∨ st = .manual ∨ st = .offline) : (restIn st g).ok n := by
  rcases hst with rfl | rfl | rfl | rfl | rfl <;> simp [Gate.ok, restIn, Gate.moving, h]

theorem faultWith_ok {n : Nat} {g : Gate} (c : GateFault) (h : g.attempts ≤ n) : (faultWith c g).ok n := by
  simp [Gate.ok, faultWith, Gate.moving, h]

theorem beginLower_ok (s : State) (n : Nat) (g : Gate) : (beginLower s g).ok n := by
  simp [Gate.ok, beginLower, orderDrive, Gate.moving]

theorem beginRaise_ok {n : Nat} (s : State) {g : Gate} (h : g.attempts ≤ n) : (beginRaise s g).ok n := by
  simp [Gate.ok, beginRaise, orderDrive, Gate.moving, h]

theorem enterManual_ok {n : Nat} {g : Gate} (h : g.attempts ≤ n) : (enterManual g).ok n :=
  restIn_ok h (by simp)

theorem settle_ok {n : Nat} (s : State) (k : Nat) {g : Gate} (h : g.attempts ≤ n) :
    (settle s k g).gate.ok n := by
  unfold settle
  split
  · split
    · exact beginLower_ok s n g
    · exact restIn_ok h (by simp)
  · split
    · exact beginRaise_ok s h
    · exact restIn_ok h (by simp)
  · split
    · exact beginLower_ok s n g
    · split
      · exact beginRaise_ok s h
      · exact restIn_ok h (by simp)
  · exact restIn_ok h (by simp)

theorem retreat_ok (s : State) {g : Gate} (h : g.attempts ≤ s.image.retryLimit) :
    (retreat s g).ok s.image.retryLimit := by
  unfold retreat
  by_cases hlt : g.attempts < s.image.retryLimit <;>
    simp [Gate.ok, orderDrive, orderStop, Gate.moving, hlt, h]

theorem Gate.ok.attempts {n : Nat} {g : Gate} (h : g.ok n) : g.attempts ≤ n := h.2.2.2.2.1

theorem lowerMove_ok {n : Nat} (s : State) {g : Gate} (h : g.ok n) : (lowerMove s g).gate.ok n := by
  unfold lowerMove
  split
  · exact beginLower_ok ..
  · exact beginLower_ok ..
  · split
    · exact beginLower_ok ..
    · exact h
  all_goals exact h

theorem raiseMove_ok {n : Nat} (s : State) {g : Gate} (h : g.ok n) : (raiseMove s g).gate.ok n := by
  unfold raiseMove
  split
  · exact beginRaise_ok s h.attempts
  · exact beginRaise_ok (g := orderStop g) s h.attempts
  · split
    · exact beginRaise_ok s h.attempts
    · exact h
  · next hst =>
    split
    · next hc =>
      obtain ⟨htimer, -, -, -, ha, -⟩ := h
      have hc : g.cause = none := by simpa using hc
      have htimer : g.timer.isSome = true := htimer.2 (.inl (by simp [Gate.moving, hst]))
      simp [GateMove.still, Gate.ok, Gate.moving, hc, htimer, ha]
    · exact h
  · exact restIn_ok h.attempts (by simp)
  all_goals exact h

theorem leverMove_ok {n : Nat} {g : Gate} (h : g.attempts ≤ n) : (leverMove g).1.gate.ok n := by
  unfold leverMove
  split
  · exact faultWith_ok _ h
  · exact enterManual_ok h

theorem motionMove_ok (s : State) (k : Nat) {g : Gate} (r : GateReport) (moved : Bool)
    (h : g.ok s.image.retryLimit) : (motionMove s k g r moved).1.gate.ok s.image.retryLimit := by
  have ha := h.attempts
  unfold motionMove
  split
  · split
    · exact restIn_ok ha (by simp)
    · split
      · exact retreat_ok s ha
      · exact h
  · split
    · exact restIn_ok ha (by simp)
    · exact h
  · next hst =>
    split
    · split
      · exact faultWith_ok _ ha
      · next hc =>
        obtain ⟨-, -, hretreat, -, -, hlt⟩ := h
        have hnone : g.cause = none := (hretreat hst).resolve_right (by simpa using hc)
        have hlt := hlt (.inr ⟨hst, hnone⟩)
        simp [GateMove.still, Gate.ok, Gate.moving, hnone, ha, hlt]
    · exact h
  · split
    · exact h
    · exact faultWith_ok _ ha
  · split
    · exact h
    · exact faultWith_ok _ ha
  · split
    · exact h
    · exact faultWith_ok _ ha
  · split
    · exact settle_ok s k ha
    · exact h
  all_goals exact h

theorem reportMove_ok (s : State) (k : Nat) (r : GateReport) (h : (s.gate k).ok s.image.retryLimit) :
    (reportMove s k r).1.gate.ok s.image.retryLimit := by
  have hg : Gate.ok s.image.retryLimit { s.gate k with position := some r.position, lever := r.lever } := h
  unfold reportMove
  dsimp only
  split
  · split
    · exact hg
    · exact hg
    · exact leverMove_ok hg.attempts
  · split
    · exact settle_ok s k hg.attempts
    · exact motionMove_ok s k r _ hg

theorem timeoutMove_ok {n : Nat} {g : Gate} (h : g.attempts ≤ n) : (timeoutMove g).1.gate.ok n := by
  unfold timeoutMove
  split
  · exact faultWith_ok (g := orderStop g) _ h
  · exact faultWith_ok (g := orderStop g) _ h

theorem retryMove_ok {n : Nat} (s : State) (k : Nat) {g : Gate} (h : g.ok n) (hst : g.state = .wait) :
    (retryMove s k g).1.gate.ok n := by
  obtain ⟨-, -, -, hcause, ha, hlt⟩ := h
  unfold retryMove
  split
  · have hnone : g.cause = none := hcause (by simp [hst])
    have hlt := hlt (.inl hst)
    simp [GateMove.driven, Gate.ok, orderDrive, Gate.moving, hnone]
    omega
  · exact restIn_ok ha (by simp)

theorem lostMove_ok {n : Nat} {g : Gate} (h : g.ok n) : (lostMove g).1.gate.ok n := by
  have ha := h.attempts
  unfold lostMove
  dsimp only
  split
  · exact faultWith_ok _ ha
  · exact faultWith_ok _ ha
  · exact faultWith_ok _ ha
  all_goals first | exact restIn_ok ha (by simp) | exact h

theorem returnMove_ok {n : Nat} {s : State} {k : Nat} (r : GateReport) (h : (s.gate k).ok n) :
    (returnMove s k r).gate.ok n := by
  have hg : (identified (s.gate k) r).ok n := h
  unfold returnMove
  dsimp only
  split
  · exact hg
  · split
    · exact enterManual_ok hg.attempts
    · exact settle_ok s k hg.attempts

theorem clearMove_ok (n : Nat) (s : State) (k : Nat) : (clearMove s k).gate.ok n := by
  have h0 : Gate.attempts { s.gate k with attempts := 0, cause := none } ≤ n := Nat.zero_le n
  unfold clearMove
  dsimp only
  split
  · exact restIn_ok h0 (by simp)
  · split
    · exact enterManual_ok h0
    · exact settle_ok s k h0

/-! ## Gates of the table -/

theorem gatesOk_of_gates {s t : State} (h : t.gates.recs = s.gates.recs) (himg : t.image = s.image)
    (hs : GatesOk s) : GatesOk t := by
  simpa only [GatesOk, State.gate, h, himg] using hs

theorem gatesOk_setGate {s : State} {g : Nat} {v : Gate} (hs : GatesOk s)
    (hv : (s.gate g).ok s.image.retryLimit → v.ok s.image.retryLimit) : GatesOk (s.setGate g v) := by
  intro k hk
  by_cases hg : k = g
  · subst hg
    by_cases hlt : k < s.gates.recs.length
    · rw [State.setGate_gate_self s k v hlt]; exact hv (hs k hk)
    · have hsame : (s.setGate k v).gate k = s.gate k := by
        simp [State.gate, List.set_eq_of_length_le (Nat.not_lt.1 hlt)]
      rw [hsame]; exact hs k hk
  · rw [State.setGate_gate_ne s g k v hg]; exact hs k hk

theorem gateEvent_gates (s : State) (g : Nat) (m : GateMove) (cause : GateCause) :
    (gateEvent s g m cause).gates = (s.setGate g m.gate).gates := by
  have h : ((s.setGate g m.gate).recarry (m.replaces g)).gates = (s.setGate g m.gate).gates :=
    (leaves_recarry _ _).kept .gates (by decide)
  unfold gateEvent
  dsimp only
  split
  · exact h
  · exact h

theorem gatesOk_gateEvent {s : State} {g : Nat} {m : GateMove} (cause : GateCause) (hs : GatesOk s)
    (hm : (s.gate g).ok s.image.retryLimit → m.gate.ok s.image.retryLimit) :
    GatesOk (gateEvent s g m cause) :=
  gatesOk_of_gates (s := s.setGate g m.gate) (by rw [gateEvent_gates]) (leaves_gateEvent s g m cause).image
    (gatesOk_setGate hs hm)

theorem gatesOk_gateLost {s : State} (g : Nat) (hs : GatesOk s) : GatesOk (gateLost s g) :=
  gatesOk_gateEvent _ hs fun h => lostMove_ok h

theorem gatesOk_limitGate {s : State} (g : Nat) (hs : GatesOk s) : GatesOk (limitGate s g) := by
  unfold limitGate
  dsimp only
  split
  · exact gatesOk_gateEvent _ hs fun h => Gate.ok_congr (restIn_ok (st := .offline) (Gate.ok.attempts h) (by simp)) rfl rfl rfl rfl
  · exact hs

theorem gatesOk_foldl_limitGate (l : List Nat) {s : State} (hs : GatesOk s) :
    GatesOk (l.foldl limitGate s) := by
  induction l generalizing s with
  | nil => exact hs
  | cons g l ih => exact ih (gatesOk_limitGate g hs)

theorem gatesOk_frame {s t : State} (h : Area.gates.kept s t) (himg : t.image = s.image) (hs : GatesOk s) :
    GatesOk t := gatesOk_of_gates (congrArg GateUnit.recs h) himg hs

theorem gatesOk_leaves {l : List Area} {s t : State} (h : Leaves l s t) (hs : GatesOk s)
    (hl : Area.gates ∉ l ∧ Area.tables ∉ l := by decide) : GatesOk t :=
  gatesOk_frame (h.kept .gates hl.1) (h.image hl.2) hs

theorem gatesOk_keptByOwners (x : Nat) : KeptByOwners GatesOk [.gates] x where
  areas := by decide
  frame := fun _ _ h himg => gatesOk_frame (h .gates (by simp)) himg
  left := fun s => gatesOk_leaves (leaves_placementLeft s x)
  entered := fun s => gatesOk_leaves (leaves_placementEntered s x)
  recorded := fun s g r hs => gatesOk_setGate hs fun h => Gate.ok_congr h rfl rfl rfl rfl
  lost := fun s g => gatesOk_gateLost g
  report := fun s r => gatesOk_leaves (leaves_stationReport s x r)
  tripLost := fun s => gatesOk_leaves (leaves_tripLost s x)

theorem gatesOk_carriedNow {s : State} (x : Nat) (c : Carriage) (hs : GatesOk s) : GatesOk (carriedNow s x c) := by
  cases c with
  | stop g | drive g => exact gatesOk_setGate hs fun h => Gate.ok_congr h rfl rfl rfl rfl
  | darken =>
    simp only [carriedNow]
    split
    · exact hs
    · exact hs
  | _ => exact hs

theorem gatesOk_pollAnswer {s : State} (x : Nat) (a : PollAnswer) (hs : GatesOk s) :
    GatesOk (pollAnswer s x a) := by
  unfold pollAnswer
  split
  · split
    · have hset := gatesOk_leaves (leaves_setStation s x { s.station x with missed := 0 }) hs
      exact gatesOk_leaves ((leaves_deliver _ _).mono.trans (leaves_endBus _).mono (l := stationAreas))
        (gatesOk_carriedNow x _ hset)
    · exact hs
  · exact gatesOk_leaves (leaves_lostAnswers s x) hs
  all_goals exact gatesOk_leaves (leaves_endBus s) hs

theorem secondBoundary_gate (s : State) (g : Nat) :
    (secondBoundary s).gate g = { s.gate g with timer := tick (s.gate g).timer } :=
  getD_map_default _ _ _ _ _ rfl

theorem gate_event_ok {c : Instr} {s t : State} (hs : GatesOk s)
    (hl : Area.gates ∈ eventAreas c) (h : exec c s = .next t) : GatesOk t := by
  cases c
  case secondBoundary =>
    cases h
    intro g hg
    rw [secondBoundary_gate]
    exact Gate.ok_congr (hs g hg) rfl rfl (isSome_tick _) rfl
  case lowerRequest g =>
    obtain ⟨-, rfl⟩ := onObject_next h
    split
    · exact gatesOk_gateEvent (s := s.taking _) _ hs (lowerMove_ok _)
    · exact hs
  case raiseRequest g =>
    obtain ⟨-, rfl⟩ := onObject_next h
    split
    · exact gatesOk_gateEvent (s := s.taking _) _ hs (raiseMove_ok _)
    · exact hs
  case gateReport g r =>
    obtain ⟨-, rfl⟩ := onObject_next h
    unfold reportGate
    split
    · exact gatesOk_gateEvent (s := s.taking _) _ hs (reportMove_ok _ g r)
    · exact hs
  case travelTimeout g =>
    obtain ⟨-, rfl⟩ := onObject_next h
    split
    · exact gatesOk_gateEvent _ hs fun h => timeoutMove_ok (Gate.ok.attempts h)
    · exact hs
  case retryIntervalExpiry g =>
    obtain ⟨-, rfl⟩ := onObject_next h
    split
    · next hd =>
      simp only [Bool.and_eq_true, beq_iff_eq] at hd
      exact gatesOk_gateEvent _ hs fun h => retryMove_ok s g h hd.1
    · exact hs
  case startupLimit =>
    have ht : (if due s.gates.startLimit then
        (List.range 8).foldl limitGate { s with gates := { s.gates with startLimit := none } }
      else s) = t := Host.Outcome.next.inj h
    rw [← ht]
    split
    · exact gatesOk_foldl_limitGate _ (s := { s with gates := { s.gates with startLimit := none } }) hs
    · exact hs
  case gateStationLost g =>
    obtain ⟨-, rfl⟩ := onObject_next h
    exact gatesOk_gateLost (s := s.taking _) g hs
  case gateStationReturn g r =>
    obtain ⟨-, rfl⟩ := onObject_next h
    exact gatesOk_gateEvent (s := s.taking _) _ hs (returnMove_ok r)
  case pollAnswered x a =>
    obtain ⟨-, rfl⟩ := onObject_next h
    split
    · exact gatesOk_pollAnswer x a hs
    · exact hs
  case quiescingExchangeAnswered x =>
    obtain ⟨-, rfl⟩ := onObject_next h
    split
    · exact gatesOk_leaves (leaves_switchOff _ x) (gatesOk_carriedNow x _ hs)
    · exact hs
  case attentionButton x =>
    obtain ⟨-, rfl⟩ := onObject_next h
    exact (gatesOk_keptByOwners x).press s hs
  all_goals simp [eventAreas, segAreas, zoneAreas, weatherAreas, signAreas, stackAreas, stationAreas] at hl

theorem run_gatesOk {k : CmdKind} {s : State} {p : Nat} (x : (commandOf k).1)
    (hk : Area.gates ∈ kindAreas k) (hs : GatesOk s) : GatesOk ((commandOf k).2.run s p x).state := by
  cases k with
  | gateFaultClear =>
    show GatesOk (runGateFaultClear s p x).state
    unfold runGateFaultClear
    split
    · exact gatesOk_gateEvent _ hs fun _ => clearMove_ok _ s x
    · exact hs
  | stationOff => exact (gatesOk_keptByOwners x).stationOff s p hs
  | _ => exact absurd hk (by decide)

theorem exec_gatesOk {c : Instr} {s t : State} (hc : c ≠ .startUp) (ht : TablesOk s)
    (hs : GatesOk s) (h : exec c s = .next t) : GatesOk t :=
  exec_keeps [.gates] (fun _ _ hk himg => gatesOk_frame (hk .gates (by simp)) himg)
    (fun _ _ _ x _ hk _ _ hs => run_gatesOk x (by simpa using hk) hs)
    (fun _ _ _ _ _ hk _ hs h => gate_event_ok hs (by simpa using hk) h) hc ht hs h

theorem startUp_gatesOk {s t : State} (h : exec .startUp s = .next t) : GatesOk t := by
  rw [exec_startUp] at h
  cases h
  intro g hg
  have hgate : ∀ l key contacts pending, (boot l key contacts pending).gate g = Gate.reset := by
    intro l key contacts pending
    show (List.replicate 8 Gate.reset).getD g default = Gate.reset
    rw [List.getD_replicate _ hg]
  rw [hgate]
  simp [Gate.ok, Gate.reset, Gate.moving]

end Sys2Proof.Machine

/-! PROOF. The zone monitor's operations on its records (R87–R106): the deciding zones, the lines, the zones. -/

namespace Sys2Proof.Machine

set_option Elab.async false

open Sys2Proof

/-! ## Lists of the image -/

theorem mem_zoneList {img : Image} {i z : Nat} :
    z ∈ zoneList img i ↔ z < 10 ∧ i ∈ (imageZone img z).threatened := by
  simp [zoneList]

theorem mem_lineList {img : Image} {z l : Nat} :
    l ∈ lineList img z ↔ l < 24 ∧ (imageLine img l).zone = some z := by
  simp [lineList]

theorem mem_stationLines {img : Image} {x l : Nat} :
    l ∈ stationLines img x ↔ l < 24 ∧ ∃ inp < 4, (imageLine img l).place = some (x, inp) := by
  simp only [stationLines, List.mem_flatMap, List.mem_range, List.mem_filter, beq_iff_eq]
  constructor
  · rintro ⟨inp, hinp, hl, hp⟩
    exact ⟨hl, inp, hinp, hp⟩
  · rintro ⟨hl, inp, hinp, hp⟩
    exact ⟨inp, hinp, hl, hp⟩

theorem stationLines_nodup (img : Image) (x : Nat) : (stationLines img x).Nodup := by
  unfold stationLines
  rw [List.nodup_flatMap]
  refine ⟨fun inp _ => List.nodup_range.filter _, List.nodup_range.imp_of_mem fun {a b} _ _ hab l hla hlb => ?_⟩
  simp only [List.mem_filter, beq_iff_eq] at hla hlb
  rw [hla.2] at hlb
  simp at hlb
  exact hab hlb.2

theorem imageAccepted_lines {img : Image} (h : imageAccepted img = true) : linesOk img = true := by
  simp only [imageAccepted, Bool.and_eq_true] at h
  tauto

/-- The zone of a line of an accepted image is a zone of the part (R88). -/
theorem imageLine_zone {img : Image} {l z : Nat} (ha : imageAccepted img = true)
    (h : (imageLine img l).zone = some z) : z < 10 := by
  have hl := imageAccepted_lines ha
  simp only [linesOk, Bool.and_eq_true, List.all_eq_true] at hl
  obtain ⟨⟨⟨⟨⟨hall, -⟩, -⟩, -⟩, -⟩, -⟩ := hl
  by_cases hlt : l < img.lines.length
  · have hmem : imageLine img l ∈ img.lines := by simp [imageLine, List.getD, hlt]
    have hok := hall _ hmem
    rw [h] at hok
    split at hok
    · simp at hok
    · simp only [Bool.and_eq_true] at hok
      simpa [zoneOk] using hok.2
  · have hdef : (imageLine img l).zone = none := by
      simp [imageLine, List.getD, Nat.not_lt.1 hlt]
      rfl
    rw [hdef] at h
    cases h

theorem imageAccepted_debounce {img : Image} (h : imageAccepted img = true) : 1 ≤ img.debounce := by
  have hl := imageAccepted_lines h
  simp only [linesOk, Bool.and_eq_true, within, decide_eq_true_eq] at hl
  omega

theorem imageAccepted_watch {img : Image} (h : imageAccepted img = true) : 1 ≤ img.watchThreshold := by
  have hl := imageAccepted_lines h
  simp only [linesOk, Bool.and_eq_true, within, decide_eq_true_eq] at hl
  omega

/-! ## Zone and line records -/

/-- Two states have the same zone, line and shown records. -/
theorem zone_of_zones {s t : State} (h : t.zones = s.zones) (z : Nat) : t.zone z = s.zone z := by
  rw [State.zone, h]; rfl

theorem line_of_zones {s t : State} (h : t.zones = s.zones) (l : Nat) : t.line l = s.line l := by
  rw [State.line, h]; rfl

theorem shownZone_of_zones {s t : State} (h : t.zones = s.zones) (i : Nat) : t.shownZone i = s.shownZone i := by
  rw [State.shownZone, h]; rfl

/-- A zone decides by its state and level alone (R103). -/
theorem decidingZone_congr {s t : State} {i : Nat} (himg : t.image = s.image)
    (h : ∀ z ∈ zoneList s.image i, (t.zone z).state = (s.zone z).state ∧ (t.zone z).level = (s.zone z).level) :
    decidingZone t i = decidingZone s i := by
  unfold decidingZone
  rw [himg]
  refine List.foldl_ext _ _ _ fun best z hz => ?_
  obtain ⟨hs, hl⟩ := h z hz
  rw [hs, hl]

theorem decidingZone_of_zones {s t : State} (hz : t.zones = s.zones) (himg : t.image = s.image) (i : Nat) :
    decidingZone t i = decidingZone s i :=
  decidingZone_congr himg fun z _ => by rw [zone_of_zones hz]; exact ⟨rfl, rfl⟩

theorem degradedNow_congr {s t : State} {z : Nat} (himg : t.image = s.image)
    (h : ∀ l ∈ lineList s.image z, (t.line l).state = (s.line l).state) :
    degradedNow t z = degradedNow s z := by
  unfold degradedNow
  rw [himg, Bool.eq_iff_iff, List.any_eq_true, List.any_eq_true]
  refine exists_congr fun l => and_congr_right fun hl => ?_
  rw [Line.degrades, h l hl]
  rfl

theorem stateOfLevel_congr {s t : State} (himg : t.image = s.image) (v : Nat) :
    stateOfLevel t v = stateOfLevel s v := by rw [stateOfLevel, himg]; rfl

/-! ## The deciding zones delivered (R104) -/

theorem redecideSegment_zones (r : State × List Instr) (i : Nat) :
    (redecideSegment r i).1.zones.zones = r.1.zones.zones ∧
    (redecideSegment r i).1.zones.lines = r.1.zones.lines ∧
    (redecideSegment r i).1.zones.shown.length = r.1.zones.shown.length ∧
    (redecideSegment r i).1.image = r.1.image := by
  unfold redecideSegment
  dsimp only
  split
  · exact ⟨rfl, rfl, rfl, rfl⟩
  · exact ⟨rfl, rfl, by simp, rfl⟩

theorem redecideSegment_self {r : State × List Instr} {i : Nat} (hi : i < r.1.zones.shown.length) :
    (redecideSegment r i).1.shownZone i = decidingZone r.1 i := by
  unfold redecideSegment
  dsimp only
  split
  · next h => exact h
  · exact State.setShown_shownZone_self _ _ _ hi

theorem redecideSegment_ne {r : State × List Instr} {i j : Nat} (h : j ≠ i) :
    (redecideSegment r i).1.shownZone j = r.1.shownZone j := by
  unfold redecideSegment
  dsimp only
  split
  · rfl
  · exact State.setShown_shownZone_ne _ _ _ _ h

/-- The records a segment is decided from are those of `s`. -/
def DecidedFrom (s : State) (r : State × List Instr) : Prop :=
  r.1.zones.zones = s.zones.zones ∧ r.1.zones.lines = s.zones.lines ∧
    r.1.zones.shown.length = s.zones.shown.length ∧ r.1.image = s.image

theorem DecidedFrom.step {s : State} {r : State × List Instr} (h : DecidedFrom s r) (i : Nat) :
    DecidedFrom s (redecideSegment r i) := by
  obtain ⟨h1, h2, h3, h4⟩ := redecideSegment_zones r i
  exact ⟨h1.trans h.1, h2.trans h.2.1, h3.trans h.2.2.1, h4.trans h.2.2.2⟩

theorem DecidedFrom.decidingZone {s : State} {r : State × List Instr} (h : DecidedFrom s r) (i : Nat) :
    decidingZone r.1 i = decidingZone s i :=
  decidingZone_congr h.2.2.2 fun z _ => by rw [State.zone, h.1]; exact ⟨rfl, rfl⟩

theorem DecidedFrom.foldl {s : State} {r : State × List Instr} (h : DecidedFrom s r) (l : List Nat) :
    DecidedFrom s (l.foldl redecideSegment r) := by
  induction l generalizing r with
  | nil => exact h
  | cons i l ih => exact ih (h.step i)

theorem decidedFrom_redecide (s : State) (z : Nat) :
    DecidedFrom s ((threatened s z).foldl redecideSegment (s, [])) :=
  DecidedFrom.foldl (r := (s, [])) ⟨rfl, rfl, rfl, rfl⟩ _

theorem redecide_zones (s : State) (z : Nat) :
    (redecide s z).zones.zones = s.zones.zones ∧ (redecide s z).zones.lines = s.zones.lines ∧
      (redecide s z).image = s.image :=
  ⟨(decidedFrom_redecide s z).1, (decidedFrom_redecide s z).2.1, (decidedFrom_redecide s z).2.2.2⟩

theorem redecide_zone (s : State) (z y : Nat) : (redecide s z).zone y = s.zone y := by
  rw [State.zone, (redecide_zones s z).1]; rfl

theorem redecide_line (s : State) (z l : Nat) : (redecide s z).line l = s.line l := by
  rw [State.line, (redecide_zones s z).2.1]; rfl

theorem decidingZone_redecide (s : State) (z i : Nat) : decidingZone (redecide s z) i = decidingZone s i :=
  decidingZone_congr (redecide_zones s z).2.2 fun y _ => by rw [redecide_zone]; exact ⟨rfl, rfl⟩

/-- The deciding zone last delivered is the present one at every segment the zone threatens. -/
theorem redecide_shownZone {s : State} (ht : TablesOk s) (z j : Nat) :
    (redecide s z).shownZone j = if j ∈ threatened s z then decidingZone s j else s.shownZone j := by
  obtain ⟨ha, -, -, -, -, -, -, -, hlen, -⟩ := ht
  obtain ⟨hlt, hnd⟩ : (∀ i ∈ threatened s z, i < 12) ∧ (threatened s z).Nodup := imageZone_threatened ha z
  show ((threatened s z).foldl redecideSegment (s, [])).1.shownZone j = _
  rw [foldl_record (get := fun r j => r.1.shownZone j) (g := fun i _ => decidingZone s i) (R := DecidedFrom s) hnd
    (fun r i _ hr => hr.step i)
    (fun r i hi hr => by
      rw [redecideSegment_self (by rw [hr.2.2.1]; have := hlt i hi; omega), hr.decidingZone])
    (fun r i _ _ j hj => redecideSegment_ne hj) _ ⟨rfl, rfl, rfl, rfl⟩]

/-- Every segment has its deciding zone delivered. -/
def AllShown (s : State) : Prop := ∀ i < 12, s.shownZone i = decidingZone s i

theorem allShown_redecide {s : State} (ht : TablesOk s) {z : Nat}
    (h : ∀ i < 12, i ∉ threatened s z → s.shownZone i = decidingZone s i) : AllShown (redecide s z) := by
  intro i hi
  rw [redecide_shownZone ht, decidingZone_redecide]
  split
  · rfl
  · next hn => exact h i hi hn

/-! ## What keeps the zones consistent -/

/-- A zone's record by itself. -/
def ZoneRecordOk (s : State) (z : Nat) (r : Zone) : Prop :=
  r.level ≤ 5 ∧ (r.permit.isSome = true ↔ r.state = .work) ∧
  (r.state = .quiet ∨ r.state = .watch → r.state = stateOfLevel s r.level ∧ r.fired = []) ∧
  r.fired.Nodup ∧ ∀ l ∈ r.fired, l ∈ lineList s.image z

theorem zoneOk_iff (s : State) (z : Nat) :
    ZoneOk s z ↔ ZoneRecordOk s z (s.zone z) ∧ (s.zone z).degraded = degradedNow s z := by
  simp only [ZoneOk, ZoneRecordOk, and_assoc]

theorem ZoneRecordOk.congr {s t : State} {z : Nat} {r : Zone} (himg : t.image = s.image)
    (h : ZoneRecordOk s z r) : ZoneRecordOk t z r := by
  simpa only [ZoneRecordOk, stateOfLevel, himg] using h

theorem ZoneRecordOk.degraded {s : State} {z : Nat} {r : Zone} (b : Bool) (h : ZoneRecordOk s z r) :
    ZoneRecordOk s z { r with degraded := b } := h

theorem zonesOk_of_zones {s t : State} (hz : t.zones = s.zones) (himg : t.image = s.image)
    (hs : ZonesOk s) : ZonesOk t := by
  obtain ⟨hzones, hlines, hshown⟩ := hs
  refine ⟨fun z hlt => ?_, fun l hlt => ?_, fun i hi => ?_⟩
  · rw [zoneOk_iff, zone_of_zones hz, degradedNow_congr himg fun l _ => by rw [line_of_zones hz]]
    obtain ⟨hrec, hdeg⟩ := (zoneOk_iff s z).1 (hzones z hlt)
    exact ⟨hrec.congr himg, hdeg⟩
  · rw [line_of_zones hz, himg]; exact hlines l hlt
  · rw [shownZone_of_zones hz, decidingZone_of_zones hz himg]; exact hshown i hi

theorem setZone_zone (s : State) (z y : Nat) (r : Zone) (hy : y < s.zones.zones.length) :
    (s.setZone z r).zone y = if y = z then r else s.zone y := by
  split
  · next h => subst h; exact State.setZone_zone_self s y r hy
  · next h => exact State.setZone_zone_ne s z y r h

theorem setLine_line (s : State) (l k : Nat) (r : Line) (hk : k < s.zones.lines.length) :
    (s.setLine l r).line k = if k = l then r else s.line k := by
  split
  · next h => subst h; exact State.setLine_line_self s k r hk
  · next h => exact State.setLine_line_ne s l k r h

theorem setZone_line (s : State) (z l : Nat) (r : Zone) : (s.setZone z r).line l = s.line l := rfl
theorem setZone_shownZone (s : State) (z i : Nat) (r : Zone) : (s.setZone z r).shownZone i = s.shownZone i := rfl
theorem setLine_zone (s : State) (l z : Nat) (r : Line) : (s.setLine l r).zone z = s.zone z := rfl
theorem setLine_shownZone (s : State) (l i : Nat) (r : Line) : (s.setLine l r).shownZone i = s.shownZone i := rfl

/-- A zone's state and level decide nothing where it threatens nothing. -/
theorem decidingZone_setZone_ne {s : State} {z i : Nat} (r : Zone) (hi : i ∉ threatened s z) :
    decidingZone (s.setZone z r) i = decidingZone s i := by
  refine decidingZone_congr rfl fun y hy => ?_
  have hne : y ≠ z := by
    rintro rfl
    exact hi (mem_zoneList.1 hy).2
  rw [State.setZone_zone_ne s z y r hne]
  exact ⟨rfl, rfl⟩

/-- A zone written consistently, its degraded field kept: all but the deciding zones. -/
theorem zoneOk_setZone {s : State} {z : Nat} {r : Zone} (ht : TablesOk s) (hs : ∀ y < 10, ZoneOk s y)
    (hr : ZoneRecordOk s z r) (hd : r.degraded = (s.zone z).degraded) : ∀ y < 10, ZoneOk (s.setZone z r) y := by
  obtain ⟨-, -, -, -, -, -, hlen, -⟩ := ht
  intro y hy
  obtain ⟨hrec, hdeg⟩ := (zoneOk_iff s y).1 (hs y hy)
  rw [zoneOk_iff, setZone_zone s z y r (by omega), degradedNow_congr rfl fun l _ => rfl]
  split
  · next h => subst h; exact ⟨hr.congr rfl, hd.trans hdeg⟩
  · exact ⟨hrec.congr rfl, hdeg⟩

/-- A zone that keeps state and level leaves the deciding zones as they are. -/
theorem zonesOk_setZone {s : State} {z : Nat} {r : Zone} (ht : TablesOk s) (hs : ZonesOk s)
    (hr : ZoneRecordOk s z r) (hd : r.degraded = (s.zone z).degraded) (hst : r.state = (s.zone z).state)
    (hlv : r.level = (s.zone z).level) : ZonesOk (s.setZone z r) := by
  obtain ⟨hzones, hlines, hshown⟩ := hs
  refine ⟨zoneOk_setZone ht hzones hr hd, hlines, fun i hi => ?_⟩
  rw [setZone_shownZone, hshown i hi]
  refine (decidingZone_congr (s := s) (t := s.setZone z r) rfl fun y hy => ?_).symm
  have hlt := (mem_zoneList.1 hy).1
  rw [setZone_zone s z y r (by have := ht.2.2.2.2.2.2.1; omega)]
  split
  · next h => subst h; exact ⟨hst, hlv⟩
  · exact ⟨rfl, rfl⟩

/-- A zone that enters a state has its deciding zones delivered (R104). -/
theorem zonesOk_redecide {s u : State} {z : Nat} {r : Zone} (ht : TablesOk s) (hs : ZonesOk s)
    (hr : ZoneRecordOk s z r) (hd : r.degraded = (s.zone z).degraded) (hu : u.zones = (s.setZone z r).zones)
    (himg : u.image = s.image) (htu : TablesOk u) : ZonesOk (redecide u z) := by
  obtain ⟨hzones, hlines, hshown⟩ := hs
  have hz := zoneOk_setZone ht hzones hr hd
  have himg' : u.image = (s.setZone z r).image := himg
  refine ⟨fun y hy => ?_, fun l hl => ?_, allShown_redecide htu fun i hi hn => ?_⟩
  · obtain ⟨hrec, hdeg⟩ := (zoneOk_iff _ y).1 (hz y hy)
    rw [zoneOk_iff, redecide_zone, zone_of_zones hu,
      degradedNow_congr (s := s.setZone z r) ((redecide_zones u z).2.2.trans himg')
        fun l _ => by rw [redecide_line, line_of_zones hu]]
    exact ⟨hrec.congr ((redecide_zones u z).2.2.trans himg'), hdeg⟩
  · rw [redecide_line, line_of_zones hu, (redecide_zones u z).2.2, himg]
    exact hlines l hl
  · have hn' : i ∉ threatened s z := by rwa [threatened, himg] at hn
    rw [shownZone_of_zones hu, decidingZone_of_zones hu himg', setZone_shownZone, hshown i hi,
      decidingZone_setZone_ne r hn']

/-- A line's record changes, and the degraded field of its zone is derived again (R93). -/
theorem zonesOk_setLine {s : State} {l : Nat} {r : Line} (ht : TablesOk s) (hs : ZonesOk s)
    (hr : r.ok s.image.debounce) (hst : r.state = (s.line l).state) : ZonesOk (s.setLine l r) := by
  obtain ⟨hzones, hlines, hshown⟩ := hs
  have hlen : s.zones.lines.length = 24 := ht.2.2.2.2.2.2.2.1
  refine ⟨fun z hz => ?_, fun k hk => ?_, fun i hi => hshown i hi⟩
  · obtain ⟨hrec, hdeg⟩ := (zoneOk_iff s z).1 (hzones z hz)
    rw [zoneOk_iff, setLine_zone, degradedNow_congr (s := s) (t := s.setLine l r) rfl]
    · exact ⟨hrec.congr rfl, hdeg⟩
    · intro k hk
      rw [setLine_line s l k r (by have := (mem_lineList.1 hk).1; omega)]
      split
      · next h => subst h; exact hst
      · rfl
  · rw [setLine_line s l k r (by omega)]
    split
    · exact hr
    · exact hlines k hk

theorem deriveDegraded_zone (s : State) (z y : Nat) (hy : y < s.zones.zones.length) :
    (deriveDegraded s z).zone y =
      if y = z then { s.zone z with degraded := degradedNow s z } else s.zone y :=
  setZone_zone s z y _ hy

theorem deriveDegraded_line (s : State) (z l : Nat) : (deriveDegraded s z).line l = s.line l := rfl

/-- Lines of one zone changed, and its degraded field derived again. -/
theorem zonesOk_deriveDegraded {s u : State} {z : Nat} (ht : TablesOk s) (hs : ZonesOk s)
    (hzones : u.zones.zones = s.zones.zones) (hshown : u.zones.shown = s.zones.shown) (himg : u.image = s.image)
    (hother : ∀ l < 24, l ∉ lineList s.image z → u.line l = s.line l)
    (hlines : ∀ l < 24, (u.line l).ok s.image.debounce) : ZonesOk (deriveDegraded u z) := by
  have hlen : u.zones.zones.length = 10 := by rw [hzones]; exact ht.2.2.2.2.2.2.1
  have hzone : ∀ y, u.zone y = s.zone y := fun y => by rw [State.zone, hzones]; rfl
  refine ⟨fun y hy => ?_, fun l hl => ?_, fun i hi => ?_⟩
  · obtain ⟨hrec, hdeg⟩ := (zoneOk_iff s y).1 (hs.1 y hy)
    have hrec' : ZoneRecordOk (deriveDegraded u z) y (s.zone y) := hrec.congr himg
    rw [zoneOk_iff, deriveDegraded_zone u z y (by omega),
      degradedNow_congr (s := u) (t := deriveDegraded u z) rfl fun _ _ => rfl]
    split
    · next h => subst h; rw [hzone]; exact ⟨hrec', rfl⟩
    · next h =>
      rw [hzone]
      refine ⟨hrec', hdeg.trans (degradedNow_congr himg fun l hl => ?_).symm⟩
      obtain ⟨hlt, hzl⟩ := mem_lineList.1 hl
      rw [hother l hlt fun hm => h (by
        have := (mem_lineList.1 hm).2
        rw [hzl] at this
        exact Option.some.inj this)]
  · rw [deriveDegraded_line]
    have himg' : (deriveDegraded u z).image = s.image := himg
    rw [himg']
    exact hlines l hl
  · have hsh : (deriveDegraded u z).shownZone i = s.shownZone i := by
      show u.zones.shown.getD i none = _
      rw [hshown]; rfl
    rw [hsh, hs.2.2 i hi]
    refine (decidingZone_congr (s := s) (t := deriveDegraded u z) himg fun y hy => ?_).symm
    have hlt := (mem_zoneList.1 hy).1
    rw [deriveDegraded_zone u z y (by omega)]
    split
    · next h => subst h; rw [hzone]; exact ⟨rfl, rfl⟩
    · rw [hzone]; exact ⟨rfl, rfl⟩

theorem zonesOk_frame {s t : State} (h : Area.zones.kept s t) (himg : t.image = s.image) (hs : ZonesOk s) :
    ZonesOk t := zonesOk_of_zones h himg hs

theorem zonesOk_leaves {l : List Area} {s t : State} (h : Leaves l s t) (hs : ZonesOk s)
    (hl : Area.zones ∉ l ∧ Area.tables ∉ l := by decide) : ZonesOk t :=
  zonesOk_frame (h.kept .zones hl.1) (h.image hl.2) hs

/-! ## Lines and their zones (R90–R95) -/

theorem line_ok_confirmed (st : LineState) {n : Nat} (h : 1 ≤ n) :
    Line.ok n { state := st, pending := none, confirm := 0 } := by
  simp [Line.ok]; omega

theorem fire_ok {s : State} {z l : Nat} {r : Zone} (h : ZoneRecordOk s z r) (hl : l ∈ lineList s.image z) :
    (fire l r).fired.Nodup ∧ (∀ k ∈ (fire l r).fired, k ∈ lineList s.image z) := by
  obtain ⟨-, -, -, hnd, hmem⟩ := h
  unfold fire
  split
  · exact ⟨hnd, hmem⟩
  · next hn =>
    have hn : l ∉ r.fired := by simpa using hn
    exact ⟨List.nodup_append'.2 ⟨hnd, by simp, by simpa using hn⟩, by
      intro k hk
      rcases List.mem_append.1 hk with hk | hk
      · exact hmem k hk
      · rw [List.mem_singleton.1 hk]; exact hl⟩

theorem fire_fields (l : Nat) (r : Zone) : (fire l r).level = r.level ∧ (fire l r).state = r.state ∧
    (fire l r).permit = r.permit ∧ (fire l r).degraded = r.degraded := by
  unfold fire
  split <;> exact ⟨rfl, rfl, rfl, rfl⟩

/-- A firing line leaves a consistent zone (R94, R95). -/
theorem zonesOk_handToZone {s : State} {z l : Nat} (st : LineState) (ht : TablesOk s) (hz : z < 10)
    (hl : l ∈ lineList s.image z) (hs : ZonesOk s) : ZonesOk (handToZone s z l st) := by
  have hnotice : ∀ u : State, ∀ c a b, ZonesOk u → ZonesOk (zoneNotice u z c a b) := fun u _ _ _ hu =>
    zonesOk_leaves (leaves_zoneNotice u z _ _ _) hu
  obtain ⟨hrec, hdeg⟩ := (zoneOk_iff s z).1 (hs.1 z hz)
  obtain ⟨hnd, hmem⟩ := fire_ok hrec hl
  obtain ⟨hlevel, hstate, hpermit, hdegraded⟩ := fire_fields l (s.zone z)
  obtain ⟨h1, h2, h3, -⟩ := hrec
  have hjoin : ∀ st, (s.zone z).state = st → st ≠ .quiet → st ≠ .watch →
      ZonesOk (s.setZone z (fire l (s.zone z))) := fun st hst hq hw => by
    refine zonesOk_setZone ht hs ⟨by rwa [hlevel], by rwa [hpermit, hstate], fun hqw => ?_, hnd, hmem⟩
      hdegraded hstate hlevel
    rw [hstate, hst] at hqw
    exact absurd hqw (by simp [hq, hw])
  have htrip : (s.zone z).state = .quiet ∨ (s.zone z).state = .watch → ZonesOk (tripZone s z l st) := by
    intro hqw
    have hnone : (s.zone z).permit = none := by
      cases hp : (s.zone z).permit with
      | none => rfl
      | some m =>
        have := h2.1 (by simp [hp])
        rcases hqw with h | h <;> rw [h] at this <;> cases this
    exact hnotice _ _ _ _ (zonesOk_redecide (r := { fire l (s.zone z) with state := .tripped }) ht hs
      ⟨hlevel ▸ h1, by simp [hpermit, hnone], by simp, hnd, hmem⟩ hdegraded rfl rfl
      (((leaves_setZone s z _).mono.andThen (leaves_deliver _ _) (l' := zoneAreas)).tablesOk ht))
  unfold handToZone
  split
  · split
    · next hst => exact htrip (.inl hst)
    · next hst => exact htrip (.inr hst)
    · next hst => exact hnotice _ _ _ _ (hjoin _ hst (by simp) (by simp))
    · next hst => exact hnotice _ _ _ _ (hjoin _ hst (by simp) (by simp))
    · exact hnotice _ _ _ _ hs
  · exact hnotice _ _ _ _ hs

theorem zonesOk_lineEnters {s : State} {l : Nat} (st : LineState) (ht : TablesOk s) (hl : l < 24)
    (hs : ZonesOk s) : ZonesOk (lineEnters s l st) := by
  have hdb := imageAccepted_debounce ht.1
  have hlen : s.zones.lines.length = 24 := ht.2.2.2.2.2.2.2.1
  have hlines : ∀ k < 24, ((s.setLine l { state := st, pending := none, confirm := 0 }).line k).ok
      s.image.debounce := fun k hk => by
    rw [setLine_line s l k _ (by omega)]
    split
    · exact line_ok_confirmed st hdb
    · exact hs.2.1 k hk
  unfold lineEnters
  dsimp only
  split
  · next hnone =>
    refine ⟨fun z hz => ?_, hlines, hs.2.2⟩
    obtain ⟨hrec, hdeg⟩ := (zoneOk_iff s z).1 (hs.1 z hz)
    refine (zoneOk_iff _ z).2 ⟨hrec.congr rfl, hdeg.trans (degradedNow_congr (s := s)
      (t := s.setLine l { state := st, pending := none, confirm := 0 }) rfl fun k hk => ?_).symm⟩
    obtain ⟨-, hzk⟩ := mem_lineList.1 hk
    have hne : k ≠ l := by
      rintro rfl
      rw [hnone] at hzk
      cases hzk
    rw [State.setLine_line_ne s l k _ hne]
  · next z hzone =>
    have hmem : l ∈ lineList s.image z := mem_lineList.2 ⟨hl, hzone⟩
    have hok : ZonesOk (deriveDegraded (s.setLine l { state := st, pending := none, confirm := 0 }) z) :=
      zonesOk_deriveDegraded ht hs rfl rfl rfl
        (fun k _ hk => State.setLine_line_ne s l k _ fun h => hk (h ▸ hmem)) hlines
    exact zonesOk_handToZone st
      (((leaves_setLine s l _).andThen (leaves_setZone _ z _) (l' := [.zones])).tablesOk ht)
      (imageLine_zone ht.1 hzone) hmem hok

theorem zonesOk_lineReport {s : State} {l : Nat} (c : Condition) (ht : TablesOk s) (hl : l < 24)
    (hs : ZonesOk s) : ZonesOk (lineReport s l c) := by
  have hdb := imageAccepted_debounce ht.1
  unfold lineReport
  dsimp only
  split
  · have hpos : (if (s.line l).pending = some c then (s.line l).confirm + 1 else 1) ≠ 0 := by split <;> omega
    generalize (if (s.line l).pending = some c then (s.line l).confirm + 1 else 1) = n at hpos ⊢
    split
    · exact zonesOk_lineEnters _ ht hl hs
    · next hn => exact zonesOk_setLine ht hs ⟨by simp [hpos], by simpa using hn⟩ rfl
  · exact zonesOk_setLine ht hs ⟨by simp, by dsimp only; omega⟩ rfl

/-- Zones consistent in a state whose tables stand. -/
def ZonesSound (s : State) : Prop := TablesOk s ∧ ZonesOk s

theorem zonesSound_foldl {f : State → Nat → State} (hf : ∀ s l, l < 24 → ZonesSound s → ZonesSound (f s l))
    {ls : List Nat} (hls : ∀ l ∈ ls, l < 24) {s : State} (hs : ZonesSound s) : ZonesSound (ls.foldl f s) := by
  induction ls generalizing s with
  | nil => exact hs
  | cons l ls ih => exact ih (fun k hk => hls k (List.mem_cons_of_mem _ hk)) (hf s l (hls l (by simp)) hs)

theorem zonesSound_gathered (s : State) {t : State} (h : ZonesSound t) : ZonesSound (s.gathered t) := h

theorem zonesSound_stationReport {s : State} (x : Nat) (r : TripReport) (hs : ZonesSound s) :
    ZonesSound (stationReport s x r) :=
  zonesSound_gathered s (zonesSound_foldl (fun u _ hl hu =>
    ⟨(leaves_lineReport u _ _).tablesOk hu.1, zonesOk_lineReport _ hu.1 hl hu.2⟩)
    (fun l hl => (mem_stationLines.1 hl).1) hs)

theorem zonesSound_lineLost {s : State} {l : Nat} (hl : l < 24) (hs : ZonesSound s) : ZonesSound (lineLost s l) := by
  unfold lineLost
  split
  · exact hs
  · exact ⟨(leaves_lineEnters s l _).tablesOk hs.1, zonesOk_lineEnters _ hs.1 hl hs.2⟩

theorem zonesSound_tripLost {s : State} (x : Nat) (hs : ZonesSound s) : ZonesSound (tripLost s x) :=
  zonesSound_gathered s (zonesSound_foldl (fun _ _ => zonesSound_lineLost)
    (fun l hl => (mem_stationLines.1 hl).1) hs)

theorem zonesSound_leaves {l : List Area} {s t : State} (h : Leaves l s t) (hs : ZonesSound s)
    (hl : Area.zones ∉ l ∧ Area.tables ∉ l := by decide) : ZonesSound t :=
  ⟨h.tablesOk hs.1 hl.2, zonesOk_leaves h hs.2 hl⟩

theorem zonesSound_keptByOwners (x : Nat) : KeptByOwners ZonesSound [.zones, .tables] x where
  areas := by decide
  frame := fun s t h himg hs => by
    refine ⟨?_, zonesOk_frame (h .zones (by simp)) himg hs.2⟩
    obtain ⟨-, hsizes⟩ : t.image = s.image ∧ tableSizes t = tableSizes s := h .tables (by simp)
    rw [tablesOk_iff, himg, hsizes]
    exact (tablesOk_iff s).1 hs.1
  left := fun s => zonesSound_leaves (leaves_placementLeft s x)
  entered := fun s => zonesSound_leaves (leaves_placementEntered s x)
  recorded := fun s g r => zonesSound_leaves (leaves_gateRecorded s g r)
  lost := fun s g => zonesSound_leaves (leaves_gateLost s g)
  report := fun _ r => zonesSound_stationReport x r
  tripLost := fun _ => zonesSound_tripLost x

/-! ## The zone commands (R96–R102) -/

theorem stateOfLevel_cases (s : State) (v : Nat) : stateOfLevel s v = .quiet ∨ stateOfLevel s v = .watch := by
  unfold stateOfLevel
  split
  · exact .inr rfl
  · exact .inl rfl

theorem ZoneRecordOk.no_permit {s : State} {z : Nat} {r : Zone} (h : ZoneRecordOk s z r) (hst : r.state ≠ .work) :
    r.permit = none := by
  cases hp : r.permit with
  | none => rfl
  | some m => exact absurd (h.2.1.1 (by simp [hp])) hst

theorem levelled_ok {s : State} {z v : Nat} {r : Zone} (h : ZoneRecordOk s z r) (hv : v ≤ 5) :
    ZoneRecordOk s z (levelled s r v) := by
  obtain ⟨-, hpermit, hquiet, hnd, hmem⟩ := id h
  have hlevelled : r.state = .quiet ∨ r.state = .watch →
      ZoneRecordOk s z { r with level := v, state := stateOfLevel s v } := fun hqw => by
    have hnone := h.no_permit (by rcases hqw with h | h <;> simp [h])
    refine ⟨hv, ?_, fun _ => ⟨rfl, (hquiet hqw).2⟩, hnd, hmem⟩
    rcases stateOfLevel_cases s v with hst | hst <;> simp [hnone, hst]
  unfold levelled
  split
  · next hst => exact hlevelled (.inl hst)
  · next hst => exact hlevelled (.inr hst)
  all_goals
    next hst => exact ⟨hv, hpermit, fun hqw => by simp [hst] at hqw, hnd, hmem⟩

theorem levelled_degraded (s : State) (r : Zone) (v : Nat) : (levelled s r v).degraded = r.degraded := by
  unfold levelled
  split <;> rfl

theorem zonesOk_zoneEnters {s : State} {z : Nat} {r : Zone} (hs : ZonesSound s) (hr : ZoneRecordOk s z r)
    (hd : r.degraded = (s.zone z).degraded) : ZonesOk (zoneEnters s z r) :=
  zonesOk_redecide hs.1 hs.2 hr hd rfl rfl ((leaves_setZone s z r).tablesOk hs.1)

theorem zonesOk_zoneNotice {s : State} (z : Nat) (cause : ZoneCause) (l : Option (Nat × LineState))
    (b : Option Nat) (hs : ZonesOk s) : ZonesOk (zoneNotice s z cause l b) := hs

theorem zonesOk_runSetLevel {s : State} (p : Nat) {a : Nat × Nat} (hz : a.1 < 10) (hv : a.2 ≤ 5)
    (hs : ZonesSound s) : ZonesOk (runSetLevel s p a).state := by
  obtain ⟨hrec, -⟩ := (zoneOk_iff s a.1).1 (hs.2.1 a.1 hz)
  have hent := zonesOk_zoneEnters hs (levelled_ok hrec hv) (levelled_degraded s _ a.2)
  unfold runSetLevel
  dsimp only
  split
  · exact hs.2
  · refine zonesOk_zoneNotice _ _ _ _ ?_
    split
    · exact hent
    · exact zonesOk_of_zones rfl rfl hent

theorem zonesOk_runBeginSweep {s : State} (p : Nat) {z : Nat} (hz : z < 10) (hs : ZonesSound s) :
    ZonesOk (runBeginSweep s p z).state := by
  obtain ⟨hrec, -⟩ := (zoneOk_iff s z).1 (hs.2.1 z hz)
  unfold runBeginSweep
  split
  · next hst =>
    have hst : (s.zone z).state = .tripped := by simpa using hst
    have hnone := hrec.no_permit (by simp [hst])
    obtain ⟨hlv, -, -, hnd, hmem⟩ := hrec
    exact zonesOk_zoneNotice _ _ _ _ (zonesOk_redecide (r := { s.zone z with state := .sweep }) hs.1 hs.2
      ⟨hlv, by simp [hnone], by simp, hnd, hmem⟩ rfl rfl rfl
      (((leaves_setZone s z _).mono.andThen (leaves_deliver _ _) (l' := zoneAreas)).tablesOk hs.1))
  · exact hs.2

/-- The lines bypassed, every other record as it was. -/
theorem foldl_bypass (ls : List Nat) (s : State) (hls : ∀ l ∈ ls, l < s.zones.lines.length) :
    (ls.foldl bypass s).zones.zones = s.zones.zones ∧ (ls.foldl bypass s).zones.shown = s.zones.shown ∧
    (ls.foldl bypass s).image = s.image ∧ ∀ k, (ls.foldl bypass s).line k =
      if k ∈ ls then { state := .bypassed, pending := none, confirm := 0 } else s.line k := by
  induction ls generalizing s with
  | nil => simp
  | cons l ls ih =>
    obtain ⟨h1, h2, h3, h4⟩ := ih (bypass s l) fun k hk => by
      simpa [bypass] using hls k (List.mem_cons_of_mem _ hk)
    refine ⟨h1, h2, h3, fun k => ?_⟩
    rw [List.foldl_cons, h4 k]
    by_cases hk : k ∈ ls
    · simp [hk]
    · by_cases hkl : k = l
      · subst hkl
        simp [hk, bypass, State.setLine_line_self s k _ (hls k (by simp))]
      · simp [hk, hkl, bypass, State.setLine_line_ne s l k _ hkl]

theorem zones_foldl_zoneNotice (ls : List Nat) (t : State) (z : Nat) (st : LineState) :
    (ls.foldl (fun t l => zoneNotice t z .line (some (l, st)) none) t).zones = t.zones := by
  induction ls generalizing t with
  | nil => rfl
  | cons l ls ih => exact ih _

theorem badLines_subset {s : State} {z l : Nat} (h : l ∈ badLines s z) : l ∈ lineList s.image z :=
  (List.mem_filter.1 h).1

theorem zonesOk_clearZone {s : State} {z : Nat} (hz : z < 10) (hst : (s.zone z).state = .sweep)
    (hs : ZonesSound s) : ZonesOk (clearZone s z (badLines s z)) := by
  obtain ⟨ht, hok⟩ := hs
  have hlen : s.zones.lines.length = 24 := ht.2.2.2.2.2.2.2.1
  have hlt : ∀ l ∈ badLines s z, l < 24 := fun l hl => (mem_lineList.1 (badLines_subset hl)).1
  obtain ⟨h1, h2, h3, h4⟩ := foldl_bypass (badLines s z) s fun l hl => by rw [hlen]; exact hlt l hl
  have hderived : ZonesOk (deriveDegraded ((badLines s z).foldl bypass s) z) := by
    refine zonesOk_deriveDegraded ht hok h1 h2 h3 (fun l _ hn => ?_) fun l hl => ?_
    · rw [h4 l, if_neg fun hm => hn (badLines_subset hm)]
    · rw [h4 l]
      split
      · exact line_ok_confirmed _ (imageAccepted_debounce ht.1)
      · exact hok.2.1 l hl
  have htd : TablesOk (deriveDegraded ((badLines s z).foldl bypass s) z) :=
    ((leaves_foldl bypass (fun u l => leaves_setLine u l _) (badLines s z) s).andThen
      (leaves_setZone _ z _) (l' := [.zones])).tablesOk ht
  obtain ⟨hrec, -⟩ := (zoneOk_iff _ z).1 (hderived.1 z hz)
  have hstate : ((deriveDegraded ((badLines s z).foldl bypass s) z).zone z).state = .sweep := by
    have hlenz : z < ((badLines s z).foldl bypass s).zones.zones.length := by
      rw [h1, ht.2.2.2.2.2.2.1]; exact hz
    rw [deriveDegraded_zone _ z z hlenz, if_pos rfl]
    show (((badLines s z).foldl bypass s).zone z).state = .sweep
    rw [State.zone, h1]
    exact hst
  have hnone := hrec.no_permit (by simp [hstate])
  obtain ⟨hlv, -, -, -, -⟩ := hrec
  unfold clearZone
  dsimp only
  refine zonesOk_of_zones (zones_foldl_zoneNotice _ _ z _)
    ((leaves_foldl _ (fun u l => leaves_zoneNotice u z _ _ _) _ _).image (l := [.notices])) ?_
  refine zonesOk_zoneNotice _ _ _ _ (zonesOk_redecide (s := deriveDegraded ((badLines s z).foldl bypass s) z)
    (r := { (deriveDegraded ((badLines s z).foldl bypass s) z).zone z with
      fired := [],
      state := stateOfLevel s ((deriveDegraded ((badLines s z).foldl bypass s) z).zone z).level }) htd hderived
    ⟨hlv, ?_, fun _ => ⟨(stateOfLevel_congr (s := s) h3 _).symm, rfl⟩, by simp, by simp⟩ rfl rfl rfl
    (((leaves_setZone _ z _).mono.andThen (leaves_deliver _ _) (l' := zoneAreas)).tablesOk htd))
  rcases stateOfLevel_cases s ((deriveDegraded ((badLines s z).foldl bypass s) z).zone z).level with h | h <;>
    simp [hnone, h]

theorem zonesOk_runZoneClear {s : State} (p : Nat) {a : Nat × Bool} (hz : a.1 < 10) (hs : ZonesSound s) :
    ZonesOk (runZoneClear s p a).state := by
  unfold runZoneClear
  split
  · exact hs.2
  · next hst =>
    split
    · exact hs.2
    · exact zonesOk_clearZone hz (by simpa using hst) hs

theorem zonesOk_grantPermit {s : State} {z : Nat} (minutes : Nat) (hz : z < 10)
    (hs : ZonesSound s) : ZonesOk (grantPermit s z minutes) := by
  obtain ⟨hrec, -⟩ := (zoneOk_iff s z).1 (hs.2.1 z hz)
  obtain ⟨hlv, -, -, hnd, hmem⟩ := hrec
  have hr : ZoneRecordOk s z { s.zone z with state := .work, permit := some (60 * minutes) } :=
    ⟨hlv, by simp, by simp, hnd, hmem⟩
  unfold grantPermit
  dsimp only
  split
  · next hw =>
    have hw : (s.zone z).state = .work := by simpa using hw
    exact zonesOk_zoneNotice _ _ _ _ (zonesOk_setZone hs.1 hs.2 hr rfl hw.symm rfl)
  · have hleaves := leaves_foldl lockIfFree leaves_lockIfFree (threatened s z) s
    have hsound := zonesSound_leaves hleaves hs
    have himg := hleaves.image
    have hzone : ((threatened s z).foldl lockIfFree s).zone z = s.zone z :=
      zone_of_zones (hleaves.kept .zones (by decide)) z
    exact zonesOk_zoneNotice _ _ _ _ (zonesOk_zoneEnters hsound (hr.congr himg) (by rw [hzone]))

theorem zonesOk_runPermitRequest {s : State} (p : Nat) {a : Nat × Nat} (hz : a.1 < 10) (hs : ZonesSound s) :
    ZonesOk (runPermitRequest s p a).state := by
  unfold runPermitRequest
  split
  · exact hs.2
  · split
    · exact hs.2
    · exact zonesOk_grantPermit _ hz hs

theorem zonesOk_endPermit {s : State} {z : Nat} (cause : ZoneCause) (hz : z < 10) (hs : ZonesSound s) :
    ZonesOk (endPermit s z cause) := by
  obtain ⟨hrec, -⟩ := (zoneOk_iff s z).1 (hs.2.1 z hz)
  obtain ⟨hlv, -, -, hnd, hmem⟩ := hrec
  exact zonesOk_zoneNotice _ _ _ _ (zonesOk_zoneEnters hs ⟨hlv, by simp, by simp, hnd, hmem⟩ rfl)

theorem zonesOk_runPermitEnd {s : State} (p : Nat) {z : Nat} (hz : z < 10) (hs : ZonesSound s) :
    ZonesOk (runPermitEnd s p z).state := by
  unfold runPermitEnd
  split
  · exact zonesOk_endPermit _ hz hs
  · exact hs.2

end Sys2Proof.Machine

/-! PROOF. Every step keeps the zones and lines consistent, and a zone in WORK keeps its segments shut (R87–R104). -/

namespace Sys2Proof.Machine

set_option Elab.async false

open Sys2Proof

/-! ## Arguments that name zones -/

theorem argsIndex_ok {ok : Nat → Bool} {l : List Byte} {a : Nat} (h : argsIndex ok l = some a) : ok a = true := by
  unfold argsIndex at h
  split at h
  · split at h
    · next ho => cases h; exact ho
    · cases h
  · cases h

theorem argsLevel_ok {l : List Byte} {a : Nat × Nat} (h : argsLevel l = some a) : a.1 < 10 ∧ a.2 ≤ 5 := by
  unfold argsLevel at h
  split at h
  · split at h
    · next ho => cases h; exact ⟨by simpa [zoneOk] using ho, Nat.min_le_right _ _⟩
    · cases h
  · cases h

theorem argsZoneClear_ok {l : List Byte} {a : Nat × Bool} (h : argsZoneClear l = some a) : a.1 < 10 := by
  unfold argsZoneClear at h
  split at h
  · split at h
    · next ho =>
      obtain ⟨b, -, rfl⟩ := Option.map_eq_some_iff.1 h
      simpa [zoneOk] using ho
    · cases h
  · cases h

theorem argsPermit_ok {l : List Byte} {a : Nat × Nat} (h : argsPermit l = some a) : a.1 < 10 := by
  unfold argsPermit at h
  split at h
  · split at h
    · next ho =>
      cases h
      simp only [Bool.and_eq_true] at ho
      simpa [zoneOk] using ho.1
    · cases h
  · cases h

/-! ## Every command -/

theorem secondBoundary_zone (s : State) (z : Nat) :
    (secondBoundary s).zone z = { s.zone z with permit := tick (s.zone z).permit } :=
  getD_map_default _ _ _ _ _ rfl

theorem secondBoundary_zonesOk {s : State} (hs : ZonesOk s) : ZonesOk (secondBoundary s) := by
  obtain ⟨hzones, hlines, hshown⟩ := hs
  refine ⟨fun z hz => ?_, hlines, fun i hi => ?_⟩
  · obtain ⟨⟨hlv, hpermit, hrest⟩, hdeg⟩ := (zoneOk_iff s z).1 (hzones z hz)
    rw [zoneOk_iff, secondBoundary_zone]
    exact ⟨⟨hlv, by rwa [isSome_tick], hrest⟩, hdeg⟩
  · refine (hshown i hi).trans (decidingZone_congr (s := s) (t := secondBoundary s) rfl fun z _ => ?_).symm
    rw [secondBoundary_zone]
    exact ⟨rfl, rfl⟩

theorem zone_event_ok {c : Instr} {s t : State} (hs : ZonesSound s)
    (hl : Area.zones ∈ eventAreas c) (h : exec c s = .next t) : ZonesOk t := by
  cases c
  case secondBoundary => cases h; exact secondBoundary_zonesOk hs.2
  case tripReport x r | tripStationReturn x r =>
    obtain ⟨-, rfl⟩ := onObject_next h
    exact (zonesSound_stationReport (s := s.taking _) x r hs).2
  case tripStationLost x =>
    obtain ⟨-, rfl⟩ := onObject_next h
    exact (zonesSound_tripLost (s := s.taking _) x hs).2
  case permitExpiry z =>
    obtain ⟨hz, rfl⟩ := onObject_next h
    split
    · exact zonesOk_endPermit _ (by simpa [zoneOk] using hz) hs
    · exact hs.2
  case attentionButton x =>
    obtain ⟨-, rfl⟩ := onObject_next h
    exact ((zonesSound_keptByOwners x).press s hs).2
  all_goals simp [eventAreas, segAreas, gateAreas, weatherAreas, signAreas, stackAreas, stationAreas,
    answerAreas] at hl

theorem run_zonesOk {k : CmdKind} {s : State} {p : Nat} {x : (commandOf k).1} {body : List Byte}
    (hk : Area.zones ∈ kindAreas k) (htk : Taken (commandOf k).2 s p x body) (hs : ZonesSound (popFrame s p)) :
    ZonesOk ((commandOf k).2.run (popFrame s p) p x).state := by
  have hargs := checkedArgs_parse htk.args
  cases k with
  | setLevel =>
    obtain ⟨hz, hv⟩ := argsLevel_ok hargs
    exact zonesOk_runSetLevel p hz hv hs
  | beginSweep => exact zonesOk_runBeginSweep p (by simpa [zoneOk] using argsIndex_ok hargs) hs
  | zoneClear => exact zonesOk_runZoneClear p (argsZoneClear_ok hargs) hs
  | permitRequest => exact zonesOk_runPermitRequest p (argsPermit_ok hargs) hs
  | permitEnd => exact zonesOk_runPermitEnd p (by simpa [zoneOk] using argsIndex_ok hargs) hs
  | stationOff => exact ((zonesSound_keptByOwners x).stationOff _ p hs).2
  | _ => exact absurd hk (by decide)

theorem exec_zonesOk {c : Instr} {s t : State} (hc : c ≠ .startUp) (ht : TablesOk s)
    (hs : ZonesOk s) (h : exec c s = .next t) : ZonesOk t :=
  exec_keeps [.zones] (fun _ _ hk himg => zonesOk_frame (hk .zones (by simp)) himg)
    (fun _ _ _ _ _ hk htk ht hs => run_zonesOk (by simpa using hk) htk ⟨ht, hs⟩)
    (fun _ _ _ _ _ hk ht hs h => zone_event_ok ⟨ht, hs⟩ (by simpa using hk) h) hc ht hs h

/-! ## START_UP -/

theorem boot_zone {z : Nat} (hz : z < 10) (l : Loader) (key : Bool) (contacts : List Bool)
    (pending : List Instr) : (boot l key contacts pending).zone z = startZone l.image z := by
  show ((List.range 10).map (startZone l.image)).getD z default = _
  simp [List.getD, hz]

theorem boot_line {k : Nat} (hk : k < 24) (l : Loader) (key : Bool) (contacts : List Bool)
    (pending : List Instr) : (boot l key contacts pending).line k = Line.reset := by
  show (List.replicate 24 Line.reset).getD k default = _
  rw [List.getD_replicate _ hk]

theorem boot_shownZone {i : Nat} (hi : i < 12) (l : Loader) (key : Bool) (contacts : List Bool)
    (pending : List Instr) : (boot l key contacts pending).shownZone i = none := by
  show (List.replicate 12 none).getD i none = _
  rw [List.getD_replicate _ hi]

/-- Where every zone is QUIET none decides. -/
theorem decidingZone_of_quiet {s : State} {i : Nat} (h : ∀ z ∈ zoneList s.image i, (s.zone z).state = .quiet) :
    decidingZone s i = none := by
  unfold decidingZone
  suffices hgen : ∀ (l : List Nat), (∀ z ∈ l, (s.zone z).state = .quiet) →
      l.foldl (fun best z =>
        let here : Deciding := { zone := z, state := (s.zone z).state, level := (s.zone z).level }
        if here.state == .quiet then best
        else match best with
          | none => some here
          | some b => some (moreUrgent b here)) none = none from hgen _ h
  intro l hl
  induction l with
  | nil => rfl
  | cons z l ih =>
    rw [List.foldl_cons]
    simp only [hl z (by simp), beq_self_eq_true, if_true]
    exact ih fun y hy => hl y (List.mem_cons_of_mem _ hy)

theorem startUp_zonesOk {s t : State} (h : exec .startUp s = .next t) : ZonesOk t := by
  have hacc : imageAccepted (reload s.loader).image = true := loadImage_accepted ..
  rw [exec_startUp] at h
  cases h
  generalize s.auth.keyLine = key, s.field.stations.map (·.contactClosed) = contacts, s.pending = pending
  have himg : (boot (reload s.loader) key contacts pending).image = (reload s.loader).image := rfl
  have hquiet : ∀ z < 10, ((boot (reload s.loader) key contacts pending).zone z).state = .quiet := fun z hz => by
    rw [boot_zone hz]; rfl
  refine ⟨fun z hz => ?_, fun l hl => ?_, fun i hi => ?_⟩
  · have hw := imageAccepted_watch hacc
    rw [zoneOk_iff, boot_zone hz]
    refine ⟨⟨by simp [startZone], by simp [startZone], fun _ => ⟨?_, rfl⟩, by simp [startZone],
      by simp [startZone]⟩, ?_⟩
    · rw [stateOfLevel, himg, if_neg (by simp [startZone]; omega)]
      rfl
    · rw [degradedNow, himg, Bool.eq_iff_iff]
      simp only [startZone, List.any_eq_true, Bool.not_eq_true', List.isEmpty_eq_false_iff_exists_mem]
      refine exists_congr fun l => (and_iff_left_of_imp fun hl => ?_).symm
      rw [boot_line (mem_lineList.1 hl).1]
      rfl
  · rw [boot_line hl, himg]
    exact line_ok_confirmed _ (imageAccepted_debounce hacc)
  · rw [boot_shownZone hi, decidingZone_of_quiet fun z hz => hquiet z (mem_zoneList.1 hz).1]

/-! ## WORK and its segments (R100) -/

/-- No zone enters WORK. -/
def NoNewWork (s t : State) : Prop := ∀ z, (t.zone z).state = .work → (s.zone z).state = .work

theorem NoNewWork.trans {s t u : State} (h : NoNewWork s t) (k : NoNewWork t u) : NoNewWork s u :=
  fun z hz => h z (k z hz)

theorem noNewWork_of_zones {s t : State} (h : t.zones.zones = s.zones.zones) : NoNewWork s t := fun z hz => by
  rw [State.zone, h] at hz
  exact hz

theorem noNewWork_leaves {l : List Area} {s t : State} (h : Leaves l s t)
    (hl : Area.zones ∉ l := by decide) : NoNewWork s t :=
  noNewWork_of_zones (congrArg ZoneUnit.zones (h.kept .zones hl))

theorem noNewWork_setZone {s : State} {z : Nat} {r : Zone}
    (h : r.state = .work → (s.zone z).state = .work) : NoNewWork s (s.setZone z r) := by
  intro y hy
  by_cases hyz : y = z
  · subst hyz
    by_cases hlt : y < s.zones.zones.length
    · rw [State.setZone_zone_self s y r hlt] at hy
      exact h hy
    · have hsame : (s.setZone y r).zone y = s.zone y := by
        simp [State.zone, List.set_eq_of_length_le (Nat.not_lt.1 hlt)]
      rwa [hsame] at hy
  · rwa [State.setZone_zone_ne s z y r hyz] at hy

theorem noNewWork_redecide (s : State) (z : Nat) : NoNewWork s (redecide s z) :=
  noNewWork_of_zones (redecide_zones s z).1

theorem noNewWork_zoneEnters {s : State} {z : Nat} {r : Zone}
    (h : r.state = .work → (s.zone z).state = .work) : NoNewWork s (zoneEnters s z r) :=
  (noNewWork_setZone h).trans (noNewWork_redecide _ z)

theorem noNewWork_handToZone (s : State) (z l : Nat) (st : LineState) :
    NoNewWork s (handToZone s z l st) := by
  have htrip : NoNewWork s (tripZone s z l st) := by
    have hset : NoNewWork s ((s.setZone z { fire l (s.zone z) with state := .tripped }).deliver
        ((threatened s z).map fun i => Instr.detectorEvent i z)) :=
      noNewWork_setZone (r := { fire l (s.zone z) with state := .tripped }) (by simp)
    exact hset.trans (noNewWork_redecide _ z)
  have hfire : NoNewWork s (s.setZone z (fire l (s.zone z))) :=
    noNewWork_setZone (by rw [(fire_fields l (s.zone z)).2.1]; exact id)
  unfold handToZone
  split
  · split
    · exact htrip
    · exact htrip
    · exact hfire
    · exact hfire
    · exact noNewWork_of_zones rfl
  · exact noNewWork_of_zones rfl

theorem noNewWork_lineEnters (s : State) (l : Nat) (st : LineState) : NoNewWork s (lineEnters s l st) := by
  unfold lineEnters
  dsimp only
  split
  · exact noNewWork_of_zones rfl
  · next z _ =>
    have hset : NoNewWork s (deriveDegraded (s.setLine l { state := st, pending := none, confirm := 0 }) z) :=
      noNewWork_setZone (s := s.setLine l { state := st, pending := none, confirm := 0 }) id
    exact hset.trans (noNewWork_handToZone _ z l st)

theorem noNewWork_foldl {f : State → Nat → State} (hf : ∀ u l, NoNewWork u (f u l)) (ls : List Nat) (s : State) :
    NoNewWork s (ls.foldl f s) := by
  induction ls generalizing s with
  | nil => exact fun _ => id
  | cons l ls ih => exact (hf s l).trans (ih _)

theorem noNewWork_stationReport (s : State) (x : Nat) (r : TripReport) : NoNewWork s (stationReport s x r) := by
  refine (noNewWork_foldl (f := fun t l => lineReport t l (conditionAt r (inputOf s l))) (fun u l => ?_)
    (stationLines s.image x) s).trans (noNewWork_of_zones rfl)
  unfold lineReport
  dsimp only
  split
  · generalize (if (u.line l).pending = some _ then (u.line l).confirm + 1 else 1) = n
    split
    · exact noNewWork_lineEnters _ _ _
    · exact noNewWork_of_zones rfl
  · exact noNewWork_of_zones rfl

theorem noNewWork_tripLost (s : State) (x : Nat) : NoNewWork s (tripLost s x) := by
  refine (noNewWork_foldl (f := lineLost) (fun u l => ?_) (stationLines s.image x) s).trans
    (noNewWork_of_zones rfl)
  unfold lineLost
  split
  · exact fun _ => id
  · exact noNewWork_lineEnters _ _ _

theorem noNewWork_keptByOwners (s : State) (x : Nat) : KeptByOwners (NoNewWork s) [.zones] x where
  areas := by decide
  frame := fun _ _ h _ hs => hs.trans (noNewWork_of_zones (congrArg ZoneUnit.zones (h .zones (by simp))))
  left := fun u h => h.trans (noNewWork_leaves (leaves_placementLeft u x))
  entered := fun u h => h.trans (noNewWork_leaves (leaves_placementEntered u x))
  recorded := fun u g r h => h.trans (noNewWork_leaves (leaves_gateRecorded u g r))
  lost := fun u g h => h.trans (noNewWork_leaves (leaves_gateLost u g))
  report := fun u r h => h.trans (noNewWork_stationReport u x r)
  tripLost := fun u h => h.trans (noNewWork_tripLost u x)

theorem noNewWork_runSetLevel (s : State) (p : Nat) (a : Nat × Nat) : NoNewWork s (runSetLevel s p a).state := by
  have hent : NoNewWork s (zoneEnters s a.1 (levelled s (s.zone a.1) a.2)) := by
    refine noNewWork_zoneEnters fun h => ?_
    unfold levelled at h
    split at h
    · rcases stateOfLevel_cases s a.2 with h' | h' <;> simp [h'] at h
    · rcases stateOfLevel_cases s a.2 with h' | h' <;> simp [h'] at h
    all_goals exact h
  unfold runSetLevel
  dsimp only
  split
  · exact fun _ => id
  · split
    · exact hent
    · exact hent

theorem noNewWork_runBeginSweep (s : State) (p z : Nat) : NoNewWork s (runBeginSweep s p z).state := by
  unfold runBeginSweep
  split
  · have hset : NoNewWork s ((s.setZone z { s.zone z with state := .sweep }).deliver (lockDeliveries s z)) :=
      noNewWork_setZone (r := { s.zone z with state := .sweep }) (by simp)
    exact hset.trans (noNewWork_redecide _ z)
  · exact fun _ => id

theorem noNewWork_clearZone (s : State) (z : Nat) (ls : List Nat) : NoNewWork s (clearZone s z ls) := by
  have hbypass : NoNewWork s (deriveDegraded (ls.foldl bypass s) z) :=
    (noNewWork_foldl (fun u l => noNewWork_of_zones (t := bypass u l) rfl) ls s).trans (noNewWork_setZone id)
  unfold clearZone
  dsimp only
  refine NoNewWork.trans ?_ (noNewWork_leaves (leaves_foldl _ (fun u l => leaves_zoneNotice u z _ _ _) _ _)
    (l := [.notices]))
  refine hbypass.trans (NoNewWork.trans ?_ (noNewWork_redecide _ z))
  refine noNewWork_setZone (s := deriveDegraded (ls.foldl bypass s) z) fun h => ?_
  rcases stateOfLevel_cases s ((deriveDegraded (ls.foldl bypass s) z).zone z).level with h' | h' <;>
    simp [h'] at h

theorem noNewWork_endPermit (s : State) (z : Nat) (cause : ZoneCause) : NoNewWork s (endPermit s z cause) :=
  noNewWork_zoneEnters (r := { s.zone z with state := .sweep, permit := none }) (by simp)

/-- Only a granted permit takes a zone to WORK (R100). -/
theorem run_noNewWork {k : CmdKind} {s : State} {p : Nat} (x : (commandOf k).1) (hk : k ≠ .permitRequest) :
    NoNewWork s ((commandOf k).2.run s p x).state := by
  by_cases hl : Area.zones ∈ kindAreas k
  · cases k with
    | setLevel => exact noNewWork_runSetLevel s p x
    | beginSweep => exact noNewWork_runBeginSweep s p x
    | zoneClear =>
      show NoNewWork s (runZoneClear s p x).state
      unfold runZoneClear
      split
      · exact fun _ => id
      · split
        · exact fun _ => id
        · exact noNewWork_clearZone _ _ _
    | permitRequest => exact absurd rfl hk
    | permitEnd =>
      show NoNewWork s (runPermitEnd s p x).state
      unfold runPermitEnd
      split
      · exact noNewWork_endPermit _ _ _
      · exact fun _ => id
    | stationOff => exact (noNewWork_keptByOwners s x).stationOff s p fun _ => id
    | _ => exact absurd hl (by decide)
  · exact noNewWork_leaves (leaves_run k s p x) hl

theorem event_noNewWork {c : Instr} {s t : State} (hc : c ≠ .startUp) (ha : agentCommand c = none)
    (h : exec c s = .next t) : NoNewWork s t := by
  by_cases hl : Area.zones ∈ eventAreas c
  · cases c
    case secondBoundary =>
      cases h
      intro z hz
      rw [secondBoundary_zone] at hz
      exact hz
    case tripReport x r | tripStationReturn x r =>
      obtain ⟨-, rfl⟩ := onObject_next h
      exact (noNewWork_of_zones (t := s.taking _) rfl).trans (noNewWork_stationReport _ x r)
    case tripStationLost x =>
      obtain ⟨-, rfl⟩ := onObject_next h
      exact (noNewWork_of_zones (t := s.taking _) rfl).trans (noNewWork_tripLost _ x)
    case permitExpiry z =>
      obtain ⟨-, rfl⟩ := onObject_next h
      split
      · exact noNewWork_endPermit _ _ _
      · exact fun _ => id
    case attentionButton x =>
      obtain ⟨-, rfl⟩ := onObject_next h
      exact (noNewWork_keptByOwners s x).press s fun _ => id
    all_goals simp [eventAreas, segAreas, gateAreas, weatherAreas, signAreas, stackAreas, stationAreas,
      answerAreas] at hl
  · exact noNewWork_leaves (leaves_event hc ha h) hl

/-- A segment CLOSED and under zone lock. -/
def Segment.shut (g : Segment) : Prop := g.state = .closed ∧ g.zoneLock = true

theorem revised_shut {old new : Segment} (h : new.shut) : (revised old new).shut := by
  unfold revised
  split
  · exact h
  · exact h

/-- A move leaves a shut segment shut, where a zone that threatens it is in WORK: what could open it is the end
of its lock, and a clearance ends none there (R52, R100). -/
theorem SegMove.shut {s : State} {i : Nat} {m : Move} (h : SegMove s i m) (hs : (s.seg i).shut)
    (hlock : lockedByZone s i = true) : m.seg.shut := by
  obtain ⟨hst, hl⟩ := hs
  cases h with
  | joins src k im hn =>
    simp [claimJoins, hst, hl, Move.still, Segment.shut]
  | renewed src k k' im hk =>
    cases im with
    | false => exact ⟨hst, hl⟩
    | true => simp [shorten, hst, hl, Move.still, Segment.shut]
  | leaves src hk =>
    split
    · simp [setEmptied, hst, hl, Move.still, Segment.shut]
    · exact ⟨hst, hl⟩
  | cleared z ends he =>
    have hends : ends = false := by
      cases ends with
      | false => rfl
      | true => rw [he rfl] at hlock; cases hlock
    subst hends
    simp only [clearanceMove, hl, hst, Bool.not_false, Bool.and_true, if_true, beq_self_eq_true]
    split
    · exact ⟨rfl, rfl⟩
    · exact ⟨rfl, rfl⟩
  | locked =>
    simp [hst, Move.still, Segment.shut]
  | dwelled hd => rw [hst] at hd; cases hd
  | gatesDown hd => rw [hst] at hd; cases hd
  | gatesUp hd => rw [hst] at hd; cases hd

/-- Where a zone in WORK threatens a segment, the segment is locked by a zone. -/
theorem lockedByZone_of_work {s : State} {z i : Nat} (hz : z < 10) (hi : i ∈ (imageZone s.image z).threatened)
    (hw : (s.zone z).state = .work) : lockedByZone s i = true :=
  List.any_eq_true.2 ⟨z, mem_zoneList.2 ⟨hz, hi⟩, by simp [Zone.locks, hw]⟩

/-- Where no zone enters WORK, the moves keep every segment of a zone in WORK shut. -/
theorem workIsShut_of_moves {s t : State} (himg : t.image = s.image) (hw : NoNewWork s t)
    (hm : EachMoves s t) (hs : WorkIsShut s) : WorkIsShut t := by
  intro z hz hwork i hi
  rw [himg] at hi
  have hwork := hw z hwork
  have hshut := hs z hz hwork i hi
  rcases hm i with h | ⟨m, hmove, h⟩
  · rw [h]; exact hshut
  · rw [h]
    exact revised_shut (hmove.shut hshut (lockedByZone_of_work hz hi hwork))

theorem workIsShut_congr {s t : State} (hseg : t.segments = s.segments) (hz : t.zones = s.zones)
    (himg : t.image = s.image) (hs : WorkIsShut s) : WorkIsShut t := by
  simpa only [WorkIsShut, State.zone, State.seg, hseg, hz, himg] using hs

/-- A lock starts at a CLOSED segment: it is CLOSED still, and under zone lock. -/
theorem lockIfFree_seg_self {s : State} {i : Nat} (hi : i < s.segments.length) (hst : (s.seg i).state = .closed) :
    (lockIfFree s i).seg i = { s.seg i with zoneLock := true } := by
  unfold lockIfFree
  split
  · next h => simp [← h]
  · unfold lockStartAt
    dsimp only
    rw [segEvent_seg s i i _ _ _ hi, if_pos rfl]
    simp [hst, Move.still, revised, revisionChange]

theorem lockIfFree_seg_ne {s : State} {i j : Nat} (h : j ≠ i) : (lockIfFree s i).seg j = s.seg j := by
  rcases movesAt_lockIfFree s i j with hj | ⟨hj, -⟩
  · exact hj
  · exact absurd hj h

/-- A permit granted: every CLOSED segment of the list is under zone lock, and no other changes. -/
theorem foldl_lockIfFree_seg {s : State} {l : List Nat} (hnd : l.Nodup) (hlt : ∀ i ∈ l, i < 12)
    (hlen : s.segments.length = 12) (hcl : ∀ i ∈ l, (s.seg i).state = .closed) (j : Nat) :
    (l.foldl lockIfFree s).seg j = if j ∈ l then { s.seg j with zoneLock := true } else s.seg j := by
  have hR : ∀ u : State, ∀ i ∈ l,
      (u.segments.length = 12 ∧ ∀ k ∈ l, (u.seg k).state = .closed) →
      (lockIfFree u i).segments.length = 12 ∧ ∀ k ∈ l, ((lockIfFree u i).seg k).state = .closed := by
    intro u i hi ⟨hu, hc⟩
    have hsize : (lockIfFree u i).segments.length = u.segments.length := by
      have h := ((leaves_lockIfFree u i).tables).2
      simp only [tableSizes, List.cons.injEq] at h
      exact h.2.2.2.1
    refine ⟨hsize.trans hu, fun k hk => ?_⟩
    by_cases hki : k = i
    · subst hki
      rw [lockIfFree_seg_self (by rw [hu]; exact hlt k hk) (hc k hk)]
      exact hc k hk
    · rw [lockIfFree_seg_ne hki]
      exact hc k hk
  exact foldl_record (get := State.seg) (g := fun _ g => { g with zoneLock := true })
    (R := fun u => u.segments.length = 12 ∧ ∀ k ∈ l, (u.seg k).state = .closed) hnd hR
    (fun u i hi hu => lockIfFree_seg_self (by rw [hu.1]; exact hlt i hi) (hu.2 i hi))
    (fun u i _ _ j hj => lockIfFree_seg_ne hj) s ⟨hlen, hcl⟩ j

theorem notShut_none {s : State} {z : Nat} (h : notShut s z = none) :
    ∀ i ∈ threatened s z, (s.seg i).state = .closed ∧ (s.seg i).barrierFault = false := by
  intro i hi
  have := List.find?_eq_none.1 h i hi
  simpa using this

theorem workIsShut_grantPermit {s : State} {z minutes : Nat} (ht : TablesOk s)
    (hshut : notShut s z = none) (hs : WorkIsShut s) : WorkIsShut (grantPermit s z minutes) := by
  have himg := (leaves_grantPermit s z minutes).image
  have hsegs := grantPermit_segments s z minutes
  by_cases hw : (s.zone z).state = .work
  · rw [if_pos hw] at hsegs
    intro y hy hwork i hi
    rw [himg] at hi
    rw [State.seg, hsegs]
    refine hs y hy ?_ i hi
    by_cases hyz : y = z
    · rw [hyz]; exact hw
    · have hzones : (grantPermit s z minutes).zones =
          (s.setZone z { s.zone z with state := .work, permit := some (60 * minutes) }).zones := by
        unfold grantPermit
        simp only [hw, beq_self_eq_true, if_true]
        rfl
      rwa [zone_of_zones hzones, State.setZone_zone_ne s z y _ hyz] at hwork
  · rw [if_neg hw] at hsegs
    have hlocked : ∀ i, (grantPermit s z minutes).seg i = if i ∈ threatened s z
        then { s.seg i with zoneLock := true } else s.seg i := fun i => by
      obtain ⟨hlt, hnd⟩ := imageZone_threatened ht.1 z
      rw [State.seg, hsegs]
      exact foldl_lockIfFree_seg hnd hlt ht.2.2.2.2.1 (fun i hi => (notShut_none hshut i hi).1) i
    intro y hy hwork i hi
    rw [himg] at hi
    rw [hlocked i]
    split
    · next hm => exact ⟨(notShut_none hshut i hm).1, rfl⟩
    · next hn =>
      refine hs y hy ?_ i hi
      have hyz : y ≠ z := by
        rintro rfl
        exact hn hi
      have hzone : (grantPermit s z minutes).zone y = ((threatened s z).foldl lockIfFree s).zone y := by
        have hne : ¬(s.zone z).state == .work := by simpa using hw
        unfold grantPermit
        simp only [hne]
        exact (redecide_zone _ z y).trans (State.setZone_zone_ne _ z y _ hyz)
      rwa [hzone, zone_of_zones ((leaves_foldl lockIfFree leaves_lockIfFree _ s).kept .zones (by decide))]
        at hwork

theorem run_workIsShut {k : CmdKind} {s : State} {p : Nat} {x : (commandOf k).1} {body : List Byte}
    (htk : Taken (commandOf k).2 s p x body) (ht : TablesOk (popFrame s p)) (hs : WorkIsShut (popFrame s p)) :
    WorkIsShut ((commandOf k).2.run (popFrame s p) p x).state := by
  by_cases hk : k = .permitRequest
  · subst hk
    show WorkIsShut (runPermitRequest (popFrame s p) p x).state
    unfold runPermitRequest
    split
    · exact hs
    · split
      · exact hs
      · next hn => exact workIsShut_grantPermit ht hn hs
  · exact workIsShut_of_moves ((leaves_run k _ p x).image (by cases k <;> decide)) (run_noNewWork x hk)
      (run_eachMoves htk ht) hs

theorem exec_workIsShut {c : Instr} {s t : State} (hc : c ≠ .startUp) (ht : TablesOk s) (hs : WorkIsShut s)
    (h : exec c s = .next t) : WorkIsShut t := by
  cases ha : agentCommand c with
  | some pk =>
    obtain ⟨p, k⟩ := pk
    rw [eq_agentInstr ha, exec_agentInstr] at h
    obtain ⟨-, rfl⟩ := onObject_next h
    exact takeCommand_keeps hs (workIsShut_congr rfl rfl rfl) (fun _ _ => workIsShut_congr rfl rfl rfl)
      fun x body htk hpop => run_workIsShut htk ((leaves_popFrame s p).tablesOk ht) hpop
  | none =>
    have hw := event_noNewWork hc ha h
    by_cases hb : c = .secondBoundary
    · subst hb
      cases h
      intro z hz hwork i hi
      rw [secondBoundary_seg]
      exact hs z hz (hw z hwork) i hi
    · exact workIsShut_of_moves (exec_tables hc h ht).2 hw (exec_eachMoves hc hb ht h) hs

theorem startUp_workIsShut {s t : State} (h : exec .startUp s = .next t) : WorkIsShut t := by
  rw [exec_startUp] at h
  cases h
  intro z hz hwork
  rw [boot_zone hz] at hwork
  cases hwork

end Sys2Proof.Machine

namespace Sys2Proof

set_option Elab.async false

open Sys2Proof.Machine

/-- Settles O55: every move of a gate gives a consistent record, every entry of a zone hands on the deciding
zones anew, and every change of a line derives its zone's degraded field anew. -/
theorem stepsKeepGatesAndZonesConsistent : Obligations.StepsKeepGatesAndZonesConsistent := fun _ _ ht h =>
  ⟨fun hs => (step_keeps (P := fun u => TablesOk u ∧ GatesOk u) (fun _ => id)
      (fun _ _ _ h => ⟨startUp_tablesOk h, startUp_gatesOk h⟩)
      (fun _ _ _ hc hu h => ⟨(exec_tables hc h hu.1).1, exec_gatesOk hc hu.1 hu.2 h⟩) h ⟨ht, hs⟩).2,
    fun hs => (step_keeps (P := fun u => TablesOk u ∧ ZonesOk u) (fun _ => id)
      (fun _ _ _ h => ⟨startUp_tablesOk h, startUp_zonesOk h⟩)
      (fun _ _ _ hc hu h => ⟨(exec_tables hc h hu.1).1, exec_zonesOk hc hu.1 hu.2 h⟩) h ⟨ht, hs⟩).2⟩

/-- Settles O60: only a granted permit takes a zone to WORK, and it locks the segments it found CLOSED; a
clearance ends no lock of a segment that a zone in WORK threatens, and no other move opens a locked one. -/
theorem workZonesKeepSegmentsShut : Obligations.WorkZonesKeepSegmentsShut := by
  intro c s t ht hs h
  by_cases hc : c = .startUp
  · subst hc; exact startUp_workIsShut h
  · exact exec_workIsShut hc ht hs h

end Sys2Proof

/-! PROOF. Every step keeps the channels, the reading slot with its sample on the station link, and the evaluation
records consistent (R110–R131). -/

namespace Sys2Proof.Machine

set_option Elab.async false

open Sys2Proof

/-! ## The station link (R110) -/

/-- Head and input of the channel a slot asks for. -/
def askedOf (img : Image) : Slot → Option (Nat × Nat)
  | .pending r => (imageChannel img r.channel).bind (·.place)
  | .empty | .ready .. => none

theorem askedInput_eq (s : State) : askedInput s = askedOf s.image s.weather.slot := by
  unfold askedInput
  split
  · next h => rw [h]; rfl
  · next h => rw [h]; rfl
  · next h => rw [h]; rfl

/-- The sample that is asked for waits or is in progress, and no other is. -/
def LinkSound (a : Option (Nat × Nat)) (w : Weather) : Prop :=
  w.waiting = a ∧ sampling w = none ∨ w.waiting = none ∧ sampling w = a

/-- The link is free only when nothing waits for it. -/
def LinkGranted (w : Weather) : Prop := w.exchange = none → w.waiting = none ∧ firstDue w = none

/-- Every channel's record. -/
def ChannelsOk (s : State) : Prop := ∀ c < 24, (s.channel c).ok

theorem weatherOk_iff (s : State) : WeatherOk s ↔ ChannelsOk s ∧
    (s.weather.slot.isPending = true → (askedOf s.image s.weather.slot).isSome = true) ∧
    LinkSound (askedOf s.image s.weather.slot) s.weather ∧ LinkGranted s.weather := by
  rw [WeatherOk, askedInput_eq]
  rfl

theorem sampling_of_free {w : Weather} (h : w.exchange = none) : sampling w = none := by
  unfold sampling
  rw [h]

/-- Without a sample in progress the one that is asked for waits. -/
theorem LinkSound.waiting {a : Option (Nat × Nat)} {w : Weather} (h : LinkSound a w) (hs : sampling w = none) :
    w.waiting = a := by
  rcases h with ⟨hw, -⟩ | ⟨hw, ha⟩
  · exact hw
  · rw [hw, ← ha, hs]

theorem linkSound_of_free {a : Option (Nat × Nat)} {w : Weather} (h : w.exchange = none) (hw : w.waiting = a) :
    LinkSound a w := .inl ⟨hw, sampling_of_free h⟩

theorem grantLink_beside (w : Weather) : (grantLink w).slot = w.slot ∧ (grantLink w).channels = w.channels ∧
    (grantLink w).sampleTimer = w.sampleTimer := by
  unfold grantLink
  split
  · exact ⟨rfl, rfl, rfl⟩
  · split
    · exact ⟨rfl, rfl, rfl⟩
    · split <;> exact ⟨rfl, rfl, rfl⟩

/-- The free link is granted. -/
theorem linkGranted_grantLink (w : Weather) : LinkGranted (grantLink w) := by
  intro h
  unfold grantLink at h ⊢
  split at h
  · next e he => rw [he] at h; cases h
  · next he =>
    split at h
    · cases h
    · next hw =>
      split at h
      · cases h
      · next hd =>
        simp only [hw, hd]
        exact ⟨trivial, trivial⟩

theorem linkSound_grantLink {a : Option (Nat × Nat)} {w : Weather} (h : LinkSound a w) :
    LinkSound a (grantLink w) := by
  unfold grantLink
  split
  · exact h
  · next he =>
    have hw := h.waiting (sampling_of_free he)
    split
    · next k inp hk =>
      refine .inr ⟨rfl, ?_⟩
      rw [← hw, hk]
      rfl
    · next hn =>
      split
      · exact .inl ⟨hw, rfl⟩
      · exact h

/-- The link granted leaves everything consistent. -/
theorem weatherOk_of_granted {t : State} {w : Weather} (hw : t.weather = grantLink w)
    (hch : ∀ c < 24, (w.channels.getD c default).ok)
    (hslot : w.slot.isPending = true → (askedOf t.image w.slot).isSome = true)
    (hlink : LinkSound (askedOf t.image w.slot) w) : WeatherOk t := by
  obtain ⟨h1, h2, -⟩ := grantLink_beside w
  rw [weatherOk_iff, hw, h1]
  refine ⟨fun c hc => ?_, hslot, linkSound_grantLink hlink, linkGranted_grantLink w⟩
  rw [State.channel, hw, h2]
  exact hch c hc

theorem weatherOk_grantLink {s : State} {w : Weather} (hch : ∀ c < 24, (w.channels.getD c default).ok)
    (hslot : w.slot.isPending = true → (askedOf s.image w.slot).isSome = true)
    (hlink : LinkSound (askedOf s.image w.slot) w) : WeatherOk (s.setWeather (grantLink w)) :=
  weatherOk_of_granted rfl hch hslot hlink

/-- An exchange ends where the sample that is asked for waits. -/
theorem weatherOk_endExchange {s : State} (hch : ChannelsOk s)
    (hslot : s.weather.slot.isPending = true → (askedOf s.image s.weather.slot).isSome = true)
    (hw : s.weather.waiting = askedOf s.image s.weather.slot) : WeatherOk (endExchange s) :=
  weatherOk_grantLink hch hslot (linkSound_of_free rfl hw)

/-! ## Channels (R112–R118) -/

/-- Nothing of the weather unit but the channels has changed, and they are consistent. -/
structure ChannelsMoved (s t : State) : Prop where
  beside : ∃ ch, t.weather = { s.weather with channels := ch }
  image : t.image = s.image
  ok : ChannelsOk t

theorem ChannelsMoved.asked {s t : State} (h : ChannelsMoved s t) :
    askedOf t.image t.weather.slot = askedOf s.image s.weather.slot := by
  obtain ⟨ch, hch⟩ := h.beside
  rw [h.image, hch]

theorem ChannelsMoved.trans {s t u : State} (h : ChannelsMoved s t) (k : ChannelsMoved t u) :
    ChannelsMoved s u := by
  obtain ⟨ch, hch⟩ := h.beside
  obtain ⟨ch', hch'⟩ := k.beside
  exact ⟨⟨ch', by rw [hch', hch]⟩, k.image.trans h.image, k.ok⟩

theorem channelsMoved_refl {s : State} (h : ChannelsOk s) : ChannelsMoved s s := ⟨⟨_, rfl⟩, rfl, h⟩

theorem channelsMoved_channelEvent {s : State} {c : Nat} {e : ChannelEntry} {new : Channel}
    (cause : ChannelCause) (hs : ChannelsOk s) (hn : (s.channel c).ok → new.ok) :
    ChannelsMoved s (channelEvent s c e new cause) := by
  have hw := channelEvent_weather s c e new cause
  refine ⟨⟨_, hw⟩, channelEvent_image s c e new cause, fun k hk => ?_⟩
  by_cases hkc : k = c
  · subst hkc
    by_cases hlt : k < s.weather.channels.length
    · rw [channelEvent_channel_self s k e new cause hlt]
      exact hn (hs k hk)
    · have hsame : (channelEvent s k e new cause).channel k = s.channel k := by
        rw [State.channel, hw]
        simp [State.channel, State.setChannel, List.set_eq_of_length_le (Nat.not_lt.1 hlt)]
      rw [hsame]
      exact hs k hk
  · rw [channelEvent_channel_ne s c e new cause k hkc]
    exact hs k hk

/-- A consistent change of channels keeps the weather unit consistent. -/
theorem ChannelsMoved.weatherOk {s t : State} (h : ChannelsMoved s t) (hs : WeatherOk s) : WeatherOk t := by
  obtain ⟨-, hslot, hlink, hgrant⟩ := (weatherOk_iff s).1 hs
  obtain ⟨ch, hch⟩ := h.beside
  rw [weatherOk_iff, h.asked, hch]
  exact ⟨h.ok, hslot, hlink, hgrant⟩

theorem goodSample_ok {r : Channel} (s : State) (e : ChannelEntry) (v : Int) (x : Option (Int × Nat)) (h : r.ok) :
    (goodSample s e v { r with lastSample := x }).ok := by
  obtain ⟨hf, -, -, -, -⟩ := h
  by_cases hst : r.status = .forced
  · simp [Channel.ok, goodSample, hst, hf.1 hst]
  · have hn : r.forced = .absent := by
      by_contra hn
      exact hst (hf.2 hn)
    simp [Channel.ok, goodSample, hst, hn]

theorem badSample_ok {r : Channel} (x : Option (Int × Nat)) (h : r.ok) :
    (badSample { r with lastSample := x }).ok := by
  obtain ⟨hf, hrun, hstale, hgood, htime⟩ := h
  refine ⟨?_, fun hst => hrun ?_, fun hst => hstale ?_, hgood, htime⟩
  · refine Iff.trans ?_ hf
    cases r.status <;> simp [badSample]
  · cases hr : r.status <;> simp [badSample, hr] at hst ⊢
  · cases hr : r.status <;> simp [badSample, hr] at hst ⊢

theorem staleNow_ok {r : Channel} (h : r.ok) : (staleNow r).ok := by
  obtain ⟨hf, -, -, -, htime⟩ := h
  by_cases hst : r.status = .forced
  · simp [Channel.ok, staleNow, hst, hf.1 hst, htime]
  · have hn : r.forced = .absent := by
      by_contra hn
      exact hst (hf.2 hn)
    simp [Channel.ok, staleNow, hst, hn, htime]

theorem forced_ok {r : Channel} (e : ChannelEntry) (v : Option Int) (h : r.ok) :
    Channel.ok { r with forced := forcedContent e v, status := .forced } := by
  obtain ⟨-, -, -, hgood, htime⟩ := h
  have hne : forcedContent e v ≠ .absent := by cases v <;> simp [forcedContent]
  exact ⟨by simp [hne], by simp, by simp, hgood, htime⟩

theorem unforced_ok {r : Channel} (h : r.ok) :
    Channel.ok { r with forced := .absent, status := if r.stale.isSome then .fresh else .stale } := by
  obtain ⟨-, -, -, hgood, htime⟩ := h
  cases hst : r.stale with
  | none => exact ⟨by simp, by simp, by simp, by simp, htime⟩
  | some n => exact ⟨by simp, by simp, by simp, by simpa [hst] using hgood, htime⟩

theorem channelsMoved_sampleAt {s : State} (c : Nat) (e : ChannelEntry) (code : RawCode) (hs : ChannelsOk s) :
    ChannelsMoved s (sampleAt s c e code) := by
  unfold sampleAt
  dsimp only
  split
  · exact channelsMoved_channelEvent _ hs (goodSample_ok s e _ _)
  · exact channelsMoved_channelEvent _ hs (badSample_ok _)

theorem channelsMoved_takeCodes {s : State} (h : Nat) (c0 c1 c2 c3 : RawCode) (hs : ChannelsOk s) :
    ChannelsMoved s (takeCodes s h c0 c1 c2 c3) := by
  unfold takeCodes
  generalize headChannels s.image h = l
  suffices hgen : ∀ u, ChannelsMoved s u → ChannelsMoved s (l.foldl (fun t c =>
      match imageChannel s.image c with
      | some e => sampleAt t c e (codeAt c0 c1 c2 c3 (channelInput e))
      | none => t) u) from hgen s (channelsMoved_refl hs)
  induction l with
  | nil => exact fun _ h => h
  | cons c l ih =>
    intro u hu
    refine ih _ ?_
    dsimp only
    split
    · exact hu.trans (channelsMoved_sampleAt _ _ _ hu.ok)
    · exact hu

theorem setHead_weather (s : State) (k : Nat) (v : Head) :
    (s.setHead k v).weather = { s.weather with heads := s.weather.heads.set k v } := rfl

/-! ## The commands -/

theorem weatherOk_pollsDue {s : State} (hs : WeatherOk s) :
    WeatherOk ((pollsDue s).setWeather (grantLink (pollsDue s).weather)) := by
  obtain ⟨hch, hslot, hlink, -⟩ := (weatherOk_iff s).1 hs
  exact weatherOk_grantLink (s := pollsDue s) hch hslot hlink

/-- The poll in progress ends: no sample is in progress. -/
theorem weatherOk_pollEnds {s t : State} {k : Nat} (he : s.weather.exchange = some (.poll k))
    (hs : WeatherOk s) (hm : ChannelsOk t) (hw : t.weather.waiting = s.weather.waiting)
    (hsl : t.weather.slot = s.weather.slot) (himg : t.image = s.image) : WeatherOk (endExchange t) := by
  obtain ⟨-, hslot, hlink, -⟩ := (weatherOk_iff s).1 hs
  have hsample : sampling s.weather = none := by
    unfold sampling
    rw [he]
  exact weatherOk_endExchange hm (by rwa [hsl, himg]) (by rw [hw, hsl, himg]; exact hlink.waiting hsample)

/-- With an immediate sample in progress the slot is PENDING for its channel. -/
theorem pending_of_sampling {s : State} {k inp : Nat} (he : s.weather.exchange = some (.immediate k inp))
    (hs : WeatherOk s) : s.weather.waiting = none ∧ ∃ r e, s.weather.slot = .pending r ∧
      imageChannel s.image r.channel = some e := by
  obtain ⟨-, -, hlink, -⟩ := (weatherOk_iff s).1 hs
  have hsample : sampling s.weather = some (k, inp) := by
    unfold sampling
    rw [he]
  rcases hlink with ⟨-, hn⟩ | ⟨hw, ha⟩
  · rw [hsample] at hn; cases hn
  · rw [hsample] at ha
    refine ⟨hw, ?_⟩
    cases hsl : s.weather.slot with
    | pending r =>
      rw [hsl] at ha
      cases hi : imageChannel s.image r.channel with
      | none => simp [askedOf, hi] at ha
      | some e => exact ⟨r, e, rfl, hi⟩
    | empty => rw [hsl] at ha; cases ha
    | ready => rw [hsl] at ha; cases ha

theorem weatherOk_immediateAnswer {s : State} {k inp : Nat} (code : RawCode)
    (he : s.weather.exchange = some (.immediate k inp)) (hs : WeatherOk s) :
    WeatherOk (endExchange (immediateAnswer (headAnswers s k) code)) := by
  obtain ⟨hw, r, e, hsl, hi⟩ := pending_of_sampling he hs
  have hch : ChannelsOk s := ((weatherOk_iff s).1 hs).1
  have heq : immediateAnswer (headAnswers s k) code =
      sampleAt (slotReady (headAnswers s k) r (.ok (readValue e r.form code))) r.channel e code := by
    unfold immediateAnswer
    have hsl' : (headAnswers s k).weather.slot = .pending r := hsl
    have hi' : imageChannel (headAnswers s k).image r.channel = some e := hi
    simp only [hsl', hi']
  have hm := channelsMoved_sampleAt (s := slotReady (headAnswers s k) r (.ok (readValue e r.form code)))
    r.channel e code hch
  rw [heq]
  obtain ⟨ch, hbeside⟩ := hm.beside
  refine weatherOk_endExchange hm.ok (by rw [hbeside]; simp [slotReady, Slot.isPending]) ?_
  rw [hm.asked, hbeside]
  exact hw

theorem weatherOk_immediateSilent {s : State} {k inp : Nat}
    (he : s.weather.exchange = some (.immediate k inp)) (hs : WeatherOk s) :
    WeatherOk (endExchange (immediateSilent (headSilent s k))) := by
  obtain ⟨hw, r, e, hsl, -⟩ := pending_of_sampling he hs
  have hch : ChannelsOk s := ((weatherOk_iff s).1 hs).1
  have heq : immediateSilent (headSilent s k) = slotReady (headSilent s k) r .noReply := by
    unfold immediateSilent
    have hsl' : (headSilent s k).weather.slot = .pending r := hsl
    simp only [hsl']
  rw [heq]
  exact weatherOk_endExchange hch (by simp [slotReady, Slot.isPending]) hw

/-- A slot that asks for nothing may take the place of one that asks for nothing. -/
theorem weatherOk_setSlot {s : State} {x : Slot} (hx : x.isPending = false)
    (hsl : s.weather.slot.isPending = false) (hs : WeatherOk s) :
    WeatherOk (s.setWeather { s.weather with slot := x }) := by
  have hnone : ∀ y : Slot, y.isPending = false → askedOf s.image y = none := by
    intro y hy
    cases y with
    | pending r => simp [Slot.isPending] at hy
    | empty | ready => rfl
  obtain ⟨hch, -, hlink, hgrant⟩ := (weatherOk_iff s).1 hs
  rw [weatherOk_iff]
  refine ⟨hch, fun h => ?_, ?_, hgrant⟩
  · have h : x.isPending = true := h
    rw [hx] at h
    cases h
  · show LinkSound (askedOf s.image x) _
    rw [hnone _ hsl] at hlink
    rw [hnone x hx]
    exact hlink

theorem weatherOk_latch {s : State} {r : Request} {e : ChannelEntry} (he : imageChannel s.image r.channel = some e)
    (hsl : s.weather.slot = .empty) (hs : WeatherOk s) : WeatherOk (latch s r e) := by
  obtain ⟨hch, -, hlink, -⟩ := (weatherOk_iff s).1 hs
  have hasked : askedOf s.image (.pending r) = e.place := by simp [askedOf, he]
  have hsample : sampling s.weather = none := by
    rw [hsl] at hlink
    rcases hlink with ⟨-, h⟩ | ⟨-, h⟩
    · exact h
    · exact h
  refine weatherOk_grantLink (s := s) hch (fun _ => ?_) (.inl ⟨hasked.symm, hsample⟩)
  show (askedOf s.image (.pending r)).isSome = true
  rw [hasked]
  exact (imageChannel_fixed he).2

theorem secondBoundary_channel (s : State) (c : Nat) :
    (secondBoundary s).channel c = { s.channel c with stale := tick (s.channel c).stale } :=
  getD_map_default _ _ _ _ _ rfl

theorem secondBoundary_weatherOk {s : State} (hs : WeatherOk s) : WeatherOk (secondBoundary s) := by
  obtain ⟨hch, hslot, hlink, hgrant⟩ := (weatherOk_iff s).1 hs
  have hasked : askedOf (secondBoundary s).image (secondBoundary s).weather.slot =
      askedOf s.image s.weather.slot := by
    show askedOf s.image (tickSlot s.weather.slot) = _
    cases s.weather.slot <;> rfl
  rw [weatherOk_iff, hasked]
  refine ⟨fun c hc => ?_, fun h => hslot ?_, hlink, hgrant⟩
  · obtain ⟨hf, hrun, hstale, hgood, htime⟩ := hch c hc
    rw [secondBoundary_channel]
    exact ⟨hf, fun h => by rw [isSome_tick]; exact hrun h, fun h => by simp [hstale h, tick],
      by rwa [isSome_tick], htime⟩
  · have h : (tickSlot s.weather.slot).isPending = true := h
    cases hsl : s.weather.slot <;> simp [hsl, tickSlot, Slot.isPending] at h ⊢

theorem weather_event_ok {c : Instr} {s t : State} (hs : WeatherOk s)
    (hl : Area.weather ∈ eventAreas c) (h : exec c s = .next t) : WeatherOk t := by
  have hch : ChannelsOk s := ((weatherOk_iff s).1 hs).1
  cases c
  case secondBoundary => cases h; exact secondBoundary_weatherOk hs
  case samplePeriodExpiry =>
    cases h
    split
    · exact weatherOk_pollsDue hs
    · exact hs
  case headPollReply k c0 c1 c2 c3 =>
    obtain ⟨-, rfl⟩ := onObject_next h
    split
    · next he =>
      have hm := channelsMoved_takeCodes (s := headAnswers s k) k c0 c1 c2 c3 hch
      obtain ⟨ch, hbeside⟩ := hm.beside
      exact weatherOk_pollEnds he hs hm.ok (by rw [hbeside]; rfl) (by rw [hbeside]; rfl) hm.image
    · exact hs
  case headReplyLimit =>
    cases h
    split
    · next k he => exact weatherOk_pollEnds he hs hch rfl rfl rfl
    · next k inp he => exact weatherOk_immediateSilent he hs
    · exact hs
  case immediateSampleReply code =>
    cases h
    split
    · next k inp he => exact weatherOk_immediateAnswer code he hs
    · exact hs
    · exact hs
  case staleLimit c =>
    obtain ⟨-, rfl⟩ := onObject_next h
    split
    · split
      · exact (channelsMoved_channelEvent _ hch staleNow_ok).weatherOk hs
      · exact hs
    · exact hs
  case discardTimerExpiry =>
    cases h
    split
    · next hsl => exact weatherOk_setSlot rfl (by rw [hsl]; rfl) hs
    · exact hs
  all_goals simp [eventAreas, segAreas, gateAreas, zoneAreas, signAreas, stackAreas, stationAreas,
    answerAreas, quiesceAreas] at hl

theorem run_weatherOk {k : CmdKind} {s : State} {p : Nat} (x : (commandOf k).1)
    (hk : Area.weather ∈ kindAreas k) (hs : WeatherOk s) : WeatherOk ((commandOf k).2.run s p x).state := by
  have hch : ChannelsOk s := ((weatherOk_iff s).1 hs).1
  cases k with
  | reading =>
    show WeatherOk (runReading s p x).state
    unfold runReading
    split
    · exact hs
    · next e he =>
      split
      · next hsl => exact weatherOk_latch he hsl hs
      · split <;> exact hs
      · next hsl =>
        split
        · exact weatherOk_setSlot rfl (by rw [hsl]; rfl) hs
        · exact hs
  | forceChannel =>
    show WeatherOk (runForceChannel s p x).state
    unfold runForceChannel
    split
    · exact hs
    · exact (channelsMoved_channelEvent _ hch (forced_ok _ _)).weatherOk hs
  | unforce =>
    show WeatherOk (runUnforce s p x).state
    unfold runUnforce
    split
    · exact hs
    · split
      · exact (channelsMoved_channelEvent _ hch unforced_ok).weatherOk hs
      · exact hs
  | _ => exact absurd hk (by decide)

theorem weatherOk_frame {s t : State} (h : Area.weather.kept s t) (himg : t.image = s.image) (hs : WeatherOk s) :
    WeatherOk t := by
  have hw : t.weather = s.weather := h
  obtain ⟨hch, hslot, hlink, hgrant⟩ := (weatherOk_iff s).1 hs
  rw [weatherOk_iff, hw, himg]
  exact ⟨fun c hc => by rw [State.channel, hw]; exact hch c hc, hslot, hlink, hgrant⟩

theorem exec_weatherOk {c : Instr} {s t : State} (hc : c ≠ .startUp) (ht : TablesOk s)
    (hs : WeatherOk s) (h : exec c s = .next t) : WeatherOk t :=
  exec_keeps [.weather] (fun _ _ hk himg => weatherOk_frame (hk .weather (by simp)) himg)
    (fun _ _ _ x _ hk _ _ hs => run_weatherOk x (by simpa using hk) hs)
    (fun _ _ _ _ _ hk _ hs h => weather_event_ok hs (by simpa using hk) h) hc ht hs h

theorem boot_weatherOk (l : Loader) (key : Bool) (contacts : List Bool) (pending : List Instr) :
    WeatherOk (boot l key contacts pending) := by
  refine weatherOk_of_granted (t := boot l key contacts pending)
    (w := { heads := (List.range 8).map fun h =>
              { reachable := false, lastReply := none, pollDue := headFitted l.image h },
            channels := List.replicate 24 Channel.reset, exchange := none, waiting := none, slot := .empty,
            sampleTimer := l.image.samplePeriod }) rfl (fun c hc => ?_) (by simp [Slot.isPending])
    (linkSound_of_free rfl rfl)
  rw [List.getD_replicate _ hc]
  simp [Channel.ok, Channel.reset]

theorem startUp_weatherOk {s t : State} (h : exec .startUp s = .next t) : WeatherOk t := by
  rw [exec_startUp] at h
  rw [← Host.Outcome.next.inj h]
  exact boot_weatherOk _ _ _ _

/-! ## The evaluator (R124–R131) -/

theorem imageAccepted_evaluator {img : Image} (h : imageAccepted img = true) :
    img.thresholds.length = 4 ∧ 1 ≤ img.confirmation := by
  simp only [imageAccepted, sizesOk, evaluatorOk, within, Bool.and_eq_true, beq_iff_eq, decide_eq_true_eq] at h
  tauto

/-- One verdict keeps a filter consistent (R130, R131). -/
theorem runFilter_ok {top n : Nat} {ts : List Nat} (hyst : Nat) (v : Int) {f : Filter} (hts : ts.length = top)
    (hn : 1 ≤ n) (h : f.ok top n) : (runFilter ts hyst n v f).ok top n := by
  obtain ⟨hcls, -, -, -⟩ := h
  unfold runFilter
  split
  · next hup =>
    simp only [Bool.and_eq_true, decide_eq_true_eq] at hup
    split
    · exact ⟨by dsimp only; omega, hn, hn, .inl rfl⟩
    · next hlt => exact ⟨hcls, by dsimp only; omega, hn, .inr rfl⟩
  · split
    · split
      · exact ⟨by dsimp only; omega, hn, hn, .inl rfl⟩
      · next hlt => exact ⟨hcls, hn, by dsimp only; omega, .inl rfl⟩
    · exact ⟨hcls, hn, hn, .inl rfl⟩

theorem roleValue_none (s : State) : roleValue s none = none := rfl

theorem filter_reset_ok (top : Nat) {n : Nat} (hn : 1 ≤ n) : Filter.ok top n { cls := 0, up := 0, down := 0 } :=
  ⟨Nat.zero_le _, hn, hn, .inl rfl⟩

/-- One segment's record of the evaluator. -/
def EvaluationOk (img : Image) (i : Nat) (r : Evaluation) : Prop :=
  r.score ≤ 1000 ∧ r.cond.ok 4 img.confirmation ∧ r.wind.ok 2 img.confirmation ∧
    (evaluated img i = false → r = Evaluation.reset) ∧ (windEvaluated img i = false → r.wind.cls = 0)

theorem evaluatorOk_iff (s : State) : EvaluatorOk s ↔ ∀ i < 12, EvaluationOk s.image i (s.eval i) := Iff.rfl

theorem evaluation_ok {s : State} {i : Nat} (ha : imageAccepted s.image = true)
    (h : EvaluationOk s.image i (s.eval i)) : EvaluationOk s.image i (evaluation s i) := by
  obtain ⟨hts, hn⟩ := imageAccepted_evaluator ha
  obtain ⟨hscore, hcond, hwind, hreset, hcls⟩ := id h
  unfold evaluation
  dsimp only
  split
  · exact h
  · next ts hsome =>
    have hev : evaluated s.image i = true := by
      unfold evaluated
      cases hi : (imageSegment s.image i).ts with
      | none => rw [hi] at hsome; cases hsome
      | some c => rfl
    have hcap : (scoreOf s (imageSegment s.image i) ts).toNat ≤ 1000 := by
      have : scoreOf s (imageSegment s.image i) ts ≤ 1000 := min_le_right _ _
      omega
    refine ⟨hcap, runFilter_ok _ _ hts hn hcond, ?_, by simp [hev], fun hw => ?_⟩
    · dsimp only
      split
      · exact runFilter_ok _ _ rfl hn hwind
      · exact hwind
    · have hnone : (imageSegment s.image i).w = none := by simpa [windEvaluated, hev] using hw
      simp only [hnone, roleValue_none]
      exact hcls hw

theorem evaluate_evaluatorOk {s : State} (ht : TablesOk s) (hs : EvaluatorOk s) : EvaluatorOk (evaluate s) := by
  have hrecs : s.evaluator.recs.length = 12 := ht.2.2.2.2.2.2.2.2.2.2.2.1
  have himg : (evaluate s).image = s.image := (leaves_evaluate s).image
  intro i hi
  rw [evaluate_eval hrecs hi, himg]
  exact evaluation_ok ht.1 (hs i hi)

theorem evaluatorOk_frame {s t : State} (h : t.evaluator.recs = s.evaluator.recs) (himg : t.image = s.image)
    (hs : EvaluatorOk s) : EvaluatorOk t := by
  simpa only [EvaluatorOk, State.eval, h, himg] using hs

theorem exec_evaluatorOk {c : Instr} {s t : State} (hc : c ≠ .startUp) (ht : TablesOk s)
    (hs : EvaluatorOk s) (h : exec c s = .next t) : EvaluatorOk t := by
  have himg := (exec_tables hc h ht).2
  by_cases hl : Area.evaluator ∈ instrAreas c
  · cases c
    case secondBoundary => cases h; exact hs
    case evaluationEvent =>
      have he : (if s.evaluator.timer = 0 then evaluate s else s) = t := Host.Outcome.next.inj h
      rw [← he]
      split
      · exact evaluate_evaluatorOk ht hs
      · exact hs
    all_goals simp [instrAreas, agentCommand, kindAreas, eventAreas, segAreas, gateAreas, zoneAreas, weatherAreas,
      signAreas, stackAreas, stationAreas, answerAreas, quiesceAreas, permitAreas] at hl
  · exact evaluatorOk_frame (congrArg Evaluator.recs ((leaves_exec hc h).kept .evaluator hl)) himg hs

theorem startUp_evaluatorOk {s t : State} (h : exec .startUp s = .next t) : EvaluatorOk t := by
  have hacc : imageAccepted (reload s.loader).image = true := loadImage_accepted ..
  obtain ⟨-, hn⟩ := imageAccepted_evaluator hacc
  rw [exec_startUp] at h
  cases h
  intro i hi
  have heval : ∀ l key contacts pending, (boot l key contacts pending).eval i = Evaluation.reset := by
    intro l key contacts pending
    show (List.replicate 12 Evaluation.reset).getD i default = _
    rw [List.getD_replicate _ hi]
  rw [heval]
  exact ⟨by simp [Evaluation.reset], filter_reset_ok 4 hn, filter_reset_ok 2 hn, fun _ => rfl, fun _ => rfl⟩

end Sys2Proof.Machine

namespace Sys2Proof

set_option Elab.async false

open Sys2Proof.Machine

/-- Settles O56: an exchange ends with the sample that is asked for still waiting, and every end grants the link
anew; each change of a channel and each verdict of a filter gives a consistent record. -/
theorem stepsKeepWeatherConsistent : Obligations.StepsKeepWeatherConsistent := fun _ _ ht h =>
  ⟨fun hs => (step_keeps (P := fun u => TablesOk u ∧ WeatherOk u) (fun _ => id)
      (fun _ _ _ h => ⟨startUp_tablesOk h, startUp_weatherOk h⟩)
      (fun _ _ _ hc hu h => ⟨(exec_tables hc h hu.1).1, exec_weatherOk hc hu.1 hu.2 h⟩) h ⟨ht, hs⟩).2,
    fun hs => (step_keeps (P := fun u => TablesOk u ∧ EvaluatorOk u) (fun _ => id)
      (fun _ _ _ h => ⟨startUp_tablesOk h, startUp_evaluatorOk h⟩)
      (fun _ _ _ hc hu h => ⟨(exec_tables hc h hu.1).1, exec_evaluatorOk hc hu.1 hu.2 h⟩) h ⟨ht, hs⟩).2⟩

end Sys2Proof

/-! PROOF. Demand stacks, reference counts and the message library (R136, R137, R156, R157): what a placement and
a removal make of a stack and of the slots its demands name; settles O57. -/

namespace Sys2Proof.Machine

set_option Elab.async false

open Sys2Proof

/-! ## The order of a stack (R137) -/

theorem above_iff (a b : Demand) : a.above b = true ↔
    b.severity < a.severity ∨ a.severity = b.severity ∧ (a.key.rank < b.key.rank ∨
      a.key.rank = b.key.rank ∧ a.arrival.toNat < b.arrival.toNat) := by
  simp [Demand.above]

theorem above_iff_false (a b : Demand) : a.above b = false ↔
    ¬(b.severity < a.severity ∨ a.severity = b.severity ∧ (a.key.rank < b.key.rank ∨
      a.key.rank = b.key.rank ∧ a.arrival.toNat < b.arrival.toNat)) := by
  rw [← above_iff, Bool.not_eq_true]

/-- The order of R137, as `StackOk` says it. -/
def InOrder (st : List Demand) : Prop := st.Pairwise fun a b => b.above a = false

theorem insertDemand_perm (d : Demand) (st : List Demand) : (insertDemand d st).Perm (d :: st) := by
  induction st with
  | nil => exact .refl _
  | cons x xs ih =>
    unfold insertDemand
    split
    · exact .refl _
    · exact (ih.cons x).trans (.swap d x xs)

theorem inOrder_insertDemand (d : Demand) {st : List Demand} (h : InOrder st) : InOrder (insertDemand d st) := by
  induction st with
  | nil => exact List.pairwise_singleton ..
  | cons x xs ih =>
    obtain ⟨hx, hxs⟩ := List.pairwise_cons.1 h
    unfold insertDemand
    split
    · next hd =>
      refine List.pairwise_cons.2 ⟨fun y hy => ?_, h⟩
      have hyx : y = x ∨ y.above x = false := (List.mem_cons.1 hy).imp_right (hx y)
      rw [above_iff] at hd
      rw [above_iff_false]
      rcases hyx with rfl | hyx
      · omega
      · rw [above_iff_false] at hyx; omega
    · next hd =>
      refine List.pairwise_cons.2 ⟨fun y hy => ?_, ih hxs⟩
      rcases List.mem_cons.1 ((insertDemand_perm d xs).mem_iff.1 hy) with rfl | hy
      · exact Bool.not_eq_true _ ▸ hd
      · exact hx y hy

/-! ## Keys and numbers of demands -/

theorem agentCount_eq (st : List Demand) : agentCount st = st.countP fun d => d.key.isAgent :=
  List.countP_eq_length_filter.symm

theorem countP_split (p : Demand → Bool) (q : DemandKey → Bool) (st : List Demand) :
    st.countP p = (st.filter fun d => q d.key).countP p + (withoutKeys q st).countP p := by
  have h := List.countP_eq_countP_filter_add st p (fun d => q d.key)
  simpa [withoutKeys] using h

theorem mem_withoutKeys {q : DemandKey → Bool} {st : List Demand} {d : Demand} :
    d ∈ withoutKeys q st ↔ d ∈ st ∧ q d.key = false := by
  simp [withoutKeys]

theorem placed_perm (st : List Demand) (d : Demand) :
    (placed st d).Perm (d :: withoutKeys (· == d.key) st) := insertDemand_perm ..

theorem countP_placed (p : Demand → Bool) (st : List Demand) (d : Demand) :
    (placed st d).countP p = (withoutKeys (· == d.key) st).countP p + if p d then 1 else 0 := by
  rw [(placed_perm st d).countP_eq, List.countP_cons]

/-- The internal demands of a stack are of the four topics. -/
theorem internal_le {st : List Demand} (h : (st.map (·.key)).Nodup) : st.length - agentCount st ≤ 4 := by
  have hsplit : st.length = agentCount st + (withoutKeys DemandKey.isAgent st).length := by
    have h := countP_split (fun _ => true) DemandKey.isAgent st
    simp only [List.countP_true] at h
    exact h
  have hnodup : ((withoutKeys DemandKey.isAgent st).map (·.key)).Nodup := h.sublist (List.filter_sublist.map _)
  have htopics : ((withoutKeys DemandKey.isAgent st).map (·.key)).length ≤
      [DemandKey.internal .closure, .internal .zone, .internal .cond, .internal .wind].length := by
    refine (List.subperm_of_subset hnodup fun k hk => ?_).length_le
    obtain ⟨d, hd, rfl⟩ := List.mem_map.1 hk
    have hint := (mem_withoutKeys.1 hd).2
    cases hkey : d.key with
    | agent src tag => simp [hkey, DemandKey.isAgent] at hint
    | internal t => cases t <;> simp
  rw [List.length_map] at htopics
  exact Nat.sub_le_of_le_add (by rw [hsplit, Nat.add_comm]; exact Nat.add_le_add_right htopics _)

/-- A stack has room for a demand with the key (R140). -/
def RoomFor (k : DemandKey) (st : List Demand) : Prop :=
  k.isAgent = true → hasKey k st = true ∨ agentCount st < 4

theorem agentCount_withoutKey_lt {k : DemandKey} {st : List Demand} (hk : k.isAgent = true)
    (h : hasKey k st = true) : agentCount (withoutKeys (· == k) st) < agentCount st := by
  obtain ⟨d, hd, hdk⟩ := List.any_eq_true.1 h
  have hpos : 0 < (st.filter fun x => x.key == k).countP fun x => x.key.isAgent :=
    List.countP_pos_iff.2 ⟨d, List.mem_filter.2 ⟨hd, hdk⟩, by rw [beq_iff_eq.1 hdk]; exact hk⟩
  have := countP_split (fun x => x.key.isAgent) (· == k) st
  rw [agentCount_eq, agentCount_eq]
  omega

theorem agentCount_withoutKeys_le (q : DemandKey → Bool) (st : List Demand) :
    agentCount (withoutKeys q st) ≤ agentCount st := by
  rw [agentCount_eq, agentCount_eq]
  exact List.filter_sublist.countP_le

theorem stackOk_withoutKeys {st : List Demand} (q : DemandKey → Bool) (h : StackOk st) :
    StackOk (withoutKeys q st) := by
  obtain ⟨hkeys, hagents, -, horder, hall⟩ := h
  have hkeys' : ((withoutKeys q st).map (·.key)).Nodup := hkeys.sublist (List.filter_sublist.map _)
  exact ⟨hkeys', (agentCount_withoutKeys_le q st).trans hagents, internal_le hkeys', horder.filter _,
    fun d hd => hall d (mem_withoutKeys.1 hd).1⟩

theorem stackOk_placed {st : List Demand} {d : Demand} (h : StackOk st) (hd : d.ok) (hroom : RoomFor d.key st) :
    StackOk (placed st d) := by
  obtain ⟨hkeys, hagents, -, horder, hall⟩ := stackOk_withoutKeys (· == d.key) h
  have hkeys' : ((placed st d).map (·.key)).Nodup := by
    refine ((placed_perm st d).map _).nodup_iff.2 (List.nodup_cons.2 ⟨fun hm => ?_, hkeys⟩)
    obtain ⟨x, hx, hxd⟩ := List.mem_map.1 hm
    exact absurd (mem_withoutKeys.1 hx).2 (by simp [hxd])
  refine ⟨hkeys', ?_, internal_le hkeys', inOrder_insertDemand d horder, fun x hx => ?_⟩
  · have hcount := countP_placed (fun x => x.key.isAgent) st d
    rw [← agentCount_eq, ← agentCount_eq] at hcount
    rw [hcount]
    split
    · next hag =>
      rcases hroom hag with hhas | hlt
      · have := agentCount_withoutKey_lt hag hhas
        have := h.2.1
        omega
      · exact Nat.succ_le_of_lt (Nat.lt_of_le_of_lt (agentCount_withoutKeys_le _ st) hlt)
    · exact hagents
  · rcases List.mem_cons.1 ((placed_perm st d).mem_iff.1 hx) with rfl | hx
    · exact hd
    · exact hall x hx

/-! ## Reference counts (R156) -/

/-- How many demands of a stack name a slot. -/
def namesIn (st : List Demand) (slot : Nat) : Nat := st.countP fun d => d.slot == slot

theorem sum_range_replace {f g : Nat → Nat} (n : Nat) (h : ∀ m, m ≠ n → g m = f m) (k : Nat) :
    ((List.range k).map g).sum + (if n < k then f n else 0) =
      ((List.range k).map f).sum + (if n < k then g n else 0) := by
  induction k with
  | zero => simp
  | succ k ih =>
    simp only [List.range_succ, List.map_append, List.sum_append, List.map_cons, List.map_nil, List.sum_cons,
      List.sum_nil]
    rcases Nat.lt_trichotomy n k with hlt | rfl | hgt
    · have := h k (by omega)
      rw [if_pos hlt, if_pos hlt] at ih
      rw [if_pos (by omega), if_pos (by omega)]
      omega
    · simp only [Nat.lt_irrefl, if_false] at ih
      simp only [Nat.lt_succ_self, if_true]
      omega
    · have := h k (by omega)
      rw [if_neg (by omega), if_neg (by omega)] at ih ⊢
      omega

theorem naming_replace {s t : State} {n : Nat} (hn : n < 24) (h : ∀ m, m ≠ n → t.stack m = s.stack m)
    (slot : Nat) :
    naming t slot + namesIn (s.stack n) slot = naming s slot + namesIn (t.stack n) slot := by
  have := sum_range_replace (f := fun m => namesIn (s.stack m) slot) (g := fun m => namesIn (t.stack m) slot) n
    (fun m hm => congrArg (namesIn · slot) (h m hm)) 24
  rw [if_pos hn, if_pos hn] at this
  exact this

theorem namesIn_le_naming {s : State} {n : Nat} (hn : n < 24) (slot : Nat) :
    namesIn (s.stack n) slot ≤ naming s slot := by
  have hmem : namesIn (s.stack n) slot ∈ (List.range 24).map fun m => (s.stack m).countP fun d => d.slot == slot :=
    List.mem_map.2 ⟨n, List.mem_range.2 hn, rfl⟩
  exact List.le_sum_of_mem hmem

/-- A slot but for its reference count. -/
def UserSlot.content (u : UserSlot) : List Byte × Nat × Bool := (u.text, u.picto, u.defined)

theorem userSlot_ok_of_content {u v : UserSlot} (h : v.content = u.content) (hu : u.ok) : v.ok := by
  simp only [UserSlot.content, Prod.mk.injEq] at h
  obtain ⟨ht, hp, -⟩ := h
  simpa only [UserSlot.ok, ht, hp] using hu

theorem userSlot_setRefs {s : State} (hlen : s.library.slots.length = 32) {slot n : Nat} (hslot : slot < 128)
    (hn : 96 ≤ n) (r : Nat) (h96 : ¬slot < 96) :
    (s.setSlot slot { s.userSlot slot with refs := r }).userSlot n =
      { s.userSlot n with refs := if slot = n then r else (s.userSlot n).refs } := by
  by_cases h : slot = n
  · subst h
    rw [State.setSlot_userSlot_self _ _ _ (by omega), if_pos rfl]
  · rw [State.setSlot_userSlot_ne _ _ _ _ (by omega) hn (Ne.symm h), if_neg h]

theorem joinSlot_userSlot {s : State} (hlen : s.library.slots.length = 32) {slot n : Nat} (hslot : slot < 128)
    (hn : 96 ≤ n) : (joinSlot s slot).userSlot n =
      { s.userSlot n with refs := (s.userSlot n).refs + if slot = n then 1 else 0 } := by
  unfold joinSlot
  split
  · rw [if_neg (by omega), Nat.add_zero]
  · next h96 =>
    rw [userSlot_setRefs hlen hslot hn _ h96]
    split
    · next h => rw [h]
    · rfl

theorem leaveSlot_userSlot {s : State} (hlen : s.library.slots.length = 32) {slot n : Nat} (hslot : slot < 128)
    (hn : 96 ≤ n) : (leaveSlot s slot).userSlot n =
      { s.userSlot n with refs := (s.userSlot n).refs - if slot = n then 1 else 0 } := by
  unfold leaveSlot
  split
  · rw [if_neg (by omega), Nat.sub_zero]
  · next h96 =>
    rw [userSlot_setRefs hlen hslot hn _ h96]
    split
    · next h => rw [h]
    · rfl

theorem leaves_slots_length {l : List Area} {s t : State} (h : Leaves l s t) (hl : Area.tables ∉ l := by decide) :
    t.library.slots.length = s.library.slots.length := by
  have := h.tables hl
  simp only [tableSizes, List.cons.injEq] at this
  tauto

theorem foldl_leaveSlot_userSlot (ds : List Demand) {n : Nat} (hn : 96 ≤ n) :
    ∀ {s : State}, s.library.slots.length = 32 → (∀ d ∈ ds, d.slot < 128) →
      (ds.foldl (fun t x => leaveSlot t x.slot) s).userSlot n =
        { s.userSlot n with refs := (s.userSlot n).refs - namesIn ds n } := by
  induction ds with
  | nil => exact fun _ _ => rfl
  | cons d ds ih =>
    intro s hlen hds
    rw [List.foldl_cons, ih ((leaves_slots_length (leaves_leaveSlot s _)).trans hlen)
      (fun x hx => hds x (List.mem_cons_of_mem _ hx)),
      leaveSlot_userSlot hlen (hds d List.mem_cons_self) hn]
    simp only [namesIn, List.countP_cons, beq_iff_eq, Nat.sub_sub, Nat.add_comm]

/-! ## The three properties together -/

/-- Stacks, reference counts and the library are consistent. -/
def ArbiterSound (s : State) : Prop := StacksOk s ∧ CountsOk s ∧ LibraryOk s

theorem arbiterSound_frame {s t : State} (hd : Area.demands.kept s t) (hl : t.library = s.library)
    (h : ArbiterSound s) : ArbiterSound t := by
  have hst : ∀ n, t.stack n = s.stack n := fun n => by rw [State.stack, hd.1]; rfl
  simpa only [ArbiterSound, StacksOk, CountsOk, LibraryOk, naming, hst, State.userSlot, State.cursor, hl] using h

theorem arbiterSound_of_leaves {l : List Area} {s t : State} (h : Leaves l s t) (hs : ArbiterSound s)
    (hl : Area.demands ∉ l ∧ Area.library ∉ l := by decide) : ArbiterSound t :=
  arbiterSound_frame (h.kept _ hl.1) (h.kept .library hl.2) hs

/-- The stack of one sign is replaced, and the reference counts follow. -/
structure StackReplaced (n : Nat) (st : List Demand) (s t : State) : Prop where
  here : t.stack n = st
  beside : ∀ m, m ≠ n → t.stack m = s.stack m
  slots : ∀ k, 96 ≤ k → k < 128 → (t.userSlot k).content = (s.userSlot k).content ∧
    (t.userSlot k).refs + namesIn (s.stack n) k = (s.userSlot k).refs + namesIn st k
  cursors : ∀ p, t.cursor p = s.cursor p

theorem StackReplaced.sound {n : Nat} {st : List Demand} {s t : State} (h : StackReplaced n st s t) (hn : n < 24)
    (hst : StackOk st) (hs : ArbiterSound s) : ArbiterSound t := by
  obtain ⟨hstacks, hcounts, hslots, hcursors⟩ := hs
  refine ⟨fun m hm => ?_, fun k hk h96 => ?_, fun k hk h96 => ?_, fun p hp => ?_⟩
  · by_cases hmn : m = n
    · rw [hmn, h.here]; exact hst
    · rw [h.beside m hmn]; exact hstacks m hm
  · have hnam := naming_replace hn h.beside k
    have hrefs := (h.slots k h96 hk).2
    rw [h.here] at hnam
    rw [hcounts k hk h96] at hrefs
    omega
  · exact userSlot_ok_of_content (h.slots k h96 hk).1 (hslots k hk h96)
  · rw [h.cursors]; exact hcursors p hp

/-- What follows the change of a stack touches neither stacks nor library. -/
theorem stackReplaced_after {n : Nat} {st : List Demand} {s t u : State} (h : StackReplaced n st s t)
    (hl : Leaves [.notices, .outputs, .field] t u) : StackReplaced n st s u := by
  have hst : ∀ m, u.stack m = t.stack m := fun m => by
    rw [State.stack, (hl.kept .demands (by decide)).1]; rfl
  have hlib : u.library = t.library := hl.kept .library (by decide)
  have hslot : ∀ k, u.userSlot k = t.userSlot k := fun k => by rw [State.userSlot, hlib]; rfl
  have hcur : ∀ p, u.cursor p = t.cursor p := fun p => by rw [State.cursor, hlib]; rfl
  exact ⟨(hst n).trans h.here, fun m hm => (hst m).trans (h.beside m hm),
    fun k h96 hk => by rw [hslot]; exact h.slots k h96 hk, fun p => (hcur p).trans (h.cursors p)⟩

theorem foldl_leaveSlot_cursor (ds : List Demand) (s : State) (p : Nat) :
    (ds.foldl (fun t x => leaveSlot t x.slot) s).cursor p = s.cursor p := by
  induction ds generalizing s with
  | nil => rfl
  | cons d ds ih =>
    rw [List.foldl_cons, ih, leaveSlot]
    split <;> rfl

theorem joinSlot_cursor (s : State) (slot p : Nat) : (joinSlot s slot).cursor p = s.cursor p := by
  unfold joinSlot
  split <;> rfl

theorem stack_of_library {s t : State} (h : Leaves [.library] s t) (m : Nat) : t.stack m = s.stack m := by
  rw [State.stack, (h.kept .demands (by decide)).1]; rfl

/-- The demand as it is placed, with the next arrival serial (R138). -/
def arriving (s : State) (d : Demand) : Demand := { d with arrival := s.arbiter.arrival }

theorem namesIn_placed (st : List Demand) (s : State) (d : Demand) (k : Nat) :
    namesIn (placed st (arriving s d)) k =
      namesIn (withoutKeys (· == d.key) st) k + if d.slot = k then 1 else 0 := by
  have h := countP_placed (fun x => x.slot == k) st (arriving s d)
  simp only [beq_iff_eq] at h
  exact h

theorem namesIn_split (q : DemandKey → Bool) (st : List Demand) (k : Nat) :
    namesIn st k = namesIn (st.filter fun x => q x.key) k + namesIn (withoutKeys q st) k := countP_split ..

theorem placeDemand_replaced {s : State} {n : Nat} {d : Demand} (cause : SignCause) (ht : TablesOk s)
    (hs : ArbiterSound s) (hn : n < 24) (hd : d.slot < 128) :
    StackReplaced n (placed (s.stack n) (arriving s d)) s (placeDemand s n d cause) := by
  have hdem : s.arbiter.demands.length = 24 := ht.2.2.2.2.2.2.2.2.2.2.2.2.1
  have hslots : s.library.slots.length = 32 := ht.2.2.2.2.2.2.2.2.2.2.2.2.2.2.1
  obtain ⟨hstacks, hcounts, -⟩ := hs
  let u := (s.setArrival (s.arbiter.arrival + 1)).setStack n (placed (s.stack n) (arriving s d))
  have hlen : (joinSlot u d.slot).library.slots.length = 32 :=
    (leaves_slots_length (leaves_joinSlot u d.slot)).trans hslots
  have hold : ∀ x ∈ (s.stack n).filter (fun x => x.key == d.key), x.slot < 128 := fun x hx =>
    ((hstacks n hn).2.2.2.2 x (List.mem_filter.1 hx).1).2.1
  have hlib := (leaves_joinSlot u d.slot).trans
    (leaves_foldl_leaveSlot ((s.stack n).filter fun x => x.key == d.key) (joinSlot u d.slot))
  have hrep : StackReplaced n (placed (s.stack n) (arriving s d)) s
      (((s.stack n).filter fun x => x.key == d.key).foldl (fun t x => leaveSlot t x.slot) (joinSlot u d.slot)) := by
    refine ⟨(stack_of_library hlib n).trans (State.setStack_stack_self _ n _ (by simp [hdem, hn])),
      fun m hm => (stack_of_library hlib m).trans (State.setStack_stack_ne _ n m _ hm), fun k h96 hk => ?_,
      fun p => by rw [foldl_leaveSlot_cursor, joinSlot_cursor]; rfl⟩
    rw [foldl_leaveSlot_userSlot _ h96 hlen hold, joinSlot_userSlot (s := u) hslots hd h96]
    refine ⟨rfl, ?_⟩
    have hplaced := namesIn_placed (s.stack n) s d k
    have hsplit := namesIn_split (· == d.key) (s.stack n) k
    have hle := namesIn_le_naming (s := s) hn k
    have hrefs : (u.userSlot k).refs = naming s k := hcounts k hk h96
    dsimp only
    rw [hplaced, hrefs, hcounts k hk h96]
    split <;> omega
  unfold placeDemand
  dsimp only
  split
  · exact stackReplaced_after hrep (leaves_winnerChange _ n cause)
  · exact hrep

theorem removeDemands_replaced {s : State} {n : Nat} (q : DemandKey → Bool) (cause : SignCause) (ht : TablesOk s)
    (hs : ArbiterSound s) (hn : n < 24) :
    StackReplaced n (withoutKeys q (s.stack n)) s (removeDemands s n q cause) := by
  have hdem : s.arbiter.demands.length = 24 := ht.2.2.2.2.2.2.2.2.2.2.2.2.1
  have hslots : s.library.slots.length = 32 := ht.2.2.2.2.2.2.2.2.2.2.2.2.2.2.1
  obtain ⟨hstacks, hcounts, -⟩ := hs
  let u := s.setStack n (withoutKeys q (s.stack n))
  have hold : ∀ x ∈ (s.stack n).filter (fun x => q x.key), x.slot < 128 := fun x hx =>
    ((hstacks n hn).2.2.2.2 x (List.mem_filter.1 hx).1).2.1
  have hlib := leaves_foldl_leaveSlot ((s.stack n).filter fun x => q x.key) u
  have hrep : StackReplaced n (withoutKeys q (s.stack n)) s
      (((s.stack n).filter fun x => q x.key).foldl (fun t x => leaveSlot t x.slot) u) := by
    refine ⟨(stack_of_library hlib n).trans (State.setStack_stack_self _ n _ (by simp [hdem, hn])),
      fun m hm => (stack_of_library hlib m).trans (State.setStack_stack_ne _ n m _ hm), fun k h96 hk => ?_,
      fun p => by rw [foldl_leaveSlot_cursor]; rfl⟩
    rw [foldl_leaveSlot_userSlot _ h96 (s := u) hslots hold]
    refine ⟨rfl, ?_⟩
    have hsplit := namesIn_split q (s.stack n) k
    have hle := namesIn_le_naming (s := s) hn k
    have hrefs : (u.userSlot k).refs = naming s k := hcounts k hk h96
    dsimp only
    rw [hrefs, hcounts k hk h96]
    omega
  unfold removeDemands
  dsimp only
  split
  · exact hrep
  · exact stackReplaced_after hrep (leaves_winnerChange _ n cause)

theorem placeDemand_sound {s : State} {n : Nat} {d : Demand} (cause : SignCause) (ht : TablesOk s)
    (hs : ArbiterSound s) (hn : n < 24) (hd : d.ok) (hroom : RoomFor d.key (s.stack n)) :
    ArbiterSound (placeDemand s n d cause) :=
  (placeDemand_replaced cause ht hs hn hd.2.1).sound hn
    (stackOk_placed (d := arriving s d) (hs.1 n hn) hd hroom) hs

theorem removeDemands_sound {s : State} {n : Nat} (q : DemandKey → Bool) (cause : SignCause) (ht : TablesOk s)
    (hn : n < 24) (hs : ArbiterSound s) : ArbiterSound (removeDemands s n q cause) :=
  (removeDemands_replaced q cause ht hs hn).sound hn (stackOk_withoutKeys q (hs.1 n hn)) hs

/-! ## Agent commands -/

theorem foldl_placeDemand_sound {d : Demand} (cause : SignCause) (hd : d.ok) (signs : List Nat) :
    ∀ {s : State}, TablesOk s → ArbiterSound s → signs.Nodup → (∀ n ∈ signs, n < 24) →
      (∀ n ∈ signs, RoomFor d.key (s.stack n)) →
      ArbiterSound (signs.foldl (fun t n => placeDemand t n d cause) s) := by
  induction signs with
  | nil => exact fun _ hs _ _ _ => hs
  | cons n signs ih =>
    intro s ht hs hnodup hlt hroom
    obtain ⟨hnot, hnodup⟩ := List.nodup_cons.1 hnodup
    have hn := hlt n List.mem_cons_self
    have hrep := placeDemand_replaced cause ht hs hn hd.2.1
    refine ih ((leaves_placeDemand s n d cause).tablesOk ht)
      (placeDemand_sound cause ht hs hn hd (hroom n List.mem_cons_self)) hnodup
      (fun m hm => hlt m (List.mem_cons_of_mem _ hm)) fun m hm => ?_
    rw [hrep.beside m (fun h => hnot (h ▸ hm))]
    exact hroom m (List.mem_cons_of_mem _ hm)

theorem foldl_removeDemands_sound (q : DemandKey → Bool) (cause : SignCause) (signs : List Nat) {s : State}
    (ht : TablesOk s) (hs : ArbiterSound s) (hlt : ∀ n ∈ signs, n < 24) :
    ArbiterSound (signs.foldl (fun t n => removeDemands t n q cause) s) :=
  (List.foldlRecOn signs _ (motive := fun t => TablesOk t ∧ ArbiterSound t) ⟨ht, hs⟩ fun _ h n hn =>
    ⟨(leaves_removeDemands _ n q cause).tablesOk h.1, removeDemands_sound q cause h.1 (hlt n hn) h.2⟩).2

theorem spanSigns_nodup (first count : Nat) : (spanSigns first count).Nodup :=
  List.nodup_range.map fun _ _ h => Nat.add_left_cancel h

theorem spanSigns_lt {first count : Nat} (h : spanOk first count = true) : ∀ n ∈ spanSigns first count, n < 24 := by
  simp only [spanOk, Bool.and_eq_true, decide_eq_true_eq] at h
  simp only [spanSigns, List.mem_map, List.mem_range]
  rintro n ⟨i, hi, rfl⟩
  omega

theorem argsPost_some {s : State} {l : List Byte} {a : PostArgs} (h : argsPost s l = some a) :
    spanOk a.first a.count = true ∧ tagOk a.tag = true ∧ postable s a.slot = true ∧ a.severity ≤ 7 := by
  unfold argsPost at h
  split at h
  · split at h
    · next hok =>
      split at h
      · cases h
        simpa only [Bool.and_eq_true, decide_eq_true_eq, and_assoc] using hok
      · cases h
    · cases h
  · cases h

theorem argsWithdraw_some {l : List Byte} {a : Nat × Nat × Nat} (h : argsWithdraw l = some a) :
    spanOk a.1 a.2.1 = true ∧ tagOk a.2.2 = true := by
  unfold argsWithdraw at h
  split at h
  · split at h
    · next hok => cases h; simpa only [Bool.and_eq_true] using hok
    · cases h
  · cases h

theorem postDemand_ok {s : State} {src : AgentSource} {a : PostArgs} (hslot : postable s a.slot = true)
    (hsev : a.severity ≤ 7) : (postDemand src a).ok := by
  refine ⟨(Nat.min_le_left _ _).trans hsev, ?_, fun h => absurd h (by simp [postDemand, DemandKey.isAgent])⟩
  simp only [postable, Bool.or_eq_true, Bool.and_eq_true, decide_eq_true_eq] at hslot
  show a.slot < 128
  omega

theorem postFull_false {s : State} {k : DemandKey} {signs : List Nat} (h : ¬postFull s k signs = true) :
    ∀ n ∈ signs, RoomFor k (s.stack n) := by
  simp only [postFull, List.any_eq_true, Bool.and_eq_true, Bool.not_eq_true', decide_eq_true_eq, not_exists,
    not_and] at h
  intro n hn _
  cases hk : hasKey k (s.stack n) with
  | true => exact .inl rfl
  | false => exact .inr (Nat.lt_of_not_le (h n hn hk))

theorem runPost_sound {s : State} {p : Nat} {l : List Byte} {a : PostArgs} (ht : TablesOk s)
    (hs : ArbiterSound s) (ha : argsPost s l = some a) : ArbiterSound (runPost s p a).state := by
  obtain ⟨hspan, -, hslot, hsev⟩ := argsPost_some ha
  unfold runPost
  dsimp only
  split
  · exact hs
  · next hfull =>
    exact foldl_placeDemand_sound (d := postDemand (agentOf s p) a) .post (postDemand_ok hslot hsev)
      (spanSigns a.first a.count) ht hs (spanSigns_nodup ..) (spanSigns_lt hspan) (postFull_false hfull)

theorem removeSource_sound {s : State} (src : AgentSource) (cause : SignCause) (ht : TablesOk s)
    (hs : ArbiterSound s) : ArbiterSound (removeSource s src cause) := by
  unfold removeSource
  exact foldl_removeDemands_sound (DemandKey.ofSource src) cause (List.range 24) ht hs fun n hn =>
    List.mem_range.1 hn

theorem runWithdrawAll_sound {s : State} (p : Nat) (x : Unit) (ht : TablesOk s) (hs : ArbiterSound s) :
    ArbiterSound (runWithdrawAll s p x).state := by
  unfold runWithdrawAll
  dsimp only
  exact removeSource_sound (agentOf s p) .withdraw ht hs

/-! ## The library (R156–R160) -/

theorem userSlotOk_iff {n : Nat} : userSlotOk n = true ↔ 96 ≤ n ∧ n < 128 := by
  simp only [userSlotOk, within, Bool.and_eq_true, decide_eq_true_eq]
  omega

theorem setCursor_cursor {s : State} {p : Nat} (hp : p < s.library.cursors.length) (c : Cursor) (q : Nat) :
    (s.setCursor p c).cursor q = if q = p then c else s.cursor q := by
  split
  · next h => rw [h, State.setCursor_cursor_self _ _ _ hp]
  · next h => exact State.setCursor_cursor_ne _ _ _ _ h

theorem setCursor_sound {s : State} {p : Nat} {c : Cursor} (hp : p < 4) (hlen : s.library.cursors.length = 4)
    (hc : c.ok) (hs : ArbiterSound s) : ArbiterSound (s.setCursor p c) := by
  obtain ⟨hstacks, hcounts, hslots, hcursors⟩ := hs
  refine ⟨hstacks, hcounts, hslots, fun q hq => ?_⟩
  rw [setCursor_cursor (by omega)]
  split
  · exact hc
  · exact hcursors q hq

theorem setSlot_sound {s : State} {n : Nat} {u : UserSlot} (hlen : s.library.slots.length = 32)
    (hn : userSlotOk n = true) (hrefs : u.refs = (s.userSlot n).refs) (hu : u.ok) (hs : ArbiterSound s) :
    ArbiterSound (s.setSlot n u) := by
  obtain ⟨hstacks, hcounts, hslots, hcursors⟩ := hs
  obtain ⟨h96, h128⟩ := userSlotOk_iff.1 hn
  have hself := State.setSlot_userSlot_self s n u (by omega)
  refine ⟨hstacks, fun k hk hk96 => ?_, fun k hk hk96 => ?_, hcursors⟩
  · by_cases hkn : k = n
    · rw [hkn, hself, hrefs]; exact hcounts n h128 h96
    · rw [State.setSlot_userSlot_ne s n k u h96 hk96 hkn]; exact hcounts k hk hk96
  · by_cases hkn : k = n
    · rw [hkn, hself]; exact hu
    · rw [State.setSlot_userSlot_ne s n k u h96 hk96 hkn]; exact hslots k hk hk96

theorem argsCursor_some {l : List Byte} {a : CursorArgs} (h : argsCursor l = some a) :
    userSlotOk a.slot = true ∧ a.line < 3 ∧ a.column < 20 ∧ ∀ n ∈ a.picto.toList, n < 64 := by
  unfold argsCursor at h
  split at h
  · split at h
    · next hok =>
      cases h
      simp only [Bool.and_eq_true, decide_eq_true_eq] at hok
      obtain ⟨⟨⟨hsl, hln⟩, hcol⟩, -⟩ := hok
      exact ⟨hsl, hln, hcol, by simp⟩
    · cases h
  · split at h
    · next hok =>
      cases h
      simp only [Bool.and_eq_true, decide_eq_true_eq] at hok
      obtain ⟨⟨⟨⟨hsl, hln⟩, hcol⟩, -⟩, hpc⟩ := hok
      exact ⟨hsl, hln, hcol, by simpa using hpc⟩
    · cases h
  · cases h

theorem runCursor_sound {s : State} {p : Nat} {l : List Byte} {a : CursorArgs} (hp : p < 4) (ht : TablesOk s)
    (hs : ArbiterSound s) (ha : argsCursor l = some a) : ArbiterSound (runCursor s p a).state := by
  obtain ⟨hslot, hline, hcol, hpic⟩ := argsCursor_some ha
  have hslots : s.library.slots.length = 32 := ht.2.2.2.2.2.2.2.2.2.2.2.2.2.2.1
  have hcurs : s.library.cursors.length = 4 := ht.2.2.2.2.2.2.2.2.2.2.2.2.2.2.2.1
  obtain ⟨h96, h128⟩ := userSlotOk_iff.1 hslot
  have hc : Cursor.ok { slot := some a.slot, line := a.line, column := a.column, locked := false } :=
    ⟨by simpa using hslot, hline, hcol, fun h => Bool.noConfusion h⟩
  unfold runCursor
  split
  · exact hs
  · dsimp only
    cases hpa : a.picto with
    | none => exact setCursor_sound hp hcurs hc hs
    | some n =>
      obtain ⟨htext, hset, -⟩ := hs.2.2.1 a.slot h128 h96
      exact setCursor_sound (s := s.setSlot a.slot { s.userSlot a.slot with picto := n }) hp hcurs hc
        (setSlot_sound (u := { s.userSlot a.slot with picto := n }) hslots hslot rfl
          ⟨htext, hset, hpic n (by simp [hpa])⟩ hs)

theorem storedChar_set (b : Byte) : within (storedChar b).toNat 0x20 0x5F = true := by
  unfold storedChar
  split
  · assumption
  · decide

theorem advance_ok {c : Cursor} (h : c.ok) : (advance c).ok := by
  obtain ⟨hslot, hline, hcol, hlock⟩ := h
  unfold advance
  split
  · next hlt =>
    exact ⟨hslot, hline, by dsimp only; omega, fun hl => by have := (hlock hl).2; dsimp only; omega⟩
  · split
    · next hlt => exact ⟨hslot, by dsimp only; omega, by dsimp only; omega,
        fun hl => by have := (hlock hl).1; dsimp only; omega⟩
    · exact ⟨hslot, hline, hcol, fun _ => by dsimp only; omega⟩

theorem storeText_ok (bs : List Byte) : ∀ {text : List Byte} {c : Cursor} {k : Nat}, text.length = 60 →
    (∀ b ∈ text, within b.toNat 0x20 0x5F = true) → c.ok →
    (storeText bs (text, c, k)).1.length = 60 ∧
      (∀ b ∈ (storeText bs (text, c, k)).1, within b.toNat 0x20 0x5F = true) ∧
      (storeText bs (text, c, k)).2.1.ok := by
  induction bs with
  | nil => exact fun hlen hset hc => ⟨hlen, hset, hc⟩
  | cons b bs ih =>
    intro text c k hlen hset hc
    unfold storeText
    split
    · exact ⟨hlen, hset, hc⟩
    · refine ih (by simpa using hlen) (fun x hx => ?_) (advance_ok hc)
      rcases List.mem_or_eq_of_mem_set hx with hx | rfl
      · exact hset x hx
      · exact storedChar_set b

theorem runWriteText_sound {s : State} {p : Nat} (chars : List Byte) (hp : p < 4) (ht : TablesOk s)
    (hs : ArbiterSound s) : ArbiterSound (runWriteText s p chars).state := by
  have hslots : s.library.slots.length = 32 := ht.2.2.2.2.2.2.2.2.2.2.2.2.2.2.1
  have hcurs : s.library.cursors.length = 4 := ht.2.2.2.2.2.2.2.2.2.2.2.2.2.2.2.1
  have hcur := hs.2.2.2 p hp
  unfold runWriteText
  split
  · exact hs
  · next n hn =>
    split
    · exact hs
    · have hslot : userSlotOk n = true := hcur.1 n (by simp [hn])
      obtain ⟨h96, h128⟩ := userSlotOk_iff.1 hslot
      obtain ⟨htext, hset, hpic⟩ := hs.2.2.1 n h128 h96
      obtain ⟨htext', hset', hc'⟩ := storeText_ok chars (k := 0) htext hset hcur
      exact setCursor_sound (s := s.setSlot n _) hp hcurs hc'
        (setSlot_sound hslots hslot rfl ⟨htext', hset', hpic⟩ hs)

theorem runLibraryClear_sound {s : State} {p n : Nat} (hn : userSlotOk n = true) (ht : TablesOk s)
    (hs : ArbiterSound s) : ArbiterSound (runLibraryClear s p n).state := by
  have hslots : s.library.slots.length = 32 := ht.2.2.2.2.2.2.2.2.2.2.2.2.2.2.1
  unfold runLibraryClear
  split
  · exact hs
  · refine setSlot_sound hslots hn rfl ⟨List.length_replicate, fun b hb => ?_, Nat.zero_lt_succ _⟩ hs
    rw [List.eq_of_mem_replicate hb]
    decide

theorem Admitted.port_lt {s : State} {p : Nat} {k : CmdKind} (h : Admitted s p k) (hk : k ≠ .status)
    (ht : TablesOk s) : p < 4 := by
  obtain ⟨src, hsrc⟩ := h.bound hk
  obtain ⟨b, hb, -⟩ := sourceOf_eq_some hsrc
  exact (imagePort_bounds ht.1 hb).1

theorem run_arbiterSound {k : CmdKind} {s : State} {p : Nat} {x : (commandOf k).1} {body : List Byte}
    (hk : Area.demands ∈ kindAreas k ∨ Area.library ∈ kindAreas k) (htk : Taken (commandOf k).2 s p x body)
    (ht : TablesOk (popFrame s p)) (hs : ArbiterSound (popFrame s p)) :
    ArbiterSound ((commandOf k).2.run (popFrame s p) p x).state := by
  have hargs := checkedArgs_parse htk.args
  cases k with
  | post => exact runPost_sound ht hs hargs
  | withdraw => exact foldl_removeDemands_sound _ _ _ ht hs (spanSigns_lt (argsWithdraw_some hargs).1)
  | withdrawAll => exact runWithdrawAll_sound p x ht hs
  | cursor => exact runCursor_sound (Admitted.port_lt htk.admitted (by decide) ht) ht hs hargs
  | writeText => exact runWriteText_sound x (Admitted.port_lt htk.admitted (by decide) ht) ht hs
  | libraryClear => exact runLibraryClear_sound (p := p) (argsIndex_ok hargs) ht hs
  | _ => exact absurd hk (by decide)

/-! ## Events -/

theorem secondBoundary_stack (s : State) (n : Nat) : (secondBoundary s).stack n =
    (s.stack n).map fun d => { d with expiry := tick d.expiry } :=
  getD_map_default _ _ _ _ _ rfl

theorem stackOk_ticked {st : List Demand} (h : StackOk st) :
    StackOk (st.map fun d => { d with expiry := tick d.expiry }) := by
  obtain ⟨hkeys, hagents, -, horder, hall⟩ := h
  have hkeys' : ((st.map fun d => { d with expiry := tick d.expiry }).map (·.key)).Nodup := by
    rw [List.map_map]; exact hkeys
  refine ⟨hkeys', ?_, internal_le hkeys', List.pairwise_map.2 horder, fun d hd => ?_⟩
  · rw [agentCount_eq] at hagents ⊢
    rw [List.countP_map]
    exact hagents
  · obtain ⟨x, hx, rfl⟩ := List.mem_map.1 hd
    obtain ⟨hsev, hslot, hint⟩ := hall x hx
    refine ⟨hsev, hslot, fun h => ⟨(hint h).1, ?_⟩⟩
    show tick x.expiry = none
    rw [(hint h).2]
    rfl

theorem secondBoundary_arbiterSound {s : State} (hs : ArbiterSound s) : ArbiterSound (secondBoundary s) := by
  obtain ⟨hstacks, hcounts, hlib⟩ := hs
  refine ⟨fun n hn => ?_, fun k hk h96 => ?_, hlib⟩
  · rw [secondBoundary_stack]; exact stackOk_ticked (hstacks n hn)
  · rw [naming]
    simp only [secondBoundary_stack, List.countP_map]
    exact hcounts k hk h96

theorem contentOk_some {c : DemandContent} (h : contentOk (some c) = true) : c.slot < 96 ∧ c.severity < 8 := by
  simpa only [contentOk, DemandContent.ok, Bool.and_eq_true, decide_eq_true_eq] using h

theorem internalDemand_ok (t : Topic) {c : DemandContent} (h : contentOk (some c) = true) :
    (internalDemand t c).ok := by
  obtain ⟨hslot, hsev⟩ := contentOk_some h
  exact ⟨Nat.le_of_lt_succ hsev, show c.slot < 128 by omega, fun _ => ⟨hslot, rfl⟩⟩

theorem deliverDemand_sound {s : State} {n : Nat} (t : Topic) {c : Option DemandContent} (ht : TablesOk s)
    (hs : ArbiterSound s) (hn : n < 24) (hc : contentOk c = true) : ArbiterSound (deliverDemand s n t c) := by
  cases c with
  | none => exact removeDemands_sound _ _ ht hn hs
  | some c => exact placeDemand_sound _ ht hs hn (internalDemand_ok t hc) fun h => Bool.noConfusion h

theorem taking_arbiterSound {s : State} (c : Instr) (hs : ArbiterSound s) : ArbiterSound (s.taking c) :=
  arbiterSound_of_leaves (leaves_taking s c) hs

theorem event_arbiterSound {c : Instr} {s t : State} (ht : TablesOk s) (hs : ArbiterSound s)
    (hl : Area.demands ∈ eventAreas c ∨ Area.library ∈ eventAreas c) (h : exec c s = .next t) :
    ArbiterSound t := by
  cases c
  case secondBoundary => cases h; exact secondBoundary_arbiterSound hs
  case linkLossRemoval src =>
    rw [← Host.Outcome.next.inj h]
    exact removeSource_sound src .linkLoss ((leaves_taking s _).tablesOk ht) (taking_arbiterSound _ hs)
  case internalDelivery n t c =>
    obtain ⟨hok, rfl⟩ := onObject_next h
    simp only [Bool.and_eq_true, signOk, decide_eq_true_eq] at hok
    exact deliverDemand_sound t ((leaves_taking s _).tablesOk ht) (taking_arbiterSound _ hs) hok.1 hok.2
  case demandExpiry n src tag =>
    obtain ⟨hok, rfl⟩ := onObject_next h
    simp only [Bool.and_eq_true, signOk, decide_eq_true_eq] at hok
    split
    · exact removeDemands_sound _ _ ht hok.1 hs
    · exact hs
  all_goals simp [eventAreas, segAreas, gateAreas, zoneAreas, weatherAreas, signAreas,
    stationAreas, answerAreas, quiesceAreas] at hl

theorem exec_arbiterSound {c : Instr} {s t : State} (hc : c ≠ .startUp) (ht : TablesOk s)
    (hs : ArbiterSound s) (h : exec c s = .next t) : ArbiterSound t :=
  exec_keeps [.demands, .library]
    (fun _ _ hk _ => arbiterSound_frame (hk .demands (by simp)) (hk .library (by simp)))
    (fun _ _ _ _ _ hk => run_arbiterSound (by simpa using hk))
    (fun _ _ _ _ _ hk ht hs h => event_arbiterSound ht hs (by simpa using hk) h) hc ht hs h

theorem imageAccepted_closureSlots {img : Image} (h : imageAccepted img = true) :
    img.closingSlot < 96 ∧ img.closedSlot < 96 ∧ img.openingSlot < 96 := by
  simp only [imageAccepted, storedOk, Bool.and_eq_true, List.all_cons, List.all_nil, decide_eq_true_eq,
    and_true] at h
  tauto

theorem closureContent_bounds {img : Image} (ha : imageAccepted img = true) {st : SegState} {c : DemandContent}
    (h : closureContent img st = some c) : c.slot < 96 ∧ c.severity ≤ 7 := by
  obtain ⟨hclosing, hclosed, hopening⟩ := imageAccepted_closureSlots ha
  cases st <;> cases h <;> exact ⟨by assumption, Nat.le_refl 7⟩

theorem startStack_ok {img : Image} (ha : imageAccepted img = true) (n : Nat) : StackOk (startStack img n) ∧
    ∀ d ∈ startStack img n, d.slot < 96 := by
  unfold startStack
  split
  · exact ⟨⟨List.nodup_nil, Nat.zero_le _, Nat.zero_le _, List.Pairwise.nil, fun _ h => absurd h List.not_mem_nil⟩,
      fun _ h => absurd h List.not_mem_nil⟩
  · next c hc =>
    obtain ⟨hslot, hsev⟩ := closureContent_bounds ha hc
    refine ⟨⟨List.nodup_singleton _, Nat.zero_le _, internal_le (List.nodup_singleton _),
      List.pairwise_singleton .., fun d hd => ?_⟩, fun d hd => ?_⟩
    · rw [List.mem_singleton.1 hd]
      exact ⟨hsev, show c.slot < 128 by omega, fun _ => ⟨hslot, rfl⟩⟩
    · rw [List.mem_singleton.1 hd]; exact hslot

theorem boot_stack {n : Nat} (hn : n < 24) (l : Loader) (key : Bool) (contacts : List Bool)
    (pending : List Instr) : (boot l key contacts pending).stack n = startStack l.image n := by
  show ((List.range 24).map (startStack l.image)).getD n [] = _
  simp [List.getD, hn]

theorem boot_userSlot {n : Nat} (h96 : 96 ≤ n) (hn : n < 128) (l : Loader) (key : Bool) (contacts : List Bool)
    (pending : List Instr) : (boot l key contacts pending).userSlot n = UserSlot.reset := by
  show (List.replicate 32 UserSlot.reset).getD (n - 96) default = _
  rw [List.getD_replicate _ (by omega)]

theorem boot_cursor {p : Nat} (hp : p < 4) (l : Loader) (key : Bool) (contacts : List Bool)
    (pending : List Instr) : (boot l key contacts pending).cursor p = Cursor.reset := by
  show (List.replicate 4 Cursor.reset).getD p default = _
  rw [List.getD_replicate _ hp]

theorem naming_eq_zero {s : State} {k : Nat} (h : ∀ n < 24, ∀ d ∈ s.stack n, d.slot ≠ k) : naming s k = 0 := by
  refine List.sum_eq_zero fun x hx => ?_
  obtain ⟨n, hn, rfl⟩ := List.mem_map.1 hx
  exact List.countP_eq_zero.2 fun d hd => by simpa using h n (List.mem_range.1 hn) d hd

theorem userSlot_reset_ok : UserSlot.reset.ok := by
  refine ⟨List.length_replicate, fun b hb => ?_, Nat.zero_lt_succ _⟩
  rw [List.eq_of_mem_replicate hb]
  decide

theorem cursor_reset_ok : Cursor.reset.ok :=
  ⟨fun _ h => absurd h (by simp [Cursor.reset]), Nat.zero_lt_succ _, Nat.zero_lt_succ _, fun h => Bool.noConfusion h⟩

theorem boot_arbiterSound {l : Loader} (ha : imageAccepted l.image = true) (key : Bool) (contacts : List Bool)
    (pending : List Instr) : ArbiterSound (boot l key contacts pending) := by
  refine ⟨fun n hn => ?_, fun k hk h96 => ?_, fun k hk h96 => ?_, fun p hp => ?_⟩
  · rw [boot_stack hn]; exact (startStack_ok ha n).1
  · have hzero : naming (boot l key contacts pending) k = 0 := naming_eq_zero fun n hn d hd => by
      rw [boot_stack hn] at hd
      have := (startStack_ok ha n).2 d hd
      omega
    exact (congrArg UserSlot.refs (boot_userSlot h96 hk l key contacts pending)).trans hzero.symm
  · rw [boot_userSlot h96 hk]; exact userSlot_reset_ok
  · rw [boot_cursor hp]; exact cursor_reset_ok

theorem startUp_arbiterSound {s t : State} (h : exec .startUp s = .next t) : ArbiterSound t := by
  have hacc : imageAccepted (reload s.loader).image = true := loadImage_accepted ..
  rw [exec_startUp] at h
  rw [← Host.Outcome.next.inj h]
  exact boot_arbiterSound hacc _ _ _

end Sys2Proof.Machine

namespace Sys2Proof

set_option Elab.async false

open Sys2Proof.Machine

/-- Settles O57: a placement replaces one stack by the same demands with the new one in its place, a removal by some
of them, and the reference counts follow the demands that name a slot; the library commands act on a slot no
demand names and keep its count. -/
theorem stepsKeepStacksAndCounts : Obligations.StepsKeepStacksAndCounts := fun _ _ ht hst hct hlb h =>
  (step_keeps (P := fun u => TablesOk u ∧ ArbiterSound u) (fun _ => id)
    (fun _ _ _ h => ⟨startUp_tablesOk h, startUp_arbiterSound h⟩)
    (fun _ _ _ hc hu h => ⟨(exec_tables hc h hu.1).1, exec_arbiterSound hc hu.1 hu.2 h⟩) h ⟨ht, hst, hct, hlb⟩).2

end Sys2Proof

/-! PROOF. The placement table (R7–R13): the target of every sign after a departure, an entry and REMAP, and that
the table stays consistent. -/

namespace Sys2Proof.Machine

set_option Elab.async false

open Sys2Proof

/-! ## Tables -/

/-- A table of the part's size. -/
def Placement.Sized (t : Placement) : Prop :=
  t.primaries.length = 24 ∧ t.targets.length = 24 ∧ t.up.length = 32

theorem Placement.Sized.next {t u : Placement} (ht : t.Sized) (h : t.sized u) : u.Sized :=
  ⟨h.1.trans ht.1, h.2.1.trans ht.2.1, h.2.2.trans ht.2.2⟩

theorem placement_sized {s : State} (ht : TablesOk s) : s.placement.Sized := by
  obtain ⟨-, -, -, -, -, -, -, -, -, -, -, -, -, -, -, -, hp, htg, hup, -⟩ := ht
  exact ⟨hp, htg, hup⟩

/-- One sign of a table: its target is ACTIVE and one of its two stations, and an ACTIVE primary is it (R8). -/
def SignOk (img : Image) (t : Placement) (n : Nat) : Prop :=
  (∀ x, targetIn t n = some x → upIn t x = true ∧
    (primaryIn t n = some x ∨ (imageSign img n).standby = some x)) ∧
  ∀ x, primaryIn t n = some x → upIn t x = true → targetIn t n = some x

/-- No station is given to two signs. -/
def GivenOnce (f : Nat → Option Nat) : Prop := ∀ n < 24, ∀ m < 24, ∀ x, f n = some x → f m = some x → n = m

/-- A consistent table, as `PlacementOk` says it. -/
def TableOk (img : Image) (t : Placement) : Prop :=
  GivenOnce (targetIn t) ∧ GivenOnce (primaryIn t) ∧ ∀ n < 24, SignOk img t n

theorem givenOnce_iff (f : Nat → Option Nat) :
    (∀ n < 24, ∀ m < n, f m = f n → f n = none) ↔ GivenOnce f := by
  refine ⟨fun h n hn m hm x hnx hmx => ?_, fun h n hn m hm heq => ?_⟩
  · rcases Nat.lt_trichotomy n m with hlt | heq | hgt
    · exact absurd (h m hm n hlt (hnx.trans hmx.symm)) (by simp [hmx])
    · exact heq
    · exact absurd (h n hn m hgt (hmx.trans hnx.symm)) (by simp [hnx])
  · cases hfn : f n with
    | none => rfl
    | some x => exact absurd (h n hn m (by omega) x hfn (heq.trans hfn)) (by omega)

theorem placementOk_iff (s : State) : PlacementOk s ↔ TableOk s.image s.placement := by
  have htgt := givenOnce_iff (targetIn s.placement)
  have hprim := givenOnce_iff (primaryIn s.placement)
  have hsigns : ((∀ n < 24, ∀ x ∈ (targetIn s.placement n).toList, upIn s.placement x = true ∧
      (primaryIn s.placement n = some x ∨ (imageSign s.image n).standby = some x)) ∧
      ∀ n < 24, ∀ x ∈ (primaryIn s.placement n).toList, upIn s.placement x = true →
        targetIn s.placement n = some x) ↔ ∀ n < 24, SignOk s.image s.placement n := by
    simp only [SignOk, Option.mem_toList]
    exact ⟨fun h n hn => ⟨h.1 n hn, h.2 n hn⟩, fun h => ⟨fun n hn => (h n hn).1, fun n hn => (h n hn).2⟩⟩
  unfold TableOk
  rw [← htgt, ← hprim, ← hsigns]
  rfl

/-! ## Reading a table after a write -/

theorem targetIn_setTarget {t : Placement} (ht : t.Sized) {n : Nat} (hn : n < 24) (v : Option Nat) (m : Nat) :
    targetIn (setTarget t n v) m = if m = n then v else targetIn t m := by
  split
  · next h => rw [h]; exact getD_set_self _ _ _ _ (by rw [ht.2.1]; exact hn)
  · next h => exact getD_set_ne _ _ _ _ _ h

theorem primaryIn_setTarget (t : Placement) (n : Nat) (v : Option Nat) (m : Nat) :
    primaryIn (setTarget t n v) m = primaryIn t m := rfl

theorem upIn_setTarget (t : Placement) (n : Nat) (v : Option Nat) (x : Nat) :
    upIn (setTarget t n v) x = upIn t x := rfl

/-- The table with a station told ACTIVE or not. -/
def setUp (t : Placement) (x : Nat) (b : Bool) : Placement := { t with up := t.up.set x b }

theorem upIn_setUp {t : Placement} (ht : t.Sized) {x : Nat} (hx : x < 32) (b : Bool) (y : Nat) :
    upIn (setUp t x b) y = if y = x then b else upIn t y := by
  split
  · next h => rw [h]; exact getD_set_self _ _ _ _ (by rw [ht.2.2]; exact hx)
  · next h => exact getD_set_ne _ _ _ _ _ h

/-- The table with a new primary of a sign. -/
def setPrimary (t : Placement) (n : Nat) (v : Option Nat) : Placement := { t with primaries := t.primaries.set n v }

theorem primaryIn_setPrimary {t : Placement} (ht : t.Sized) {n : Nat} (hn : n < 24) (v : Option Nat) (m : Nat) :
    primaryIn (setPrimary t n v) m = if m = n then v else primaryIn t m := by
  split
  · next h => rw [h]; exact getD_set_self _ _ _ _ (by rw [ht.1]; exact hn)
  · next h => exact getD_set_ne _ _ _ _ _ h

theorem setUp_sized {t : Placement} (ht : t.Sized) (x : Nat) (b : Bool) : (setUp t x b).Sized :=
  ⟨ht.1, ht.2.1, List.length_set.trans ht.2.2⟩

theorem setPrimary_sized {t : Placement} (ht : t.Sized) (n : Nat) (v : Option Nat) : (setPrimary t n v).Sized :=
  ⟨List.length_set.trans ht.1, ht.2.1, ht.2.2⟩

theorem setTarget_sized {t : Placement} (ht : t.Sized) (n : Nat) (v : Option Nat) : (setTarget t n v).Sized :=
  ht.next (sized_setTarget t n v)

/-! ## The choice of R8 -/

theorem freeFor_iff {t : Placement} {n x : Nat} :
    freeFor t n x = true ↔ ∀ m < 24, m ≠ n → targetIn t m ≠ some x := by
  simp only [freeFor, List.all_eq_true, List.mem_range, Bool.or_eq_true, beq_iff_eq, bne_iff_ne]
  exact ⟨fun h m hm hne => (h m hm).resolve_left hne, fun h m hm => or_iff_not_imp_left.2 (h m hm)⟩

theorem unused_iff {t : Placement} {x : Nat} : unused t x = true ↔ ∀ m < 24, targetIn t m ≠ some x := by
  simp [unused]

theorem standbyFor_eq_some {img : Image} {t : Placement} {n y : Nat} : standbyFor img t n = some y ↔
    (imageSign img n).standby = some y ∧ upIn t y = true ∧ freeFor t n y = true := by
  unfold standbyFor
  cases h : (imageSign img n).standby with
  | none => simp
  | some z =>
    dsimp only
    split
    · next hok =>
      simp only [Bool.and_eq_true] at hok
      exact ⟨fun hz => by cases hz; exact ⟨rfl, hok⟩, fun hz => hz.1⟩
    · next hno =>
      refine ⟨fun hz => absurd hz (by simp), fun ⟨hz, hok⟩ => ?_⟩
      cases hz
      simp [hok] at hno

theorem standbyFor_congr {img : Image} {t u : Placement} {n : Nat}
    (h : ∀ y, (imageSign img n).standby = some y → upIn u y = upIn t y ∧ freeFor u n y = freeFor t n y) :
    standbyFor img u n = standbyFor img t n := by
  refine Option.ext fun y => ?_
  rw [standbyFor_eq_some, standbyFor_eq_some]
  refine and_congr_right fun hy => ?_
  rw [(h y hy).1, (h y hy).2]

theorem freeFor_setTarget_self {t : Placement} (ht : t.Sized) {n : Nat} (hn : n < 24) (v : Option Nat) (x : Nat) :
    freeFor (setTarget t n v) n x = freeFor t n x := by
  rw [Bool.eq_iff_iff, freeFor_iff, freeFor_iff]
  refine forall_congr' fun m => forall_congr' fun _ => forall_congr' fun hne => ?_
  rw [targetIn_setTarget ht hn, if_neg hne]

/-- The primary of the sign is not ACTIVE. -/
def PrimaryDown (t : Placement) (n : Nat) : Prop := ∀ x, primaryIn t n = some x → upIn t x = false

theorem choose_of_down {img : Image} {t : Placement} {n : Nat} (h : PrimaryDown t n) :
    choose img t n = standbyFor img t n := by
  unfold choose
  split
  · next x hx => rw [if_neg (by simp [h x hx])]
  · rfl

theorem choose_of_up {img : Image} {t : Placement} {n x : Nat} (h : primaryIn t n = some x)
    (hup : upIn t x = true) : choose img t n = some x := by
  simp [choose, h, hup]

/-! ## Stations offered to the signs that wait -/

/-- The sign is the lowest-numbered of those that wait for the station (R8). -/
def FirstWaiting (img : Image) (t : Placement) (x n : Nat) : Prop :=
  waits img t x n = true ∧ ∀ m < n, waits img t x m = false

theorem waits_iff {img : Image} {t : Placement} {x n : Nat} : waits img t x n = true ↔
    targetIn t n = none ∧ (imageSign img n).standby = some x ∧ PrimaryDown t n := by
  unfold waits PrimaryDown
  cases primaryIn t n <;> simp [and_assoc]

theorem waits_congr {img : Image} {t u : Placement} {x n : Nat}
    (h : (imageSign img n).standby = some x → (targetIn u n = none ↔ targetIn t n = none) ∧
      (targetIn t n = none → (PrimaryDown u n ↔ PrimaryDown t n))) : waits img u x n = waits img t x n := by
  rw [Bool.eq_iff_iff, waits_iff, waits_iff]
  constructor
  · rintro ⟨htgt, hst, hdown⟩
    have htgt' := (h hst).1.1 htgt
    exact ⟨htgt', hst, ((h hst).2 htgt').1 hdown⟩
  · rintro ⟨htgt, hst, hdown⟩
    exact ⟨(h hst).1.2 htgt, hst, ((h hst).2 htgt).2 hdown⟩

theorem firstWaiting_congr {img : Image} {t u : Placement} {x : Nat} (n : Nat)
    (h : ∀ m ≤ n, waits img u x m = waits img t x m) : FirstWaiting img u x n ↔ FirstWaiting img t x n := by
  unfold FirstWaiting
  rw [h n (Nat.le_refl n)]
  exact and_congr_right fun _ => forall_congr' fun m => forall_congr' fun hm => by rw [h m (by omega)]

theorem find_range_first {p : Nat → Bool} {k n : Nat} (hn : n < k) (h : p n = true) (hlt : ∀ m < n, p m = false) :
    (List.range k).find? p = some n := by
  rw [List.find?_range_eq_some]
  exact ⟨h, List.mem_range.2 hn, fun m hm => by simp [hlt m hm]⟩

open Classical in
theorem offer_target {img : Image} {t : Placement} (ht : t.Sized) {x : Nat} (hup : upIn t x = true)
    (hfree : unused t x = true) {n : Nat} (hn : n < 24) : targetIn (offer img t x) n =
      if FirstWaiting img t x n then some x else targetIn t n := by
  unfold offer
  rw [if_pos (by simp [hup, hfree])]
  split
  · next a ha =>
    obtain ⟨hwa, hmem, hlt⟩ := List.find?_range_eq_some.1 ha
    rw [targetIn_setTarget ht (List.mem_range.1 hmem)]
    by_cases hna : n = a
    · rw [if_pos hna, if_pos (hna ▸ ⟨hwa, fun m hm => by simpa using hlt m hm⟩)]
    · rw [if_neg hna, if_neg]
      rintro ⟨hw, hbelow⟩
      exact hna (Option.some.inj ((find_range_first hn hw hbelow).symm.trans ha))
  · next hnone =>
    rw [if_neg]
    rintro ⟨hw, hbelow⟩
    rw [find_range_first hn hw hbelow] at hnone
    cases hnone

theorem offer_of_not {img : Image} {t : Placement} {x : Nat} (h : (upIn t x && unused t x) = false) :
    offer img t x = t := by
  simp [offer, h]

theorem offer_rest (img : Image) (t : Placement) (x : Nat) :
    (offer img t x).primaries = t.primaries ∧ (offer img t x).up = t.up := by
  unfold offer
  split
  · split <;> exact ⟨rfl, rfl⟩
  · exact ⟨rfl, rfl⟩

theorem primaryIn_offer (img : Image) (t : Placement) (x n : Nat) : primaryIn (offer img t x) n = primaryIn t n :=
  congrArg (fun l : List (Option Nat) => l.getD n none) (offer_rest img t x).1

theorem upIn_offer (img : Image) (t : Placement) (x y : Nat) : upIn (offer img t x) y = upIn t y :=
  congrArg (fun l : List Bool => l.getD y false) (offer_rest img t x).2

/-! ## Consistency -/

theorem signOk_congr {img : Image} {t u : Placement} {n : Nat} (htgt : targetIn u n = targetIn t n)
    (hprim : primaryIn u n = primaryIn t n) (hup : ∀ x, upIn u x = upIn t x) (h : SignOk img t n) :
    SignOk img u n := by
  simpa only [SignOk, htgt, hprim, hup] using h

/-- A sign without a target whose primary is not ACTIVE. -/
theorem signOk_none {img : Image} {t : Placement} {n : Nat} (htgt : targetIn t n = none) (h : PrimaryDown t n) :
    SignOk img t n :=
  ⟨fun x hx => by simp [htgt] at hx, fun x hx hup => by simp [h x hx] at hup⟩

/-- A sign that has its free standby, its primary not ACTIVE. -/
theorem signOk_standby {img : Image} {t : Placement} {n x : Nat} (htgt : targetIn t n = some x)
    (hst : (imageSign img n).standby = some x) (hup : upIn t x = true) (h : PrimaryDown t n) :
    SignOk img t n :=
  ⟨fun y hy => by rw [htgt] at hy; cases hy; exact ⟨hup, .inr hst⟩, fun y hy hu => by simp [h y hy] at hu⟩

theorem signOk_primary {img : Image} {t : Placement} {n x : Nat} (htgt : targetIn t n = some x)
    (hprim : primaryIn t n = some x) (hup : upIn t x = true) : SignOk img t n :=
  ⟨fun y hy => by rw [htgt] at hy; cases hy; exact ⟨hup, .inl hprim⟩,
    fun y hy _ => by rw [hprim] at hy; cases hy; exact htgt⟩

theorem SignOk.down {img : Image} {t : Placement} {n x : Nat} (h : SignOk img t n) (htgt : targetIn t n = some x)
    (hne : primaryIn t n ≠ some x) : PrimaryDown t n := by
  intro y hy
  by_contra hup
  have := h.2 y hy (by simpa using hup)
  rw [htgt] at this
  exact hne (hy.trans this.symm)

/-- A table in which some stations go to signs that had none of them, each to one sign. -/
theorem givenOnce_update {f g : Nat → Option Nat} {x : Nat} (hf : GivenOnce f) {a : Nat}
    (hg : ∀ n < 24, n ≠ a → g n = f n ∨ g n = none) (ha : g a = none ∨ g a = some x)
    (hfree : ∀ n < 24, n ≠ a → g n ≠ some x) : GivenOnce g := by
  have hother : ∀ n < 24, n ≠ a → ∀ y, g n = some y → f n = some y ∧ y ≠ x := fun n hn hna y hy => by
    refine ⟨(hg n hn hna).elim (fun h => h ▸ hy) fun h => by simp [h] at hy, fun hyx => hfree n hn hna (hyx ▸ hy)⟩
  have hhere : ∀ y, g a = some y → y = x := fun y hy => by
    rcases ha with h | h
    · simp [h] at hy
    · rw [h] at hy; cases hy; rfl
  intro n hn m hm y hny hmy
  by_cases hna : n = a
  · subst hna
    by_cases hma : m = n
    · exact hma.symm
    · exact absurd (hhere y hny) (hother m hm hma y hmy).2
  · by_cases hma : m = a
    · subst hma
      exact absurd (hhere y hmy) (hother n hn hna y hny).2
    · exact hf n hn m hm y (hother n hn hna y hny).1 (hother m hm hma y hmy).1

theorem offer_tableOk {img : Image} {t : Placement} (ht : t.Sized) (h : TableOk img t) (x : Nat) :
    TableOk img (offer img t x) := by
  unfold offer
  split
  · next hok =>
    simp only [Bool.and_eq_true] at hok
    obtain ⟨hup, hfree⟩ := hok
    obtain ⟨htgt, hprim, hsign⟩ := h
    split
    · next a ha =>
      obtain ⟨hwa, hmem, -⟩ := List.find?_range_eq_some.1 ha
      obtain ⟨hnone, hst, hdown⟩ := waits_iff.1 hwa
      have hread := targetIn_setTarget ht (List.mem_range.1 hmem) (some x)
      refine ⟨givenOnce_update (x := x) (a := a) htgt (fun n _ hne => .inl ?_) (.inr ?_) fun n hn hne => ?_, hprim,
        fun n hn => ?_⟩
      · rw [hread, if_neg hne]
      · rw [hread, if_pos rfl]
      · rw [hread, if_neg hne]; exact unused_iff.1 hfree n hn
      · by_cases hna : n = a
        · subst hna
          exact signOk_standby (by rw [hread, if_pos rfl]) hst hup hdown
        · exact signOk_congr (t := t) (by rw [hread, if_neg hna]) rfl (fun _ => rfl) (hsign n hn)
    · exact ⟨htgt, hprim, hsign⟩
  · exact h

/-! ## Stations taken from another sign (R8, R10, R13) -/

theorem primaryDown_congr {t u : Placement} {n : Nat} (hprim : primaryIn u n = primaryIn t n)
    (hup : ∀ x, upIn u x = upIn t x) : PrimaryDown u n ↔ PrimaryDown t n := by
  simp only [PrimaryDown, hprim, hup]

theorem displace_rest (img : Image) (a x : Nat) (t : Placement) (m : Nat) :
    (displace img a x t m).primaries = t.primaries ∧ (displace img a x t m).up = t.up := by
  unfold displace
  split <;> exact ⟨rfl, rfl⟩

theorem foldl_displace_rest (img : Image) (a x : Nat) (l : List Nat) (t : Placement) :
    (l.foldl (displace img a x) t).primaries = t.primaries ∧ (l.foldl (displace img a x) t).up = t.up := by
  induction l generalizing t with
  | nil => exact ⟨rfl, rfl⟩
  | cons m l ih =>
    obtain ⟨hp, hu⟩ := ih (displace img a x t m)
    obtain ⟨hp', hu'⟩ := displace_rest img a x t m
    exact ⟨hp.trans hp', hu.trans hu'⟩

/-- Sign `a` has the station, and another sign that has it too has it as its standby. -/
def TakenFromStandby (img : Image) (a x : Nat) (t : Placement) : Prop :=
  t.Sized ∧ targetIn t a = some x ∧ ∀ m < 24, m ≠ a → targetIn t m = some x →
    PrimaryDown t m ∧ (imageSign img m).standby = some x

theorem displace_target {img : Image} {a x : Nat} {t : Placement} (ha : a < 24) (h : TakenFromStandby img a x t)
    {m : Nat} (hm : m < 24) (n : Nat) : targetIn (displace img a x t m) n =
      if n = m then (if m ≠ a ∧ targetIn t m = some x then none else targetIn t m) else targetIn t n := by
  obtain ⟨ht, hta, hothers⟩ := h
  unfold displace
  by_cases hc : m ≠ a ∧ targetIn t m = some x
  · obtain ⟨hma, hmx⟩ := id hc
    obtain ⟨hdown, hst⟩ := hothers m hm hma hmx
    have hchoice : choose img (setTarget t m none) m = none := by
      rw [choose_of_down (t := setTarget t m none) hdown, ← Option.not_isSome_iff_eq_none]
      intro hsome
      obtain ⟨y, hy⟩ := Option.isSome_iff_exists.1 hsome
      obtain ⟨hsty, -, hfree⟩ := standbyFor_eq_some.1 hy
      rw [hst] at hsty
      cases hsty
      rw [freeFor_setTarget_self ht hm] at hfree
      exact freeFor_iff.1 hfree a ha (Ne.symm hma) hta
    rw [if_pos (by simpa using hc), hchoice, targetIn_setTarget ht hm, if_pos hc]
  · rw [if_neg (by simpa using hc), if_neg hc]
    split
    · next h => rw [h]
    · rfl

theorem displace_keeps {img : Image} {a x : Nat} {t : Placement} (ha : a < 24) (h : TakenFromStandby img a x t)
    {m : Nat} (hm : m < 24) : TakenFromStandby img a x (displace img a x t m) := by
  have hread := displace_target ha h hm
  obtain ⟨ht, hta, hothers⟩ := h
  obtain ⟨hp, hu⟩ := displace_rest img a x t m
  refine ⟨ht.next (sized_displace ..), ?_, fun n hn hna hnx => ?_⟩
  · rw [hread]
    split
    · next h => rw [if_neg (fun hc => hc.1 h.symm), ← h, hta]
    · exact hta
  · rw [hread] at hnx
    have hold : targetIn t n = some x := by
      split at hnx
      · next h =>
        split at hnx
        · cases hnx
        · rw [h]; exact hnx
      · exact hnx
    obtain ⟨hdown, hst⟩ := hothers n hn hna hold
    exact ⟨(primaryDown_congr (congrArg (fun l : List (Option Nat) => l.getD n none) hp)
      (fun y => congrArg (fun l : List Bool => l.getD y false) hu)).2 hdown, hst⟩

theorem foldl_displace_target {img : Image} {a x : Nat} (ha : a < 24) (l : List Nat) :
    ∀ {t : Placement}, TakenFromStandby img a x t → (∀ m ∈ l, m < 24) → ∀ n,
      targetIn (l.foldl (displace img a x) t) n =
        if n ∈ l ∧ n ≠ a ∧ targetIn t n = some x then none else targetIn t n := by
  induction l with
  | nil => intro t _ _ n; simp
  | cons m l ih =>
    intro t h hl n
    have hm := hl m List.mem_cons_self
    rw [List.foldl_cons, ih (displace_keeps ha h hm) (fun k hk => hl k (List.mem_cons_of_mem _ hk)),
      displace_target ha h hm]
    by_cases hnm : n = m
    · subst hnm
      by_cases hc : n ≠ a ∧ targetIn t n = some x <;> simp [hc]
    · simp [hnm]

/-- A sign takes a station; another sign that had it as its standby has none; the station the sign had before
goes to the first sign that waits for it. -/
theorem takeStation_rest (img : Image) (t : Placement) (a x : Nat) :
    (takeStation img t a x).primaries = t.primaries ∧ (takeStation img t a x).up = t.up := by
  obtain ⟨hp, hu⟩ := foldl_displace_rest img a x (List.range 24) (setTarget t a (some x))
  unfold takeStation
  dsimp only
  split
  · next y _ =>
    obtain ⟨hp', hu'⟩ := offer_rest img ((List.range 24).foldl (displace img a x) (setTarget t a (some x))) y
    exact ⟨hp'.trans hp, hu'.trans hu⟩
  · exact ⟨hp, hu⟩

/-- The table in which sign `a` has taken the station, before the one it had is offered. -/
def afterTaking (img : Image) (t : Placement) (a x : Nat) : Placement :=
  (List.range 24).foldl (displace img a x) (setTarget t a (some x))

theorem takeStation_eq (img : Image) (t : Placement) (a x : Nat) : takeStation img t a x =
    match targetIn t a with
    | some y => offer img (afterTaking img t a x) y
    | none => afterTaking img t a x := rfl

theorem afterTaking_target {img : Image} {t : Placement} {a x : Nat} (ha : a < 24) (ht : t.Sized)
    (h : ∀ m < 24, m ≠ a → targetIn t m = some x → PrimaryDown t m ∧ (imageSign img m).standby = some x)
    {n : Nat} (hn : n < 24) : targetIn (afterTaking img t a x) n =
      if n = a then some x else if targetIn t n = some x then none else targetIn t n := by
  have hread := targetIn_setTarget ht ha (some x)
  have htaken : TakenFromStandby img a x (setTarget t a (some x)) := by
    refine ⟨setTarget_sized ht a _, by rw [hread, if_pos rfl], fun m hm hma hmx => ?_⟩
    rw [hread, if_neg hma] at hmx
    exact h m hm hma hmx
  rw [afterTaking, foldl_displace_target ha _ htaken (fun _ hm => List.mem_range.1 hm), hread]
  by_cases hna : n = a
  · simp [hna]
  · simp [hna, hn]

theorem afterTaking_sized {img : Image} {t : Placement} (ht : t.Sized) (a x : Nat) : (afterTaking img t a x).Sized :=
  (setTarget_sized ht a (some x)).next (sized_foldl_displace ..)

theorem primaryIn_afterTaking (img : Image) (t : Placement) (a x n : Nat) :
    primaryIn (afterTaking img t a x) n = primaryIn t n :=
  congrArg (fun l : List (Option Nat) => l.getD n none) (foldl_displace_rest img a x _ _).1

theorem upIn_afterTaking (img : Image) (t : Placement) (a x y : Nat) :
    upIn (afterTaking img t a x) y = upIn t y :=
  congrArg (fun l : List Bool => l.getD y false) (foldl_displace_rest img a x _ _).2

theorem afterTaking_tableOk {img : Image} {t : Placement} {a x : Nat} (ha : a < 24) (ht : t.Sized)
    (h : ∀ m < 24, m ≠ a → targetIn t m = some x → PrimaryDown t m ∧ (imageSign img m).standby = some x)
    (htgt : GivenOnce (targetIn t)) (hprim : GivenOnce (primaryIn t))
    (hothers : ∀ n < 24, n ≠ a → SignOk img t n) (hup : upIn t x = true)
    (hhere : primaryIn t a = some x ∨ (imageSign img a).standby = some x ∧ PrimaryDown t a) :
    TableOk img (afterTaking img t a x) := by
  have hread := fun n hn => afterTaking_target (img := img) (n := n) ha ht h hn
  have hself : targetIn (afterTaking img t a x) a = some x := by rw [hread a ha, if_pos rfl]
  have hupx : upIn (afterTaking img t a x) x = true := (upIn_afterTaking ..).trans hup
  refine ⟨givenOnce_update (x := x) (a := a) htgt (fun n hn hna => ?_) (.inr hself) fun n hn hna => ?_, ?_,
    fun n hn => ?_⟩
  · rw [hread n hn, if_neg hna]
    split
    · exact .inr rfl
    · exact .inl rfl
  · rw [hread n hn, if_neg hna]
    split
    · exact fun h => by cases h
    · assumption
  · intro n hn m hm y hny hmy
    rw [primaryIn_afterTaking] at hny hmy
    exact hprim n hn m hm y hny hmy
  · by_cases hna : n = a
    · subst hna
      rcases hhere with hp | ⟨hst, hdown⟩
      · exact signOk_primary hself ((primaryIn_afterTaking ..).trans hp) hupx
      · exact signOk_standby hself hst hupx
          ((primaryDown_congr (primaryIn_afterTaking ..) (upIn_afterTaking img t n x)).2 hdown)
    · have htn := hread n hn
      rw [if_neg hna] at htn
      split at htn
      · next hx =>
        exact signOk_none htn
          ((primaryDown_congr (primaryIn_afterTaking ..) (upIn_afterTaking img t a x)).2 (h n hn hna hx).1)
      · exact signOk_congr htn (primaryIn_afterTaking ..) (upIn_afterTaking img t a x) (hothers n hn hna)

theorem takeStation_tableOk {img : Image} {t : Placement} {a x : Nat} (ht : t.Sized)
    (h : TableOk img (afterTaking img t a x)) : TableOk img (takeStation img t a x) := by
  rw [takeStation_eq]
  split
  · exact offer_tableOk (afterTaking_sized ht a x) h _
  · exact h

open Classical in
/-- The targets after a sign has taken a station and gives one back. -/
theorem takeStation_target {img : Image} {t : Placement} {a x y : Nat} (ha : a < 24) (ht : t.Sized)
    (h : ∀ m < 24, m ≠ a → targetIn t m = some x → PrimaryDown t m ∧ (imageSign img m).standby = some x)
    (htgt : GivenOnce (targetIn t)) (hy : targetIn t a = some y) (hyx : y ≠ x) (hup : upIn t y = true)
    {n : Nat} (hn : n < 24) : targetIn (takeStation img t a x) n =
      if n = a then some x else if targetIn t n = some x then none
      else if FirstWaiting img t y n then some y else targetIn t n := by
  have hread := fun n hn => afterTaking_target (img := img) (n := n) ha ht h hn
  have hfree : unused (afterTaking img t a x) y = true := unused_iff.2 fun m hm => by
    rw [hread m hm]
    split
    · exact fun h => hyx (Option.some.inj h).symm
    · next hma =>
      split
      · exact fun h => by cases h
      · exact fun hmy => hma (htgt m hm a ha y hmy hy)
  have hwait : ∀ m < 24, waits img (afterTaking img t a x) y m = waits img t y m := fun m hm =>
    waits_congr fun hst => by
      refine ⟨?_, fun _ => primaryDown_congr (primaryIn_afterTaking ..) (upIn_afterTaking img t a x)⟩
      rw [hread m hm]
      split
      · next hma => rw [hma, hy]; simp
      · next hma =>
        split
        · next hmx =>
          have hst' := (h m hm hma hmx).2
          rw [hst] at hst'
          exact absurd (Option.some.inj hst') hyx
        · exact Iff.rfl
  have hnot : ∀ m < 24, targetIn t m ≠ none → ¬FirstWaiting img t y m := fun m _ hm hfw =>
    hm (waits_iff.1 hfw.1).1
  rw [takeStation_eq, hy]
  dsimp only
  rw [offer_target (afterTaking_sized ht a x) ((upIn_afterTaking ..).trans hup) hfree hn,
    if_congr (firstWaiting_congr n fun m hm => hwait m (by omega)) rfl rfl, hread n hn]
  by_cases hna : n = a
  · rw [if_pos hna, if_pos hna, if_neg (hnot n hn (by simp [hna, hy]))]
  · rw [if_neg hna, if_neg hna]
    by_cases hnx : targetIn t n = some x
    · rw [if_pos hnx, if_pos hnx, if_neg (hnot n hn (by simp [hnx]))]
    · rw [if_neg hnx, if_neg hnx]

theorem takeStation_target_none {img : Image} {t : Placement} {a x : Nat} (ha : a < 24) (ht : t.Sized)
    (h : ∀ m < 24, m ≠ a → targetIn t m = some x → PrimaryDown t m ∧ (imageSign img m).standby = some x)
    (hnone : targetIn t a = none) {n : Nat} (hn : n < 24) : targetIn (takeStation img t a x) n =
      if n = a then some x else if targetIn t n = some x then none else targetIn t n := by
  rw [takeStation_eq, hnone]
  exact afterTaking_target ha ht h hn

/-! ## A departure (R9) -/

theorem departed_eq (img : Image) (t : Placement) (x : Nat) : departed img t x =
    match (List.range 24).find? fun n => targetIn t n == some x with
    | some n => setTarget (setUp t x false) n (choose img (setTarget (setUp t x false) n none) n)
    | none => setUp t x false := rfl

/-- The choice of a sign whose target has left ACTIVE: its standby, where that is free and another station. -/
theorem choose_departed {img : Image} {t : Placement} {x n : Nat} (ht : t.Sized) (h : TableOk img t) (hx : x < 32)
    (hn : n < 24) (hnx : targetIn t n = some x) :
    PrimaryDown (setUp t x false) n ∧ choose img (setTarget (setUp t x false) n none) n =
      (standbyFor img t n).filter (· != x) := by
  have hread := upIn_setUp ht hx false
  have hdown : PrimaryDown (setUp t x false) n := fun y hy => by
    rw [hread]
    split
    · rfl
    · next hyx =>
      by_contra hup
      have htgt := (h.2.2 n hn).2 y hy (by simpa using hup)
      rw [hnx] at htgt
      exact hyx (Option.some.inj htgt).symm
  refine ⟨hdown, ?_⟩
  rw [choose_of_down (t := setTarget (setUp t x false) n none) hdown]
  refine Option.ext fun y => ?_
  rw [standbyFor_eq_some, Option.filter_eq_some_iff, standbyFor_eq_some, upIn_setTarget, hread,
    freeFor_setTarget_self (setUp_sized ht x false) hn]
  by_cases hyx : y = x
  · simp [hyx]
  · simp only [bne_iff_ne, ne_eq, hyx, not_false_eq_true, and_true]
    rfl

theorem departed_target {img : Image} {t : Placement} {x : Nat} (ht : t.Sized) (h : TableOk img t) (hx : x < 32)
    {n : Nat} (hn : n < 24) : targetIn (departed img t x) n =
      if targetIn t n = some x then (standbyFor img t n).filter (· != x) else targetIn t n := by
  rw [departed_eq]
  split
  · next a ha =>
    obtain ⟨hax, hmem, -⟩ := List.find?_range_eq_some.1 ha
    have ha24 := List.mem_range.1 hmem
    have hax : targetIn t a = some x := by simpa using hax
    rw [targetIn_setTarget (setUp_sized ht x false) ha24]
    by_cases hna : n = a
    · subst hna
      rw [if_pos rfl, if_pos hax, (choose_departed ht h hx hn hax).2]
    · rw [if_neg hna, if_neg fun hnx => hna (h.1 n hn a ha24 x hnx hax)]
      rfl
  · next hnone =>
    rw [if_neg]
    · rfl
    · intro hnx
      have := List.find?_eq_none.1 hnone n (List.mem_range.2 hn)
      simp [hnx] at this

theorem departed_rest (img : Image) (t : Placement) (x : Nat) :
    (departed img t x).primaries = t.primaries ∧ (departed img t x).up = t.up.set x false := by
  rw [departed_eq]
  split <;> exact ⟨rfl, rfl⟩

theorem departed_tableOk {img : Image} {t : Placement} {x : Nat} (ht : t.Sized) (h : TableOk img t) (hx : x < 32) :
    TableOk img (departed img t x) := by
  have hread := fun n hn => departed_target (n := n) ht h hx hn
  obtain ⟨hprims, hups⟩ := departed_rest img t x
  have hprim : ∀ n, primaryIn (departed img t x) n = primaryIn t n :=
    fun n => congrArg (fun l : List (Option Nat) => l.getD n none) hprims
  have hup : ∀ y, upIn (departed img t x) y = if y = x then false else upIn t y := fun y =>
    (congrArg (fun l : List Bool => l.getD y false) hups).trans (upIn_setUp ht hx false y)
  have hdown : ∀ n < 24, targetIn t n = some x → PrimaryDown (departed img t x) n := fun n hn hnx =>
    (primaryDown_congr (t := setUp t x false) (hprim n)
      fun y => (hup y).trans (upIn_setUp ht hx false y).symm).2 (choose_departed ht h hx hn hnx).1
  have hstand : ∀ n < 24, ∀ y, targetIn t n = some x → targetIn (departed img t x) n = some y →
      (imageSign img n).standby = some y ∧ upIn t y = true ∧ freeFor t n y = true ∧ y ≠ x := fun n hn y hnx hy => by
    rw [hread n hn, if_pos hnx, Option.filter_eq_some_iff, standbyFor_eq_some] at hy
    obtain ⟨⟨hst, hyup, hfree⟩, hne⟩ := hy
    exact ⟨hst, hyup, hfree, by simpa using hne⟩
  refine ⟨fun n hn m hm y hny hmy => ?_, fun n hn m hm y hny hmy => ?_, fun n hn => ?_⟩
  · have hold : ∀ k < 24, targetIn t k ≠ some x → targetIn (departed img t x) k = targetIn t k :=
      fun k hk hkx => by rw [hread k hk, if_neg hkx]
    by_cases hnx : targetIn t n = some x
    · by_cases hmx : targetIn t m = some x
      · exact h.1 n hn m hm x hnx hmx
      · obtain ⟨-, -, hfree, -⟩ := hstand n hn y hnx hny
        by_contra hne
        exact freeFor_iff.1 hfree m hm (Ne.symm hne) ((hold m hm hmx).symm.trans hmy)
    · by_cases hmx : targetIn t m = some x
      · obtain ⟨-, -, hfree, -⟩ := hstand m hm y hmx hmy
        by_contra hne
        exact freeFor_iff.1 hfree n hn hne ((hold n hn hnx).symm.trans hny)
      · exact h.1 n hn m hm y ((hold n hn hnx).symm.trans hny) ((hold m hm hmx).symm.trans hmy)
  · exact h.2.1 n hn m hm y ((hprim n).symm.trans hny) ((hprim m).symm.trans hmy)
  · by_cases hnx : targetIn t n = some x
    · cases hy : targetIn (departed img t x) n with
      | none => exact signOk_none hy (hdown n hn hnx)
      | some y =>
        obtain ⟨hst, hyup, -, hyx⟩ := hstand n hn y hnx hy
        exact signOk_standby hy hst (by rw [hup, if_neg hyx]; exact hyup) (hdown n hn hnx)
    · have htn : targetIn (departed img t x) n = targetIn t n := by rw [hread n hn, if_neg hnx]
      obtain ⟨hconf, hprimary⟩ := h.2.2 n hn
      refine ⟨fun y hy => ?_, fun y hy hyup => ?_⟩
      · rw [htn] at hy
        have hyx : y ≠ x := fun h => hnx (h ▸ hy)
        rw [hprim, hup, if_neg hyx]
        exact hconf y hy
      · rw [hprim] at hy
        rw [hup] at hyup
        split at hyup
        · cases hyup
        · rw [htn]; exact hprimary y hy hyup

/-! ## An entry (R10) -/

theorem primaryDown_setUp {t : Placement} (ht : t.Sized) {x : Nat} (hx : x < 32) {n : Nat}
    (hn : primaryIn t n ≠ some x) : PrimaryDown (setUp t x true) n ↔ PrimaryDown t n := by
  unfold PrimaryDown
  refine forall_congr' fun y => forall_congr' fun hy => ?_
  have hyx : y ≠ x := fun h => hn (h ▸ hy)
  rw [upIn_setUp ht hx, if_neg hyx]

theorem signOk_setUp {img : Image} {t : Placement} (ht : t.Sized) {x : Nat} (hx : x < 32) {n : Nat}
    (hn : primaryIn t n = some x → targetIn t n = some x) (h : SignOk img t n) : SignOk img (setUp t x true) n := by
  refine ⟨fun y hy => ?_, fun y hy hup => ?_⟩
  · obtain ⟨hup, hconf⟩ := h.1 y hy
    refine ⟨?_, hconf⟩
    rw [upIn_setUp ht hx]
    split
    · rfl
    · exact hup
  · rw [upIn_setUp ht hx] at hup
    split at hup
    · next hyx => subst hyx; exact hn hy
    · exact h.2 y hy hup

theorem entered_eq (img : Image) (t : Placement) (x : Nat) : entered img t x =
    match (List.range 24).find? fun n => primaryIn t n == some x && targetIn t n != some x with
    | some a => takeStation img (setUp t x true) a x
    | none => offer img (setUp t x true) x := rfl

/-- The station is the primary of a sign that does not have it. -/
theorem entered_of_primary {img : Image} {t : Placement} {x a : Nat} (h : GivenOnce (primaryIn t)) (ha : a < 24)
    (hp : primaryIn t a = some x) (hne : targetIn t a ≠ some x) :
    entered img t x = takeStation img (setUp t x true) a x := by
  rw [entered_eq, find_range_first ha (by simp [hp, hne]) fun m hm => by
    have : primaryIn t m ≠ some x := fun hm' => absurd (h m (by omega) a ha x hm' hp) (by omega)
    simp [this]]

/-- The station is no sign's primary, or its sign has it. -/
theorem entered_of_others {img : Image} {t : Placement} {x : Nat}
    (h : ∀ n < 24, primaryIn t n = some x → targetIn t n = some x) :
    entered img t x = offer img (setUp t x true) x := by
  have hnone : ((List.range 24).find? fun n => primaryIn t n == some x && targetIn t n != some x) = none := by
    rw [List.find?_eq_none]
    intro n hn
    simpa using h n (List.mem_range.1 hn)
  rw [entered_eq, hnone]

theorem entered_rest (img : Image) (t : Placement) (x : Nat) :
    (entered img t x).primaries = t.primaries ∧ (entered img t x).up = t.up.set x true := by
  rw [entered_eq]
  split
  · exact takeStation_rest ..
  · exact offer_rest ..

/-- Where a sign lacks its primary no other sign has it. -/
theorem noOther_of_primary {img : Image} {t : Placement} {x a : Nat} (h : TableOk img t) (ha : a < 24)
    (hp : primaryIn t a = some x) (hne : targetIn t a ≠ some x) : ∀ m < 24, targetIn t m ≠ some x :=
  fun m hm hmx => hne ((h.2.2 a ha).2 x hp ((h.2.2 m hm).1 x hmx).1)

theorem entered_tableOk {img : Image} {t : Placement} {x : Nat} (ht : t.Sized) (h : TableOk img t) (hx : x < 32) :
    TableOk img (entered img t x) := by
  have ht' := setUp_sized ht x true
  by_cases hex : ∃ a < 24, primaryIn t a = some x ∧ targetIn t a ≠ some x
  · obtain ⟨a, ha, hp, hne⟩ := hex
    rw [entered_of_primary h.2.1 ha hp hne]
    refine takeStation_tableOk ht' (afterTaking_tableOk (t := setUp t x true) ha ht'
      (fun m hm _ hmx => absurd hmx (noOther_of_primary h ha hp hne m hm)) h.1 h.2.1 (fun n hn hna => ?_) ?_
      (.inl hp))
    · exact signOk_setUp ht hx (fun hnp => absurd (h.2.1 n hn a ha x hnp hp) hna) (h.2.2 n hn)
    · rw [upIn_setUp ht hx, if_pos rfl]
  · have hall : ∀ n < 24, primaryIn t n = some x → targetIn t n = some x := by
      simpa only [not_exists, not_and, not_not] using hex
    rw [entered_of_others hall]
    exact offer_tableOk ht' ⟨h.1, h.2.1, fun n hn => signOk_setUp ht hx (hall n hn) (h.2.2 n hn)⟩ x

theorem waits_setUp {img : Image} {t : Placement} (ht : t.Sized) {x : Nat} (hx : x < 32) {y m : Nat}
    (hm : targetIn t m = none → primaryIn t m ≠ some x) :
    waits img (setUp t x true) y m = waits img t y m :=
  waits_congr fun _ => ⟨Iff.rfl, fun hnone => primaryDown_setUp ht hx (hm hnone)⟩

open Classical in
theorem entered_target_primary {img : Image} {t : Placement} {x a : Nat} (ht : t.Sized) (h : TableOk img t)
    (hx : x < 32) (ha : a < 24) (hp : primaryIn t a = some x) {n : Nat} (hn : n < 24) :
    targetIn (entered img t x) n = if n = a then some x else
      match targetIn t a with
      | some y => if y ≠ x ∧ FirstWaiting img t y n then some y else targetIn t n
      | none => targetIn t n := by
  have ht' := setUp_sized ht x true
  by_cases hax : targetIn t a = some x
  · have hall : ∀ m < 24, primaryIn t m = some x → targetIn t m = some x := fun m hm hmp => by
      rw [h.2.1 m hm a ha x hmp hp]; exact hax
    have hused : (upIn (setUp t x true) x && unused (setUp t x true) x) = false := by
      rw [Bool.and_eq_false_iff]
      refine .inr (Bool.eq_false_iff.2 fun hu => ?_)
      exact unused_iff.1 hu a ha hax
    rw [entered_of_others hall, offer_of_not hused, hax]
    split
    · next hna => rw [hna]; exact hax
    · simp only [ne_eq, not_true_eq_false, false_and, if_false]
      rfl
  · have hnone := noOther_of_primary h ha hp hax
    rw [entered_of_primary h.2.1 ha hp hax]
    cases hy : targetIn t a with
    | none =>
      rw [takeStation_target_none (t := setUp t x true) ha ht' (fun m hm _ hmx => absurd hmx (hnone m hm)) hy hn]
      refine if_congr Iff.rfl rfl ?_
      exact if_neg (hnone n hn)
    | some y =>
      have hyx : y ≠ x := fun hyx => hax (hyx ▸ hy)
      have hup : upIn (setUp t x true) y = true := by
        rw [upIn_setUp ht hx, if_neg hyx]; exact ((h.2.2 a ha).1 y hy).1
      rw [takeStation_target (t := setUp t x true) ha ht' (fun m hm _ hmx => absurd hmx (hnone m hm)) h.1 hy hyx hup
        hn]
      refine if_congr Iff.rfl rfl ?_
      rw [if_neg (show ¬targetIn (setUp t x true) n = some x from hnone n hn)]
      refine if_congr ?_ rfl rfl
      rw [firstWaiting_congr (t := t) n fun m hm => waits_setUp ht hx fun hmn hmp => ?_]
      · simp [hyx]
      · rw [h.2.1 m (by omega) a ha x hmp hp, hy] at hmn
        cases hmn

open Classical in
theorem entered_target_standby {img : Image} {t : Placement} {x : Nat} (ht : t.Sized) (hx : x < 32)
    (hp : ∀ n < 24, primaryIn t n ≠ some x) {n : Nat} (hn : n < 24) :
    targetIn (entered img t x) n =
      if unused t x = true ∧ FirstWaiting img t x n then some x else targetIn t n := by
  have ht' := setUp_sized ht x true
  have hup : upIn (setUp t x true) x = true := by rw [upIn_setUp ht hx, if_pos rfl]
  rw [entered_of_others fun m hm hmp => absurd hmp (hp m hm)]
  by_cases hu : unused t x = true
  · rw [offer_target ht' hup hu hn]
    refine if_congr ?_ rfl rfl
    rw [firstWaiting_congr (t := t) n fun m hm => waits_setUp ht hx fun _ => hp m (by omega)]
    simp [hu]
  · have hnot : (upIn (setUp t x true) x && unused (setUp t x true) x) = false := by
      rw [Bool.and_eq_false_iff]
      exact .inr (Bool.eq_false_iff.2 hu)
    rw [offer_of_not hnot, if_neg fun h => hu h.1]
    rfl

/-! ## REMAP (R13) -/

theorem remapped_eq (img : Image) (t : Placement) (n x : Nat) : remapped img t n x =
    match choose img (setPrimary t n (some x)) n with
    | some y => if targetIn t n == some y then setPrimary t n (some x)
                else takeStation img (setPrimary t n (some x)) n y
    | none =>
      match targetIn t n with
      | some y => offer img (setTarget (setPrimary t n (some x)) n none) y
      | none => setPrimary t n (some x) := rfl

/-- A station that is to be the sign's primary is no sign's yet. -/
def NoPrimary (t : Placement) (x : Nat) : Prop := ∀ m < 24, primaryIn t m ≠ some x

theorem signOk_setPrimary {img : Image} {t : Placement} (ht : t.Sized) {n x m : Nat} (hn : n < 24) (hmn : m ≠ n)
    (h : SignOk img t m) : SignOk img (setPrimary t n (some x)) m :=
  signOk_congr (t := t) rfl (by rw [primaryIn_setPrimary ht hn, if_neg hmn]) (fun _ => rfl) h

theorem givenOnce_setPrimary {t : Placement} (ht : t.Sized) {n x : Nat} (hn : n < 24)
    (h : GivenOnce (primaryIn t)) (hx : NoPrimary t x) : GivenOnce (primaryIn (setPrimary t n (some x))) := by
  have hread := primaryIn_setPrimary ht hn (some x)
  refine givenOnce_update (x := x) (a := n) h (fun m _ hmn => .inl ?_) (.inr ?_) fun m hm hmn => ?_
  · rw [hread, if_neg hmn]
  · rw [hread, if_pos rfl]
  · rw [hread, if_neg hmn]; exact hx m hm

theorem primaryDown_setPrimary {t : Placement} (ht : t.Sized) {n x m : Nat} (hn : n < 24) (hmn : m ≠ n) :
    PrimaryDown (setPrimary t n (some x)) m ↔ PrimaryDown t m :=
  primaryDown_congr (by rw [primaryIn_setPrimary ht hn, if_neg hmn]) fun _ => rfl

/-- Another sign that has the station has it as its standby. -/
theorem taken_of_setPrimary {img : Image} {t : Placement} (ht : t.Sized) (h : TableOk img t) {n x : Nat} (hn : n < 24)
    (hx : NoPrimary t x) : ∀ m < 24, m ≠ n → targetIn (setPrimary t n (some x)) m = some x →
      PrimaryDown (setPrimary t n (some x)) m ∧ (imageSign img m).standby = some x := fun m hm hmn hmx =>
  ⟨(primaryDown_setPrimary ht hn hmn).2 ((h.2.2 m hm).down hmx (hx m hm)),
    ((h.2.2 m hm).1 x hmx).2.resolve_left (hx m hm)⟩

theorem waits_setPrimary {img : Image} {t : Placement} (ht : t.Sized) {n x y m : Nat} (hn : n < 24)
    (hm : targetIn t m = none → m ≠ n) :
    waits img (setPrimary t n (some x)) y m = waits img t y m :=
  waits_congr fun _ => ⟨Iff.rfl, fun hnone => primaryDown_setPrimary ht hn (hm hnone)⟩

/-- The station that the sign takes by R8 with its new primary. -/
structure Chosen (img : Image) (t : Placement) (n x v : Nat) : Prop where
  choice : choose img (setPrimary t n (some x)) n = some v
  up : upIn t v = true
  here : v = x ∨ (imageSign img n).standby = some v ∧ PrimaryDown (setPrimary t n (some x)) n
  others : ∀ m < 24, m ≠ n → targetIn (setPrimary t n (some x)) m = some v →
    PrimaryDown (setPrimary t n (some x)) m ∧ (imageSign img m).standby = some v

theorem chosen_primary {img : Image} {t : Placement} (ht : t.Sized) (h : TableOk img t) {n x : Nat} (hn : n < 24)
    (hx : NoPrimary t x) (hup : upIn t x = true) : Chosen img t n x x where
  choice := choose_of_up (by rw [primaryIn_setPrimary ht hn, if_pos rfl]) hup
  up := hup
  here := .inl rfl
  others := taken_of_setPrimary ht h hn hx

theorem primaryDown_new {t : Placement} (ht : t.Sized) {n x : Nat} (hn : n < 24) (hup : upIn t x = false) :
    PrimaryDown (setPrimary t n (some x)) n := fun y hy => by
  rw [primaryIn_setPrimary ht hn, if_pos rfl] at hy
  cases hy
  exact hup

theorem choose_standby {img : Image} {t : Placement} (ht : t.Sized) {n x : Nat} (hn : n < 24)
    (hup : upIn t x = false) : choose img (setPrimary t n (some x)) n = standbyFor img t n :=
  choose_of_down (primaryDown_new ht hn hup)

theorem chosen_standby {img : Image} {t : Placement} (ht : t.Sized) {n x v : Nat} (hn : n < 24)
    (hup : upIn t x = false) (hv : standbyFor img t n = some v) : Chosen img t n x v := by
  obtain ⟨hst, hvup, hfree⟩ := standbyFor_eq_some.1 hv
  exact { choice := (choose_standby ht hn hup).trans hv, up := hvup, here := .inr ⟨hst, primaryDown_new ht hn hup⟩,
          others := fun m hm hmn hmv => absurd hmv (freeFor_iff.1 hfree m hm hmn) }

theorem remapped_of_kept {img : Image} {t : Placement} {n x v : Nat} (hv : Chosen img t n x v)
    (heq : targetIn t n = some v) : remapped img t n x = setPrimary t n (some x) := by
  rw [remapped_eq, hv.choice]
  simp [heq]

theorem remapped_of_taken {img : Image} {t : Placement} {n x v : Nat} (hv : Chosen img t n x v)
    (hne : targetIn t n ≠ some v) : remapped img t n x = takeStation img (setPrimary t n (some x)) n v := by
  rw [remapped_eq, hv.choice]
  simp [hne]

open Classical in
theorem remapped_target_chosen {img : Image} {t : Placement} (ht : t.Sized) (h : TableOk img t) {n x v : Nat}
    (hn : n < 24) (hv : Chosen img t n x v) {m : Nat} (hm : m < 24) : targetIn (remapped img t n x) m =
      if m = n then some v else if targetIn t m = some v then none else
        match targetIn t n with
        | some y => if y ≠ v ∧ FirstWaiting img t y m then some y else targetIn t m
        | none => targetIn t m := by
  have ht' := setPrimary_sized ht n (some x)
  by_cases heq : targetIn t n = some v
  · rw [remapped_of_kept hv heq, heq]
    by_cases hmn : m = n
    · rw [if_pos hmn, hmn]; exact heq
    · rw [if_neg hmn, if_neg fun hmv => hmn (h.1 m hm n hn v hmv heq)]
      simp only [ne_eq, not_true_eq_false, false_and, if_false]
      rfl
  · rw [remapped_of_taken hv heq]
    cases hy : targetIn t n with
    | none =>
      rw [takeStation_target_none (t := setPrimary t n (some x)) hn ht' hv.others hy hm]
      rfl
    | some y =>
      have hyv : y ≠ v := fun hyv => heq (hyv ▸ hy)
      have hup : upIn t y = true := ((h.2.2 n hn).1 y hy).1
      rw [takeStation_target (t := setPrimary t n (some x)) hn ht' hv.others h.1 hy hyv hup hm]
      refine if_congr Iff.rfl rfl (if_congr Iff.rfl rfl (if_congr ?_ rfl rfl))
      rw [firstWaiting_congr (t := t) m fun k _ => waits_setPrimary ht hn fun hk hkn => by
        rw [hkn, hy] at hk; cases hk]
      simp [hyv]

theorem remapped_tableOk_chosen {img : Image} {t : Placement} (ht : t.Sized) (h : TableOk img t) {n x v : Nat}
    (hn : n < 24) (hx : NoPrimary t x) (hv : Chosen img t n x v) : TableOk img (remapped img t n x) := by
  have ht' := setPrimary_sized ht n (some x)
  have hprim := givenOnce_setPrimary ht hn h.2.1 hx
  have hothers : ∀ m < 24, m ≠ n → SignOk img (setPrimary t n (some x)) m := fun m hm hmn =>
    signOk_setPrimary ht hn hmn (h.2.2 m hm)
  have hself : primaryIn (setPrimary t n (some x)) n = some x := by rw [primaryIn_setPrimary ht hn, if_pos rfl]
  have hhere : primaryIn (setPrimary t n (some x)) n = some v ∨
      (imageSign img n).standby = some v ∧ PrimaryDown (setPrimary t n (some x)) n :=
    hv.here.imp_left fun (hvx : v = x) => by rw [hvx]; exact hself
  by_cases heq : targetIn t n = some v
  · rw [remapped_of_kept hv heq]
    refine ⟨h.1, hprim, fun m hm => ?_⟩
    by_cases hmn : m = n
    · subst hmn
      rcases hhere with hp | ⟨hst, hdown⟩
      · exact signOk_primary (t := setPrimary t m (some x)) heq hp hv.up
      · exact signOk_standby (t := setPrimary t m (some x)) heq hst hv.up hdown
    · exact hothers m hm hmn
  · rw [remapped_of_taken hv heq]
    exact takeStation_tableOk ht' (afterTaking_tableOk hn ht' hv.others h.1 hprim hothers hv.up hhere)

/-! ### No station for the sign -/

theorem remapped_of_none {img : Image} {t : Placement} {n x : Nat} (ht : t.Sized) (hn : n < 24)
    (hup : upIn t x = false) (hnone : standbyFor img t n = none) : remapped img t n x =
      match targetIn t n with
      | some y => offer img (setTarget (setPrimary t n (some x)) n none) y
      | none => setPrimary t n (some x) := by
  rw [remapped_eq, choose_standby ht hn hup, hnone]

theorem signOk_released {img : Image} {t : Placement} (ht : t.Sized) (h : TableOk img t) {n x : Nat} (hn : n < 24)
    (hup : upIn t x = false) {m : Nat} (hm : m < 24) :
    SignOk img (setTarget (setPrimary t n (some x)) n none) m := by
  have hread := targetIn_setTarget (setPrimary_sized ht n (some x)) hn none
  by_cases hmn : m = n
  · subst hmn
    exact signOk_none (by rw [hread, if_pos rfl]) (primaryDown_new ht hn hup)
  · exact signOk_congr (t := setPrimary t n (some x)) (by rw [hread, if_neg hmn]) rfl (fun _ => rfl)
      (signOk_setPrimary ht hn hmn (h.2.2 m hm))

theorem remapped_tableOk_none {img : Image} {t : Placement} (ht : t.Sized) (h : TableOk img t) {n x : Nat}
    (hn : n < 24) (hx : NoPrimary t x) (hup : upIn t x = false) (hnone : standbyFor img t n = none) :
    TableOk img (remapped img t n x) := by
  have ht' := setPrimary_sized ht n (some x)
  have hprim := givenOnce_setPrimary ht hn h.2.1 hx
  have hread := targetIn_setTarget ht' hn none
  rw [remapped_of_none ht hn hup hnone]
  split
  · refine offer_tableOk (setTarget_sized ht' n none) ⟨givenOnce_update (x := x) (a := n) h.1
      (fun m _ hmn => .inl ?_) (.inl ?_) fun m hm hmn => ?_, hprim, fun m hm => signOk_released ht h hn hup hm⟩ _
    · rw [hread, if_neg hmn]; rfl
    · rw [hread, if_pos rfl]
    · rw [hread, if_neg hmn]
      intro hmx
      have := ((h.2.2 m hm).1 x hmx).1
      rw [hup] at this
      cases this
  · next htn =>
    refine ⟨h.1, hprim, fun m hm => ?_⟩
    by_cases hmn : m = n
    · subst hmn
      exact signOk_none (t := setPrimary t m (some x)) htn (primaryDown_new ht hn hup)
    · exact signOk_setPrimary ht hn hmn (h.2.2 m hm)

theorem remapped_tableOk {img : Image} {t : Placement} (ht : t.Sized) (h : TableOk img t) {n x : Nat}
    (hn : n < 24) (hx : NoPrimary t x) : TableOk img (remapped img t n x) := by
  cases hup : upIn t x with
  | true => exact remapped_tableOk_chosen ht h hn hx (chosen_primary ht h hn hx hup)
  | false =>
    cases hv : standbyFor img t n with
    | some v => exact remapped_tableOk_chosen ht h hn hx (chosen_standby ht hn hup hv)
    | none => exact remapped_tableOk_none ht h hn hx hup hv

open Classical in
theorem remapped_target_none {img : Image} {t : Placement} (ht : t.Sized) (h : TableOk img t) {n x : Nat}
    (hn : n < 24) (hup : upIn t x = false) (hnone : standbyFor img t n = none) {m : Nat} (hm : m < 24) :
    targetIn (remapped img t n x) m = if m = n then none else
      match targetIn t n with
      | some y => if FirstWaiting img t y m then some y else targetIn t m
      | none => targetIn t m := by
  have ht' := setPrimary_sized ht n (some x)
  have hread := targetIn_setTarget ht' hn none
  rw [remapped_of_none ht hn hup hnone]
  cases hy : targetIn t n with
  | none =>
    dsimp only
    split
    · next hmn => rw [hmn]; exact hy
    · rfl
  | some y =>
    have hyup : upIn t y = true := ((h.2.2 n hn).1 y hy).1
    have hst : (imageSign img n).standby ≠ some y := fun hst => by
      have : standbyFor img t n = some y := standbyFor_eq_some.2 ⟨hst, hyup, freeFor_iff.2 fun k hk hkn hky =>
        hkn (h.1 k hk n hn y hky hy)⟩
      rw [hnone] at this
      cases this
    have hfree : unused (setTarget (setPrimary t n (some x)) n none) y = true := unused_iff.2 fun k hk => by
      rw [hread]
      split
      · exact fun h => by cases h
      · next hkn => exact fun hky => hkn (h.1 k hk n hn y hky hy)
    have hwait : ∀ k, waits img (setTarget (setPrimary t n (some x)) n none) y k = waits img t y k := fun k =>
      waits_congr fun hk => by
        have hkn : k ≠ n := fun hkn => hst (hkn ▸ hk)
        rw [hread, if_neg hkn]
        exact ⟨Iff.rfl, fun _ => primaryDown_setPrimary ht hn hkn⟩
    dsimp only
    rw [offer_target (setTarget_sized ht' n none) hyup hfree hm,
      if_congr (firstWaiting_congr m fun k _ => hwait k) rfl rfl, hread]
    by_cases hmn : m = n
    · rw [if_pos hmn, if_pos hmn, if_neg]
      intro hfw
      exact hst (hmn ▸ (waits_iff.1 hfw.1).2.1)
    · rw [if_neg hmn, if_neg hmn]
      rfl

theorem remapped_rest (img : Image) (t : Placement) (n x : Nat) :
    (remapped img t n x).primaries = t.primaries.set n (some x) ∧ (remapped img t n x).up = t.up := by
  rw [remapped_eq]
  split
  · split
    · exact ⟨rfl, rfl⟩
    · exact takeStation_rest ..
  · split
    · exact offer_rest ..
    · exact ⟨rfl, rfl⟩

end Sys2Proof.Machine

/-! PROOF. Every step keeps the placement table and the station records consistent (R7–R13, R162–R170); settles
O58. -/

namespace Sys2Proof.Machine

set_option Elab.async false

open Sys2Proof

/-! ## The placement table -/

/-- The tables have their sizes and the placement table is consistent. -/
def PlacementSound (s : State) : Prop := TablesOk s ∧ PlacementOk s

theorem placementSound_frame {s t : State} (h : ∀ a ∈ [Area.placement, .tables], a.kept s t)
    (himg : t.image = s.image) (hs : PlacementSound s) : PlacementSound t := by
  obtain ⟨ht, hp⟩ := hs
  have hplace : t.placement = s.placement := h .placement (by simp)
  obtain ⟨-, hsizes⟩ : t.image = s.image ∧ tableSizes t = tableSizes s := h .tables (by simp)
  refine ⟨?_, ?_⟩
  · rw [tablesOk_iff, himg, hsizes]; exact (tablesOk_iff s).1 ht
  · rw [placementOk_iff, himg, hplace]; exact (placementOk_iff s).1 hp

theorem placementSound_leaves {l : List Area} {s t : State} (h : Leaves l s t) (hs : PlacementSound s)
    (hl : Area.placement ∉ l ∧ Area.tables ∉ l := by decide) : PlacementSound t :=
  placementSound_frame
    (fun a ha => h.kept a (by rcases List.mem_pair.1 ha with rfl | rfl <;> [exact hl.1; exact hl.2]))
    (h.image hl.2) hs

theorem placementSound_replaceTable {s : State} {t : Placement} (hsz : s.placement.sized t)
    (hok : TableOk s.image t) (hs : PlacementSound s) : PlacementSound (replaceTable s t) :=
  ⟨(leaves_replaceTable s t hsz).tablesOk hs.1, (placementOk_iff _).2 hok⟩

theorem placementSound_left {s : State} {x : Nat} (hx : x < 32) (hs : PlacementSound s) :
    PlacementSound (placementLeft s x) :=
  placementSound_replaceTable (sized_departed ..)
    (departed_tableOk (placement_sized hs.1) ((placementOk_iff s).1 hs.2) hx) hs

theorem placementSound_entered {s : State} {x : Nat} (hx : x < 32) (hs : PlacementSound s) :
    PlacementSound (placementEntered s x) :=
  placementSound_replaceTable (sized_entered ..)
    (entered_tableOk (placement_sized hs.1) ((placementOk_iff s).1 hs.2) hx) hs

theorem placementSound_keptByOwners {x : Nat} (hx : x < 32) :
    KeptByOwners PlacementSound [.placement, .tables] x where
  areas := by decide
  frame := fun _ _ => placementSound_frame
  left := fun _ => placementSound_left hx
  entered := fun _ => placementSound_entered hx
  recorded := fun s g r => placementSound_leaves (leaves_gateRecorded s g r)
  lost := fun s g => placementSound_leaves (leaves_gateLost s g)
  report := fun s r => placementSound_leaves (leaves_stationReport s x r)
  tripLost := fun s => placementSound_leaves (leaves_tripLost s x)

theorem argsRemap_some {s : State} {l : List Byte} {a : Nat × Nat} (h : argsRemap s l = some a) :
    a.1 < 24 ∧ a.2 < 32 := by
  unfold argsRemap at h
  split at h
  · split at h
    · next hok =>
      cases h
      simp only [Bool.and_eq_true, signOk, stationOk, decide_eq_true_eq] at hok
      exact ⟨hok.1.1, hok.1.2⟩
    · cases h
  · cases h

theorem noPrimary_of_run {s : State} {n x : Nat}
    (hothers : ¬(List.range 24).any (fun m => m != n && s.primary m == some x) = true)
    (hown : ¬(s.primary n == some x) = true) : NoPrimary s.placement x := by
  intro m hm hmx
  by_cases hmn : m = n
  · exact hown (hmn ▸ beq_iff_eq.2 hmx)
  · exact hothers (List.any_eq_true.2 ⟨m, List.mem_range.2 hm, by
      rw [Bool.and_eq_true, bne_iff_ne, beq_iff_eq]; exact ⟨hmn, hmx⟩⟩)

theorem placementSound_runRemap {s : State} (p : Nat) {a : Nat × Nat} (hn : a.1 < 24) (hs : PlacementSound s) :
    PlacementSound (runRemap s p a).state := by
  unfold runRemap
  split
  · exact hs
  · next hothers =>
    split
    · exact hs
    · next hown =>
      exact placementSound_replaceTable (sized_remapped ..) (remapped_tableOk (placement_sized hs.1)
        ((placementOk_iff s).1 hs.2) hn (noPrimary_of_run hothers hown)) hs

theorem event_placementSound {c : Instr} {s t : State} (hs : PlacementSound s)
    (hl : Area.placement ∈ eventAreas c) (h : exec c s = .next t) : PlacementSound t := by
  cases c
  case placementDeparture x =>
    obtain ⟨hok, rfl⟩ := onObject_next h
    exact placementSound_left (by simpa [stationOk] using hok) (placementSound_leaves (leaves_taking s _) hs)
  case placementEntry x =>
    obtain ⟨hok, rfl⟩ := onObject_next h
    exact placementSound_entered (by simpa [stationOk] using hok) (placementSound_leaves (leaves_taking s _) hs)
  case attentionButton x =>
    obtain ⟨hok, rfl⟩ := onObject_next h
    exact (placementSound_keptByOwners (by simpa [stationOk] using hok)).press s hs
  all_goals simp [eventAreas, segAreas, gateAreas, zoneAreas, weatherAreas, signAreas, stackAreas, stationAreas,
    answerAreas] at hl

theorem exec_placementOk {c : Instr} {s t : State} (hc : c ≠ .startUp) (ht : TablesOk s)
    (hs : PlacementOk s) (h : exec c s = .next t) : PlacementOk t :=
  exec_keeps [.placement]
    (fun u v hk himg hu => by
      have hplace : v.placement = u.placement := hk .placement (by simp)
      rw [placementOk_iff, himg, hplace]; exact (placementOk_iff u).1 hu)
    (fun k u p x _ hk htk htu hu => by
      have hargs := checkedArgs_parse htk.args
      have hsound : PlacementSound (popFrame u p) := ⟨htu, hu⟩
      cases k with
      | remap => exact (placementSound_runRemap p (argsRemap_some hargs).1 hsound).2
      | stationOff =>
        exact ((placementSound_keptByOwners (by simpa [stationOk] using argsIndex_ok hargs)).stationOff _ p hsound).2
      | _ => exact absurd hk (by decide))
    (fun _ _ _ _ _ hk htu hu h => (event_placementSound ⟨htu, hu⟩ (by simpa using hk) h).2) hc ht hs h

/-- A value that no two entries of a list have decides its entry. -/
theorem filterMap_getD_inj {α β : Type} {f : α → Option β} {d : α} (hd : f d = none) {l : List α}
    (h : (l.filterMap f).Nodup) {i j : Nat} {x : β} (hi : f (l.getD i d) = some x) (hj : f (l.getD j d) = some x) :
    i = j := by
  have hlt : ∀ k, f (l.getD k d) = some x → k < l.length := fun k hk => by
    by_contra hn
    rw [List.getD_eq_default _ _ (Nat.not_lt.1 hn), hd] at hk
    cases hk
  have hpair := List.pairwise_iff_getElem.1 (List.pairwise_filterMap.1 h)
  have hi' := hlt i hi
  have hj' := hlt j hj
  rw [← List.getElem_eq_getD (h := hi')] at hi
  rw [← List.getElem_eq_getD (h := hj')] at hj
  rcases Nat.lt_trichotomy i j with hij | hij | hij
  · exact absurd rfl (hpair i j hi' hj' hij x hi x hj)
  · exact hij
  · exact absurd rfl (hpair j i hj' hi' hij x hj x hi)

theorem imageAccepted_signs {img : Image} (h : imageAccepted img = true) :
    (img.signs.filterMap (·.primary)).Nodup ∧ (img.signs.filterMap (·.beacon)).Nodup := by
  simp only [imageAccepted, signsOk, Bool.and_eq_true] at h
  obtain ⟨⟨⟨-, ⟨-, hp⟩, hb⟩, -⟩, -⟩ := h
  exact ⟨noRepeat_nodup hp, noRepeat_nodup hb⟩

/-- No two signs of an accepted image have one primary (R6). -/
theorem imagePrimary_inj {img : Image} (h : imageAccepted img = true) {n m x : Nat}
    (hn : (imageSign img n).primary = some x) (hm : (imageSign img m).primary = some x) : n = m :=
  filterMap_getD_inj rfl (imageAccepted_signs h).1 hn hm

theorem startUp_placementOk {s t : State} (h : exec .startUp s = .next t) : PlacementOk t := by
  have hacc : imageAccepted (reload s.loader).image = true := loadImage_accepted ..
  rw [exec_startUp] at h
  rw [← Host.Outcome.next.inj h]
  generalize reload s.loader = l at hacc
  generalize s.auth.keyLine = key, s.field.stations.map (·.contactClosed) = contacts, s.pending = pending
  have htgt : ∀ n, targetIn (boot l key contacts pending).placement n = none := fun n => by
    show (List.replicate 24 none).getD n none = none
    by_cases hn : n < 24
    · exact List.getD_replicate _ hn
    · exact List.getD_eq_default _ _ (by simpa using hn)
  have hup : ∀ x, upIn (boot l key contacts pending).placement x = false := fun x => by
    show (List.replicate 32 false).getD x false = false
    by_cases hx : x < 32
    · exact List.getD_replicate _ hx
    · exact List.getD_eq_default _ _ (by simpa using hx)
  have hprim : ∀ n < 24, primaryIn (boot l key contacts pending).placement n = (imageSign l.image n).primary :=
    fun n hn => by
      show ((List.range 24).map fun n => (imageSign l.image n).primary).getD n none = _
      simp [List.getD, hn]
  rw [placementOk_iff]
  refine ⟨fun n _ m _ x hx => by simp [htgt] at hx, fun n hn m hm x hnx hmx => ?_,
    fun n _ => signOk_none (htgt n) fun x _ => hup x⟩
  rw [hprim n hn] at hnx
  rw [hprim m hm] at hmx
  exact imagePrimary_inj hacc hnx hmx

/-! ## Stations -/

/-- One station's record by the type the image gives the drop. -/
def StationSound (img : Image) (x : Nat) (r : Station) : Prop :=
  r.ok ∧ (imageType img x = .unused → r.state = .absent)

theorem station_cause_none {r : Station} (h : r.ok) (hst : r.state ≠ .faulted) : r.cause = none := by
  obtain ⟨-, -, hcause, -⟩ := h
  rw [← Option.not_isSome_iff_eq_none]
  exact fun hs => hst (hcause.1 hs)

/-- A station that has entered a state, as `enterStation` leaves its record. -/
def Station.entering (r : Station) (st : StationState) : Station :=
  { r with state := st, power := st.power, indicator := st.indicator }

theorem stationSound_entering {img : Image} {x : Nat} {r : Station} {st : StationState}
    (hcause : r.cause.isSome = true ↔ st = .faulted) (hmissed : r.missed ≤ 2) (htries : r.quiesceTries ≤ 2)
    (hused : imageType img x ≠ .unused ∨ st = .absent) : StationSound img x (r.entering st) :=
  ⟨⟨rfl, .inl rfl, hcause, hmissed, htries⟩, fun hu => hused.resolve_left fun h => h hu⟩

theorem stationsOk_iff (s : State) : StationsOk s ↔ (∀ x < 32, StationSound s.image x (s.station x)) ∧
    ∀ x ∈ s.field.startSeq, x < 32 ∧ imageType s.image x ≠ .unused := Iff.rfl

theorem stationSound_unmarked {img : Image} {x : Nat} {r q : Station} (h : q.unmarked = r.unmarked)
    (hr : StationSound img x r) : StationSound img x q := by
  have hr' : StationSound img x r.unmarked := hr
  rw [← h] at hr'
  exact hr'

theorem station_unmarked {s t : State} (h : Area.stations.kept s t) (x : Nat) :
    (t.station x).unmarked = (s.station x).unmarked := by
  have hread : ∀ l : List Station, (l.getD x default).unmarked = (l.map Station.unmarked).getD x default :=
    fun l => (getD_map_default Station.unmarked l x default default rfl).symm
  rw [State.station, State.station, hread, hread, h.2]

theorem station_state_kept {s t : State} (h : Area.stations.kept s t) (x : Nat) :
    (t.station x).state = (s.station x).state := by
  show (t.station x).unmarked.state = (s.station x).unmarked.state
  rw [station_unmarked h x]

theorem stationsOk_frame {s t : State} (h : Area.stations.kept s t) (himg : t.image = s.image)
    (hs : StationsOk s) : StationsOk t := by
  obtain ⟨hall, hseq⟩ := hs
  refine (stationsOk_iff t).2 ⟨fun x hx => ?_, ?_⟩
  · rw [himg]
    exact stationSound_unmarked (station_unmarked h x) (hall x hx)
  · rw [h.1, himg]
    exact hseq

theorem stationsOk_leaves {l : List Area} {s t : State} (h : Leaves l s t) (hs : StationsOk s)
    (hl : Area.stations ∉ l ∧ Area.tables ∉ l := by decide) : StationsOk t :=
  stationsOk_frame (h.kept _ hl.1) (h.image hl.2) hs

theorem setStation_station_cases (s : State) (x : Nat) (v : Station) (y : Nat) :
    (s.setStation x v).station y = s.station y ∨ y = x ∧ (s.setStation x v).station y = v := by
  by_cases hyx : y = x
  · by_cases hlen : x < s.field.stations.length
    · exact .inr ⟨hyx, by rw [hyx, State.setStation_station_self _ _ _ hlen]⟩
    · refine .inl ?_
      have hset : s.setStation x v = s := by
        simp only [State.setStation, List.set_eq_of_length_le (Nat.not_lt.1 hlen)]
        rfl
      rw [hset]
  · exact .inl (State.setStation_station_ne _ _ _ _ hyx)

theorem stationsOk_setStation {s : State} {x : Nat} {v : Station} (hs : StationsOk s)
    (hv : x < 32 → StationSound s.image x v) : StationsOk (s.setStation x v) := by
  refine ⟨fun y hy => ?_, hs.2⟩
  rcases setStation_station_cases s x v y with h | ⟨hyx, h⟩
  · rw [h]; exact hs.1 y hy
  · subst hyx
    rw [h]
    exact hv hy

/-- A change that touches neither state, cause, power, indicator nor the counts. -/
theorem stationsOk_setStation_same {s : State} {x : Nat} {v : Station} (hs : StationsOk s)
    (hv : StationSound s.image x (s.station x) → StationSound s.image x v) : StationsOk (s.setStation x v) :=
  stationsOk_setStation hs fun hx => hv (hs.1 x hx)

theorem stationsOk_field {s : State} {f : Field} (hs : StationsOk s) (hst : f.stations = s.field.stations)
    (hseq : ∀ x ∈ f.startSeq, x ∈ s.field.startSeq) : StationsOk (s.setField f) := by
  refine ⟨fun x hx => ?_, fun x hx => hs.2 x (hseq x hx)⟩
  have : (s.setField f).station x = s.station x := congrArg (fun l : List Station => l.getD x default) hst
  rw [this]
  exact hs.1 x hx

theorem stationsOk_grantBus {s : State} (hs : StationsOk s) : StationsOk (grantBus s) := by
  unfold grantBus
  split
  · exact hs
  · split
    · next x _ =>
      exact stationsOk_field (s := s.setStation x { s.station x with identDue := false })
        (stationsOk_setStation_same hs fun h => h) rfl fun _ h => h
    · exact stationsOk_field hs rfl fun _ h => h

theorem stationsOk_endBus {s : State} (hs : StationsOk s) : StationsOk (endBus s) :=
  stationsOk_grantBus (stationsOk_field hs rfl fun _ h => h)

theorem stationsOk_abandonBus {s : State} (x : Nat) (hs : StationsOk s) : StationsOk (abandonBus s x) := by
  unfold abandonBus
  split
  · split
    · exact stationsOk_field hs rfl fun _ h => h
    · exact hs
  · exact hs

theorem stationsOk_enterStation {s : State} {x : Nat} {r : Station} {st : StationState} (cause : StationCause)
    (hs : StationsOk s) (hr : x < 32 → StationSound s.image x (r.entering st)) :
    StationsOk (enterStation s x r st cause) :=
  stationsOk_leaves (leaves_stationNotice _ x cause) (stationsOk_setStation hs hr)

theorem stationsOk_deliver {s : State} (l : List Instr) (hs : StationsOk s) : StationsOk (s.deliver l) :=
  stationsOk_leaves (leaves_deliver s l) hs

/-- A used drop whose counts are kept enters a state other than FAULTED. -/
theorem stationSound_moves {s : State} {x : Nat} {r : Station} (st : StationState) (hs : StationsOk s) (hx : x < 32)
    (hold : (s.station x).state ≠ .faulted ∨ r.cause = none) (hcause : r.cause = (s.station x).cause ∨ r.cause = none)
    (hmissed : r.missed ≤ (s.station x).missed) (htries : r.quiesceTries ≤ (s.station x).quiesceTries)
    (hst : st ≠ .faulted) (hused : imageType s.image x ≠ .unused) :
    StationSound s.image x (r.entering st) := by
  obtain ⟨hok, -⟩ := hs.1 x hx
  have hnone : r.cause = none := by
    rcases hold with h | h
    · exact hcause.elim (fun hc => hc.trans (station_cause_none hok h)) id
    · exact h
  obtain ⟨-, -, -, hm, ht⟩ := hok
  exact stationSound_entering (by simp [hnone, hst]) (hmissed.trans hm) (htries.trans ht) (.inl hused)

theorem stationsOk_powerFirst {s : State} (hs : StationsOk s) : StationsOk (powerFirst s) := by
  unfold powerFirst
  split
  · next x xs hseq =>
    obtain ⟨-, hused⟩ := hs.2 x (by simp [hseq])
    split
    · next habs =>
      have habs : (s.station x).state = .absent := beq_iff_eq.1 habs
      exact stationsOk_enterStation _ hs fun hx => stationSound_moves .powering hs hx (.inl (by simp [habs]))
        (.inl rfl) (Nat.le_refl _) (Nat.le_refl _) (by simp) hused
    · exact hs
  · exact hs

theorem stationsOk_advanceSeq {s : State} (x : Nat) (hs : StationsOk s) : StationsOk (advanceSeq s x) := by
  unfold advanceSeq
  split
  · next y ys hseq =>
    split
    · exact stationsOk_powerFirst (stationsOk_field hs rfl fun z hz => by rw [hseq]; exact List.mem_cons_of_mem _ hz)
    · exact hs
  · exact hs

theorem stationsOk_leftPowering {s : State} (was : StationState) (x : Nat) (hs : StationsOk s) :
    StationsOk (leftPowering was s x) := by
  unfold leftPowering
  split
  · exact stationsOk_advanceSeq x hs
  · exact hs

/-- A station leaves service, and bus and start-up sequence go on without it. -/
theorem stationsOk_dropStation {s : State} {x : Nat} {r : Station} {st : StationState} (was : StationState)
    (cause : StationCause) (l : List Instr) (hs : StationsOk s)
    (hr : x < 32 → StationSound s.image x (r.entering st)) :
    StationsOk (grantBus (abandonBus (leftPowering was ((enterStation s x r st cause).deliver l) x) x)) :=
  stationsOk_grantBus (stationsOk_abandonBus x (stationsOk_leftPowering was x
    (stationsOk_deliver l (stationsOk_enterStation cause hs hr))))

theorem stationsOk_faultStation {s : State} {x : Nat} (f : StationFault) (cause : StationCause)
    (hs : StationsOk s) (hused : imageType s.image x ≠ .unused) : StationsOk (faultStation s x f cause) :=
  stationsOk_dropStation _ cause _ hs fun _ => stationSound_entering (by simp [outOfService]) (Nat.zero_le _)
    (Nat.zero_le _) (.inl hused)

theorem stationsOk_powerStation {s : State} {x : Nat} (cause : StationCause) (hs : StationsOk s)
    (hused : imageType s.image x ≠ .unused) : StationsOk (powerStation s x cause) :=
  stationsOk_enterStation cause hs fun hx => stationSound_moves .powering hs hx (.inr rfl) (.inr rfl) (Nat.le_refl _)
    (Nat.le_refl _) (by simp) hused

theorem stationsOk_contactCloses {s : State} (x : Nat) (hs : StationsOk s) : StationsOk (contactCloses s x) := by
  have hset : StationsOk (s.setStation x { s.station x with contactClosed := true }) :=
    stationsOk_setStation_same hs fun h => h
  unfold contactCloses
  dsimp only
  split
  · next hok =>
    simp only [Bool.and_eq_true, bne_iff_ne] at hok
    exact stationsOk_powerStation _ hset hok.1
  · exact hset

theorem stationsOk_contactOpens {s : State} (x : Nat) (hs : StationsOk s) : StationsOk (contactOpens s x) := by
  unfold contactOpens
  dsimp only
  split
  · exact stationsOk_field (s := s.setStation x { s.station x with contactClosed := false })
      (stationsOk_setStation_same hs fun h => h) rfl fun y hy => (List.mem_filter.1 hy).1
  · exact stationsOk_dropStation _ _ _ hs fun _ => stationSound_entering (by simp [outOfService]) (Nat.zero_le _)
      (Nat.zero_le _) (.inr rfl)

/-- A drop in a state other than ABSENT is used. -/
theorem used_of_state {s : State} {x : Nat} (hs : StationsOk s) (hx : x < 32) {st : StationState}
    (h : (s.station x).state = st) (hst : st ≠ .absent) : imageType s.image x ≠ .unused :=
  fun hu => hst (h ▸ (hs.1 x hx).2 hu)

theorem stationsOk_settles {s : State} {x : Nat} (hx : x < 32) (hs : StationsOk s)
    (hst : (s.station x).state = .powering) :
    StationsOk (advanceSeq (enterStation s x { s.station x with identDue := false } .identifying .settled) x) :=
  stationsOk_advanceSeq x (stationsOk_enterStation _ hs fun _ => stationSound_moves .identifying hs hx
    (.inl (by simp [hst])) (.inl rfl) (Nat.le_refl _) (Nat.le_refl _) (by simp) (used_of_state hs hx hst (by simp)))

theorem stationsOk_identify {s : State} {x : Nat} (m : ModuleReport) (serial : Word) (hx : x < 32)
    (hs : StationsOk s) (hst : (s.station x).state = .identifying) : StationsOk (identify s x m serial) := by
  have hused := used_of_state hs hx hst (by simp)
  unfold identify
  dsimp only
  split
  · exact stationsOk_endBus (stationsOk_deliver _ (stationsOk_enterStation _ hs fun _ =>
      stationSound_moves .active hs hx (.inl (by simp [hst])) (.inl rfl) (Nat.zero_le _) (Nat.le_refl _) (by simp)
        hused))
  · refine stationsOk_faultStation (s := s.setStation x _) _ _ (stationsOk_setStation_same hs fun h => ?_) hused
    obtain ⟨⟨hpower, hind, hcause, -, htries⟩, habs⟩ := h
    exact ⟨⟨hpower, hind, hcause, Nat.zero_le _, htries⟩, habs⟩

theorem stationsOk_carriedNow {s : State} (x : Nat) (c : Carriage) (hs : StationsOk s) :
    StationsOk (carriedNow s x c) := stationsOk_leaves (leaves_carriedNow s x c) hs

theorem stationsOk_lostAnswers {s : State} {x : Nat} (hx : x < 32) (hs : StationsOk s)
    (hst : (s.station x).state = .lost) : StationsOk (lostAnswers s x) :=
  stationsOk_endBus (stationsOk_enterStation _ hs fun _ => stationSound_moves .identifying hs hx
    (.inl (by simp [hst])) (.inl rfl) (Nat.le_refl _) (Nat.le_refl _) (by simp) (used_of_state hs hx hst (by simp)))

theorem stationsOk_activeAnswers {s : State} (x : Nat) (a : PollAnswer) (hs : StationsOk s) :
    StationsOk (activeAnswers s x a) := by
  refine stationsOk_endBus (stationsOk_deliver _ (stationsOk_carriedNow x _ (stationsOk_setStation_same hs
    fun h => ?_)))
  obtain ⟨⟨hpower, hind, hcause, -, htries⟩, habs⟩ := h
  exact ⟨⟨hpower, hind, hcause, Nat.zero_le _, htries⟩, habs⟩

theorem stationsOk_pollAnswer {s : State} {x : Nat} (a : PollAnswer) (hx : x < 32) (hs : StationsOk s) :
    StationsOk (pollAnswer s x a) := by
  unfold pollAnswer
  split
  · split
    · exact stationsOk_activeAnswers x a hs
    · exact hs
  · next hst => exact stationsOk_lostAnswers hx hs hst
  all_goals exact stationsOk_endBus hs

theorem stationsOk_activeMisses {s : State} {x : Nat} (hx : x < 32) (hs : StationsOk s)
    (hst : (s.station x).state = .active) : StationsOk (activeMisses s x) := by
  unfold activeMisses
  dsimp only
  split
  · next hlt =>
    refine stationsOk_setStation_same hs fun h => ?_
    obtain ⟨⟨hpower, hind, hcause, -, htries⟩, habs⟩ := h
    exact ⟨⟨hpower, hind, hcause, by dsimp only; omega, htries⟩, habs⟩
  · exact stationsOk_deliver _ (stationsOk_enterStation _ hs fun _ => stationSound_moves .lost hs hx
      (.inr rfl) (.inr rfl) (Nat.zero_le _) (Nat.zero_le _) (by simp) (used_of_state hs hx hst (by simp)))

theorem stationsOk_switchOff {s : State} {x : Nat} (hx : x < 32) (hs : StationsOk s)
    (hst : (s.station x).state = .quiescing) : StationsOk (switchOff s x) :=
  stationsOk_endBus (stationsOk_enterStation _ hs fun _ => stationSound_moves .off hs hx
    (.inl (by simp [hst])) (.inl rfl) (Nat.le_refl _) (Nat.le_refl _) (by simp) (used_of_state hs hx hst (by simp)))

theorem stationsOk_quiesceMisses {s : State} {x : Nat} (hx : x < 32) (hs : StationsOk s)
    (hst : (s.station x).state = .quiescing) : StationsOk (quiesceMisses s x) := by
  unfold quiesceMisses
  dsimp only
  split
  · next hlt =>
    refine stationsOk_endBus (stationsOk_setStation_same hs fun h => ?_)
    obtain ⟨⟨hpower, hind, hcause, hmissed, -⟩, habs⟩ := h
    exact ⟨⟨hpower, hind, hcause, hmissed, by dsimp only; omega⟩, habs⟩
  · exact stationsOk_switchOff hx hs hst

/-- The state of a station as the owner of its role leaves it. -/
theorem roleTaken_state (s : State) (x y : Nat) : ((roleTaken s x).station y).state = (s.station y).state :=
  station_state_kept ((leaves_roleTaken s x).kept .stations (by decide)) y

theorem stationsOk_quiesce {s : State} {x : Nat} (cause : StationCause) (hx : x < 32) (hs : StationsOk s)
    (hst : (s.station x).state = .active) : StationsOk (quiesceStation (roleTaken s x) x cause) := by
  have hs' : StationsOk (roleTaken s x) := stationsOk_leaves (leaves_roleTaken s x) hs
  have hst' := (roleTaken_state s x x).trans hst
  refine stationsOk_leaves (leaves_departAtOnce _ x) (stationsOk_enterStation _ hs' fun _ =>
    stationSound_moves .quiescing hs' hx (.inl ?_) (.inl rfl) (Nat.le_refl _) (Nat.zero_le _) (by simp)
      (used_of_state hs' hx hst' (by simp)))
  rw [hst']
  simp

theorem stationsOk_press {s : State} {x : Nat} (hx : x < 32) (hs : StationsOk s) : StationsOk (press s x) := by
  unfold press
  split
  · next hst =>
    split
    · refine stationsOk_leaves (leaves_stationNotice _ x _) (stationsOk_setStation_same hs fun h => ?_)
      obtain ⟨⟨hpower, -, hcause, hmissed, htries⟩, habs⟩ := h
      exact ⟨⟨hpower, .inr ⟨hst, rfl⟩, hcause, hmissed, htries⟩, habs⟩
    · exact stationsOk_quiesce _ hx hs hst
  · next hst => exact stationsOk_powerStation _ hs (used_of_state hs hx hst (by simp))
  all_goals exact hs

theorem countLost_station (s : State) (f : Field) (hf : f.stations = s.field.stations.map countLost) (x : Nat) :
    (s.setField f).station x = countLost (s.station x) := by
  show f.stations.getD x default = _
  rw [hf]
  exact getD_map_default countLost _ x default default rfl

theorem stationSound_countLost {img : Image} {x : Nat} {r : Station} (h : StationSound img x r) :
    StationSound img x (countLost r) := by
  unfold countLost
  split
  · exact h
  · exact h

theorem stationsOk_beginRound {s : State} (hs : StationsOk s) : StationsOk (beginRound s) := by
  refine stationsOk_grantBus ⟨fun x hx => ?_, hs.2⟩
  rw [countLost_station s _ rfl]
  exact stationSound_countLost (hs.1 x hx)

theorem stationsOk_runStationOff {s : State} (p : Nat) {x : Nat} (hx : x < 32) (hs : StationsOk s) :
    StationsOk (runStationOff s p x).state := by
  unfold runStationOff
  split
  · exact hs
  · next hno =>
    simp only [Bool.or_eq_true, bne_iff_ne, not_or, not_not] at hno
    exact stationsOk_quiesce _ hx hs hno.1

theorem stationsOk_runStationRestart {s : State} (p : Nat) {x : Nat} (hx : x < 32) (hs : StationsOk s) :
    StationsOk (runStationRestart s p x).state := by
  unfold runStationRestart
  split
  · next hok =>
    simp only [Bool.or_eq_true, beq_iff_eq] at hok
    refine stationsOk_powerStation _ hs ?_
    rcases hok with hst | hst
    · exact used_of_state hs hx hst (by simp)
    · exact used_of_state hs hx hst (by simp)
  · exact hs

/-! ## Events -/

/-- A powered drop is not ABSENT. -/
theorem used_of_power {s : State} {x : Nat} (hs : StationsOk s) (hx : x < 32) (h : (s.station x).power = true) :
    imageType s.image x ≠ .unused := by
  obtain ⟨⟨hpower, -⟩, habs⟩ := hs.1 x hx
  intro hu
  rw [habs hu, h] at hpower
  cases hpower

theorem onStation_next {x : Nat} {t u : State} (h : onObject (stationOk x) t = .next u) : x < 32 ∧ t = u := by
  obtain ⟨hok, rfl⟩ := onObject_next h
  exact ⟨by simpa [stationOk] using hok, rfl⟩

theorem event_stationsOk {c : Instr} {s t : State} (hs : StationsOk s) (hl : Area.stations ∈ eventAreas c)
    (h : exec c s = .next t) : StationsOk t := by
  cases c
  case secondBoundary => cases h; exact hs
  case startupSequenceBegin =>
    rw [← Host.Outcome.next.inj h]
    exact stationsOk_powerFirst (stationsOk_leaves (leaves_taking s _) hs)
  case faceCheckFailure x =>
    have ht : StationsOk (s.taking (.faceCheckFailure x)) := stationsOk_leaves (leaves_taking s _) hs
    obtain ⟨hok, rfl⟩ := onStation_next h
    split
    · next hst => exact stationsOk_faultStation _ _ ht (used_of_state ht hok (beq_iff_eq.1 hst) (by simp))
    · exact ht
  case pollRound =>
    have he := Host.Outcome.next.inj h
    rw [← he]
    split
    · exact hs
    · exact stationsOk_beginRound hs
  case presenceContactCloses x =>
    obtain ⟨hok, rfl⟩ := onStation_next h
    split
    · exact hs
    · exact stationsOk_contactCloses x hs
  case presenceContactOpens x =>
    obtain ⟨hok, rfl⟩ := onStation_next h
    split
    · exact stationsOk_contactOpens x hs
    · exact hs
  case powerSettleExpiry x =>
    obtain ⟨hok, rfl⟩ := onStation_next h
    split
    · next hst => exact stationsOk_settles hok hs (beq_iff_eq.1 hst)
    · exact hs
  case identRequest x =>
    obtain ⟨hok, rfl⟩ := onStation_next h
    split
    · exact stationsOk_grantBus (stationsOk_setStation_same hs fun h => h)
    · exact hs
  case identificationReport x m serial =>
    obtain ⟨hok, rfl⟩ := onStation_next h
    split
    · next hst =>
      simp only [Bool.and_eq_true, beq_iff_eq] at hst
      exact stationsOk_identify m serial hok hs hst.2
    · exact hs
  case identTimeout x =>
    obtain ⟨hok, rfl⟩ := onStation_next h
    split
    · next hst => exact stationsOk_faultStation _ _ hs (used_of_state hs hok (beq_iff_eq.1 hst) (by simp))
    · exact hs
  case pollAnswered x a =>
    obtain ⟨hok, rfl⟩ := onStation_next h
    split
    · exact stationsOk_pollAnswer a hok hs
    · exact hs
  case pollUnanswered x =>
    obtain ⟨hok, rfl⟩ := onStation_next h
    split
    · split
      · next hst => exact stationsOk_endBus (stationsOk_activeMisses hok hs (beq_iff_eq.1 hst))
      · exact stationsOk_endBus hs
    · split
      · exact stationsOk_endBus hs
      · exact hs
  case lostStationReply x =>
    obtain ⟨hok, rfl⟩ := onStation_next h
    split
    · next hst =>
      simp only [Bool.and_eq_true, beq_iff_eq] at hst
      exact stationsOk_lostAnswers hok hs hst.2
    · exact hs
  case overCurrentTrip x =>
    obtain ⟨hok, rfl⟩ := onStation_next h
    split
    · next hpow => exact stationsOk_faultStation _ _ hs (used_of_power hs hok hpow)
    · exact hs
  case attentionButton x =>
    obtain ⟨hok, rfl⟩ := onStation_next h
    exact stationsOk_press hok hs
  case refusalBlinkEnd x =>
    obtain ⟨hok, rfl⟩ := onStation_next h
    split
    · next hst =>
      refine stationsOk_setStation_same hs fun h => ?_
      obtain ⟨⟨hpower, -, hcause, hmissed, htries⟩, habs⟩ := h
      refine ⟨⟨hpower, .inl ?_, hcause, hmissed, htries⟩, habs⟩
      rw [show (s.station x).state = .active from beq_iff_eq.1 hst]
      rfl
    · exact hs
  case quiescingExchangeAnswered x =>
    obtain ⟨hok, rfl⟩ := onStation_next h
    split
    · next hst =>
      simp only [Bool.and_eq_true, beq_iff_eq] at hst
      have hst' := station_state_kept ((leaves_carriedNow s x (carrying s)).kept .stations (by decide)) x
      exact stationsOk_switchOff hok (stationsOk_carriedNow x _ hs) (hst'.trans hst.2)
    · exact hs
  case quiescingExchangeUnanswered x =>
    obtain ⟨hok, rfl⟩ := onStation_next h
    split
    · next hst =>
      simp only [Bool.and_eq_true, beq_iff_eq] at hst
      exact stationsOk_quiesceMisses hok hs hst.2
    · exact hs
  all_goals simp [eventAreas, segAreas, gateAreas, zoneAreas, weatherAreas, signAreas, stackAreas] at hl

theorem exec_stationsOk {c : Instr} {s t : State} (hc : c ≠ .startUp) (ht : TablesOk s)
    (hs : StationsOk s) (h : exec c s = .next t) : StationsOk t :=
  exec_keeps [.stations] (fun _ _ hk himg => stationsOk_frame (hk .stations (by simp)) himg)
    (fun k u p x _ hk htk _ hu => by
      have hargs := checkedArgs_parse htk.args
      cases k with
      | stationOff => exact stationsOk_runStationOff p (by simpa [stationOk] using argsIndex_ok hargs) hu
      | stationRestart => exact stationsOk_runStationRestart p (by simpa [stationOk] using argsIndex_ok hargs) hu
      | _ => exact absurd hk (by decide))
    (fun _ _ _ _ _ hk _ hu h => event_stationsOk hu (by simpa using hk) h) hc ht hs h

theorem startUp_stationsOk {s t : State} (h : exec .startUp s = .next t) : StationsOk t := by
  rw [exec_startUp] at h
  rw [← Host.Outcome.next.inj h]
  generalize reload s.loader = l, s.auth.keyLine = key, s.field.stations.map (·.contactClosed) = contacts,
    s.pending = pending
  refine ⟨fun x hx => ?_, fun x hx => ?_⟩
  · have hst : (boot l key contacts pending).station x = Station.reset (contacts.getD x false) := by
      show ((List.range 32).map fun x => Station.reset (contacts.getD x false)).getD x default = _
      simp [List.getD, hx]
    rw [hst]
    exact ⟨by simp [Station.ok, Station.reset, StationState.power, StationState.indicator], fun _ => rfl⟩
  · have hmem : x ∈ startSequence l.image contacts := hx
    simp only [startSequence, List.mem_filter, List.mem_range, Bool.and_eq_true, bne_iff_ne] at hmem
    exact ⟨hmem.1, hmem.2.1⟩

end Sys2Proof.Machine

namespace Sys2Proof

set_option Elab.async false

open Sys2Proof.Machine

/-- Settles O58: a change of the placement table gives each station to one sign and leaves no sign with an ACTIVE
primary another target; a station changes its state only by entering one, with the power and indicator of it. -/
theorem stepsKeepPlacementAndStations : Obligations.StepsKeepPlacementAndStations := fun _ _ ht h =>
  ⟨fun hs => (step_keeps (P := fun u => TablesOk u ∧ PlacementOk u) (fun _ => id)
      (fun _ _ _ h => ⟨startUp_tablesOk h, startUp_placementOk h⟩)
      (fun _ _ _ hc hu h => ⟨(exec_tables hc h hu.1).1, exec_placementOk hc hu.1 hu.2 h⟩) h ⟨ht, hs⟩).2,
    fun hs => (step_keeps (P := fun u => TablesOk u ∧ StationsOk u) (fun _ => id)
      (fun _ _ _ h => ⟨startUp_tablesOk h, startUp_stationsOk h⟩)
      (fun _ _ _ hc hu h => ⟨(exec_tables hc h hu.1).1, exec_stationsOk hc hu.1 hu.2 h⟩) h ⟨ht, hs⟩).2⟩

end Sys2Proof

/-! PROOF. What an event tells the ports, as the list of its notices (R177), and what an accepted command leaves:
its outcome, with the reply it owes (R174, R176). -/

namespace Sys2Proof.Machine

set_option Elab.async false

open Sys2Proof

/-! ## Notices at the ports -/

/-- Exactly these notices, in this order, have been placed at the ports. -/
def Told (l : List (Nat × NoticeBody)) (s t : State) : Prop := t.ports = s.ports.map (withNotices s l)

theorem withNotices_nil (s : State) (q : Port) : withNotices s [] q = q := rfl

theorem withNotices_cons (s : State) (x : Nat × NoticeBody) (l : List (Nat × NoticeBody)) (r : Port) :
    withNotices s (x :: l) r = withNotices s l (if r.subscription.getLsbD x.2.bit then
      r.pushNotice { index := x.1, stamp := s.clock.seconds, overflow := false, body := x.2 } else r) := rfl

theorem withNotices_clock {s t : State} (h : t.clock.seconds = s.clock.seconds) (l : List (Nat × NoticeBody)) :
    withNotices t l = withNotices s l := by
  funext q
  simp only [withNotices, h]

theorem withNotices_append (s : State) (l l' : List (Nat × NoticeBody)) (q : Port) :
    withNotices s (l ++ l') q = withNotices s l' (withNotices s l q) := List.foldl_append ..

theorem told_of_ports {s t : State} (h : t.ports = s.ports) : Told [] s t := by
  rw [Told, h]
  exact (List.map_id s.ports).symm

theorem told_refl (s : State) : Told [] s s := told_of_ports rfl

theorem told_notify (s : State) (i : Nat) (b : NoticeBody) : Told [(i, b)] s (s.notify i b) := by
  refine List.ext_getElem (by simp) fun q hq hq' => ?_
  simp [State.notify, State.notifyBut, withNotices]

theorem Told.trans {l l' : List (Nat × NoticeBody)} {s t u : State} (h : Told l s t) (k : Told l' t u)
    (hclock : t.clock.seconds = s.clock.seconds) : Told (l ++ l') s u := by
  rw [Told, k, h, List.map_map, withNotices_clock hclock]
  exact List.map_congr_left fun q _ => (withNotices_append s l l' q).symm

theorem Told.after {l : List (Nat × NoticeBody)} {s t u : State} (h : Told l s t) (k : u.ports = t.ports) :
    Told l s u := k.trans h

theorem Told.before {l : List (Nat × NoticeBody)} {s t u : State} (h : Told l t u) (k : t.ports = s.ports)
    (hclock : t.clock.seconds = s.clock.seconds) : Told l s u := (told_of_ports k).trans h hclock

/-- A list of operations, each with its notices. -/
theorem told_foldl {α : Type} {f : State → α → State} {g : State → α → List (Nat × NoticeBody)}
    (hf : ∀ s a, Told (g s a) s (f s a)) (hclock : ∀ s a, (f s a).clock.seconds = s.clock.seconds)
    {m : α → List (Nat × NoticeBody)} {R : State → List α → Prop}
    (hR : ∀ s a as, R s (a :: as) → R (f s a) as ∧ g s a = m a) (as : List α) :
    ∀ {s : State}, R s as → Told (as.flatMap m) s (as.foldl f s) := by
  induction as with
  | nil => exact fun _ => told_refl _
  | cons a as ih =>
    intro s hs
    obtain ⟨hnext, hg⟩ := hR s a as hs
    have := (hf s a).trans (ih hnext) (hclock s a)
    rwa [hg] at this

theorem withNotices_default (s : State) (l : List (Nat × NoticeBody)) : withNotices s l default = default := by
  induction l with
  | nil => rfl
  | cons x l ih =>
    have hsub : (default : Port).subscription.getLsbD x.2.bit = false := by
      show (0#7).getLsbD _ = false
      simp
    rw [withNotices_cons, hsub]
    exact ih

theorem Told.port {l : List (Nat × NoticeBody)} {s t : State} (h : Told l s t) (q : Nat) :
    t.port q = withNotices s l (s.port q) := by
  rw [State.port, h]
  exact getD_map_default _ _ _ _ _ (withNotices_default s l)

/-- Notices leave a port's line, its intake queue and its replies (R176, R177). -/
theorem withNotices_rest (s : State) (l : List (Nat × NoticeBody)) (q : Port) :
    (withNotices s l q).assembly = q.assembly ∧ (withNotices s l q).crcErrors = q.crcErrors ∧
      (withNotices s l q).subscription = q.subscription ∧ (withNotices s l q).lastSent = q.lastSent ∧
      (withNotices s l q).intake = q.intake ∧ (withNotices s l q).owed = q.owed := by
  induction l generalizing q with
  | nil => exact ⟨rfl, rfl, rfl, rfl, rfl, rfl⟩
  | cons x l ih =>
    have hstep : ∀ n : Notice, (q.pushNotice n).assembly = q.assembly ∧ (q.pushNotice n).crcErrors = q.crcErrors ∧
        (q.pushNotice n).subscription = q.subscription ∧ (q.pushNotice n).lastSent = q.lastSent ∧
        (q.pushNotice n).intake = q.intake ∧ (q.pushNotice n).owed = q.owed := fun n => by
      unfold Port.pushNotice
      split <;> exact ⟨rfl, rfl, rfl, rfl, rfl, rfl⟩
    rw [withNotices_cons]
    split
    · obtain ⟨h1, h2, h3, h4, h5, h6⟩ := ih (q.pushNotice _)
      obtain ⟨k1, k2, k3, k4, k5, k6⟩ := hstep { index := x.1, stamp := s.clock.seconds, overflow := false, body := x.2 }
      exact ⟨h1.trans k1, h2.trans k2, h3.trans k3, h4.trans k4, h5.trans k5, h6.trans k6⟩
    · exact ih q

section
variable {l : List (Nat × NoticeBody)} {s t : State}

theorem Told.noticesSent (h : Told l s t) : NoticesSent l s t := fun q _ => by
  rw [h.port q]
  exact ⟨rfl, rfl⟩

theorem Told.linesKept (h : Told l s t) : LinesKept s t := fun q _ => by
  rw [h.port q]
  obtain ⟨h1, h2, h3, h4, -, -⟩ := withNotices_rest s l (s.port q)
  exact ⟨h1, h2, h3, h4⟩

theorem Told.queues (h : Told l s t) (q : Nat) :
    (t.port q).intake = (s.port q).intake ∧ (t.port q).owed = (s.port q).owed := by
  rw [h.port q]
  obtain ⟨-, -, -, -, h5, h6⟩ := withNotices_rest s l (s.port q)
  exact ⟨h5, h6⟩

end

theorem noNotice_of_noticesSent {s t : State} (h : NoticesSent [] s t) : NoNotice s t := h

theorem oneNotice_of_noticesSent {i : Nat} {b : NoticeBody} {s t : State} (h : NoticesSent [(i, b)] s t) :
    OneNotice none i b s t := fun q hq => by
  have hone := h q hq
  have hn : withNotices s [(i, b)] (s.port q) = if (s.port q).subscription.getLsbD b.bit && some q != none then
      (s.port q).pushNotice { index := i, stamp := s.clock.seconds, overflow := false, body := b }
    else s.port q := by
    simp [withNotices]
  rw [hn] at hone
  exact hone

theorem noticeIf_of_noticesSent {c : Prop} [Decidable c] {i : Nat} {b : NoticeBody} {s t : State}
    (h : NoticesSent (if c then [(i, b)] else []) s t) : NoticeIf c i b s t :=
  ⟨fun hc => oneNotice_of_noticesSent (by rwa [if_pos hc] at h), fun hc => noNotice_of_noticesSent (by rwa [if_neg hc] at h)⟩

theorem Told.oneNotice {i : Nat} {b : NoticeBody} {s t : State} (h : Told [(i, b)] s t) : OneNotice none i b s t :=
  oneNotice_of_noticesSent h.noticesSent

theorem Told.noNotice {s t : State} (h : Told [] s t) : NoNotice s t := h.noticesSent

theorem Told.noticeIf {c : Prop} [Decidable c] {i : Nat} {b : NoticeBody} {s t : State}
    (h : Told (if c then [(i, b)] else []) s t) : NoticeIf c i b s t := noticeIf_of_noticesSent h.noticesSent

/-! ## The outcome of an accepted command -/

variable {α : Type}

/-- The state an accepted command leaves: its action on the state without its frame, and its reply owed. -/
def outcome (c : Command α) (s : State) (p : Nat) (a : α) : State :=
  (c.run (popFrame s p) p a).state.owe p
    { kind := replyKind c.kind.byte, code := (c.run (popFrame s p) p a).code,
      data := (c.run (popFrame s p) p a).data, executed := true }

theorem accepted_portOk {c : Command α} {s : State} {p : Nat} {a : α} (h : Accepted c s p a) : portOk p = true := by
  obtain ⟨body, hr, -⟩ := h
  exact hr.1

theorem accepted_port_lt {c : Command α} {s : State} {p : Nat} {a : α} (h : Accepted c s p a) : p < 4 := by
  simpa [portOk] using accepted_portOk h

/-- The arguments of an accepted command are what its body spells. -/
theorem accepted_parsed {c : Command α} {s : State} {p : Nat} {a : α} (h : Accepted c s p a) :
    ∃ body, nextFrame s p = some body ∧ c.parse s (bodyArgs body) = some a := by
  obtain ⟨body, hr, -, -, hargs, -⟩ := h
  exact ⟨body, hr.2.1, checkedArgs_parse hargs⟩

theorem exec_accepted {c : Command α} {s : State} {p : Nat} {a : α} {i : Instr}
    (hi : exec i s = onObject (portOk p) (takeCommand c p s)) (hc : c.PortFree) (h : Accepted c s p a) :
    exec i s = .next (outcome c s p a) := by
  rw [hi, accepted_portOk h, onObject_true, takeCommand_accepted hc h]
  rfl

/-- Where the object conditions fail the command is answered, and nothing else changes. -/
theorem outcome_answered {c : Command α} {s : State} {p : Nat} {a : α} {code : Result} {data : List Byte}
    (h : c.run (popFrame s p) p a = { code, data, state := popFrame s p }) :
    outcome c s p a = answered s p c.kind code data := by
  rw [outcome, h]
  rfl

/-- What the action changes, with the port. -/
theorem outcome_changesOnly {c : Command α} {s : State} {p : Nat} {a : α} {bs : List Block}
    (h : ChangesOnly bs (popFrame s p) (c.run (popFrame s p) p a).state) (hb : Block.ports ∈ bs) :
    ChangesOnly bs s (outcome c s p a) := by
  have hports : ∀ b ∈ [Block.ports], b ∈ bs := fun b hb' => List.mem_singleton.1 hb' ▸ hb
  exact (((changesOnly_popFrame s p).mono hports).trans h).trans ((changesOnly_owe _ p _).mono hports)

theorem popFrame_ports_length (s : State) (p : Nat) : (popFrame s p).ports.length = s.ports.length :=
  List.length_set

theorem popFrame_port_ne {s : State} {p q : Nat} (h : q ≠ p) : (popFrame s p).port q = s.port q :=
  State.setPort_port_ne s p q _ h

theorem popFrame_port_self {s : State} {p : Nat} (h : p < s.ports.length) :
    (popFrame s p).port p = { s.port p with intake := (s.port p).intake.drop 1 } :=
  State.setPort_port_self s p _ h

theorem owe_port_ne {s : State} {p q : Nat} (r : Reply) (h : q ≠ p) : (s.owe p r).port q = s.port q :=
  State.setPort_port_ne s p q _ h

theorem owe_port {s : State} {p : Nat} (r : Reply) (h : p < s.ports.length) :
    (s.owe p r).port p = { s.port p with owed := (s.port p).owed ++ [r] } := State.setPort_port_self s p _ h

theorem pushNotice_intake (r : Port) (i : List (List Byte)) (n : Notice) :
    ({ r with intake := i } : Port).pushNotice n = { r.pushNotice n with intake := i } := by
  unfold Port.pushNotice
  dsimp only
  split <;> rfl

theorem withNotices_intake (s : State) (l : List (Nat × NoticeBody)) (r : Port) (i : List (List Byte)) :
    withNotices s l { r with intake := i } = { withNotices s l r with intake := i } := by
  induction l generalizing r with
  | nil => rfl
  | cons x l ih =>
    rw [withNotices_cons, withNotices_cons]
    dsimp only
    split
    · rw [pushNotice_intake, ih]
    · exact ih r

/-- Taking the frame changes no part of a port that notices read or change. -/
theorem withNotices_popFrame (s : State) (p : Nat) (l : List (Nat × NoticeBody)) (q : Nat) :
    (withNotices (popFrame s p) l ((popFrame s p).port q)).notices = (withNotices s l (s.port q)).notices ∧
      (withNotices (popFrame s p) l ((popFrame s p).port q)).overflowOwed =
        (withNotices s l (s.port q)).overflowOwed := by
  rw [withNotices_clock (t := popFrame s p) (s := s) rfl]
  by_cases hqp : q = p
  · subst hqp
    by_cases hq : q < s.ports.length
    · rw [popFrame_port_self hq, withNotices_intake]
      exact ⟨rfl, rfl⟩
    · have hset : popFrame s q = s := by
        simp only [popFrame, State.setPort, List.set_eq_of_length_le (Nat.not_lt.1 hq)]
      rw [hset]
      exact ⟨rfl, rfl⟩
  · rw [popFrame_port_ne hqp]
    exact ⟨rfl, rfl⟩

section
variable {c : Command α} {s : State} {p : Nat} {a : α} {l : List (Nat × NoticeBody)}

theorem outcome_noticesSent (h : Told l (popFrame s p) (c.run (popFrame s p) p a).state) (hp : p < s.ports.length) :
    NoticesSent l s (outcome c s p a) := by
  intro q _
  have hlen : p < (c.run (popFrame s p) p a).state.ports.length := by
    rw [h, List.length_map, popFrame_ports_length]; exact hp
  obtain ⟨hn, ho⟩ := withNotices_popFrame s p l q
  rw [← h.port q] at hn ho
  by_cases hqp : q = p
  · subst hqp
    rw [outcome, owe_port _ hlen]
    exact ⟨hn, ho⟩
  · rw [outcome, owe_port_ne _ hqp]
    exact ⟨hn, ho⟩

theorem outcome_linesKept (h : Told l (popFrame s p) (c.run (popFrame s p) p a).state) (hp : p < s.ports.length) :
    LinesKept s (outcome c s p a) := by
  intro q hq
  have hlen : p < (c.run (popFrame s p) p a).state.ports.length := by
    rw [h, List.length_map, popFrame_ports_length]; exact hp
  have hkept := h.linesKept q hq
  by_cases hqp : q = p
  · subst hqp
    rw [popFrame_port_self hp] at hkept
    rw [outcome, owe_port _ hlen]
    exact hkept
  · rw [popFrame_port_ne hqp] at hkept
    rw [outcome, owe_port_ne _ hqp]
    exact hkept

theorem outcome_replied (h : Told l (popFrame s p) (c.run (popFrame s p) p a).state) (hp : p < s.ports.length) :
    Replied p c.kind (c.run (popFrame s p) p a).code (c.run (popFrame s p) p a).data s (outcome c s p a) := by
  have hlen : p < (c.run (popFrame s p) p a).state.ports.length := by
    rw [h, List.length_map, popFrame_ports_length]; exact hp
  refine ⟨?_, ?_, fun q _ hqp => ?_⟩
  · rw [outcome, owe_port _ hlen]
    exact (h.queues p).1.trans (by rw [popFrame_port_self hp])
  · rw [outcome, owe_port _ hlen]
    show (_ : Port).owed ++ _ = _
    rw [(h.queues p).2, popFrame_port_self hp]
  · rw [outcome, owe_port_ne _ hqp]
    obtain ⟨hi, ho⟩ := h.queues q
    rw [popFrame_port_ne hqp] at hi ho
    exact ⟨hi, ho⟩

end

end Sys2Proof.Machine

/-! PROOF. The checks of an agent command in the order of R174: what refuses it, what the guard and the holds
refuse, and what the probe flag leaves of it (R40). -/

namespace Sys2Proof.Machine

set_option Elab.async false

open Sys2Proof

variable {α : Type}

/-! ## Refusals -/

/-- Whatever the flags, a command that is refused leaves nothing but its reply. -/
theorem takeCommand_refused {c : Command α} {s : State} {p : Nat} {body : List Byte} {code : Result}
    (h : Ready s p c.kind body) (hj : judge c (popFrame s p) p body = refuse (popFrame s p) code) :
    takeCommand c p s = answered s p c.kind code [] := by
  rw [takeCommand_ready h, hj, answer_refuse]

section
variable {c : Command α} {s : State} {p : Nat} {body : List Byte}

theorem judge_unbound (h : bindingOk s p c.kind = false) : judge c s p body = refuse s .denied := by
  simp [judge, h]

theorem judge_unlinked (hb : bindingOk s p c.kind = true) (h : linkOk s p c.kind = false) :
    judge c s p body = refuse s .state := by
  simp [judge, hb, h]

theorem judge_unauthorized (hb : bindingOk s p c.kind = true) (hl : linkOk s p c.kind = true)
    (hk : c.kind ≠ .status) (h : authorized c.kind (agentOf s p) s.auth.keyLine = false) :
    judge c s p body = refuse s .denied := by
  simp [judge, hb, hl, hk, h]

theorem judge_badarg (ha : Admitted s p c.kind) (h : checkedArgs c s body = none) :
    judge c s p body = refuse s .badarg := by
  rw [judge_admitted ha, h]

end

/-- Flags and guard that do not have their form leave a command without arguments (R174, order 5). -/
theorem checkedArgs_form {c : Command α} {s : State} {body : List Byte}
    (h : bodyHeaderOk body = false ∨ ∃ g, bodyGuard body = some g ∧
      (12 ≤ g.segment ∨ g.stateForm = true ∧ (g.high ≠ 0 ∨ 4 < g.low.toNat))) :
    checkedArgs c s body = none := by
  unfold checkedArgs
  rcases h with hbad | ⟨g, hg, hform⟩
  · rw [hbad]
    rfl
  · have hno : ∀ reach, g.allowed reach = false := by
      intro reach
      rcases hform with hseg | ⟨hst, hhigh | hlow⟩
      · simp [Guard.allowed, hseg]
      · have hne : (g.high == 0) = false := beq_eq_false_iff_ne.2 hhigh
        rw [Guard.allowed, hst, hne]
        simp
      · simp [Guard.allowed, hst, hlow]
    rw [hg]
    split
    · rfl
    · cases c.parse s (bodyArgs body) with
      | none => rfl
      | some a => simp [hno]

/-- Settles O5: the four refusals are the first four branches of the judgement, in its order. -/
theorem checksRefuseInOrder : Obligations.ChecksRefuseInOrder := by
  refine ⟨fun s p body hp hframe hkind => ?_, fun c p k s body hc hr => ?_⟩
  · have htake : takeUnknown s p = (popFrame s p).owe p
        { kind := replyKind (bodyKind body), code := .unknown,
          data := if bodyProbe body then [] else [bodyKind body], executed := true } := by
      simp [takeUnknown, hframe, hkind]
    show onObject (portOk p) (takeUnknown s p) = _
    rw [hp, onObject_true, htake]
    rfl
  · have hr' : Ready s p (commandOf k).2.kind body := by rwa [commandOf_kind]
    have hrefused : ∀ {code : Result},
        judge (commandOf k).2 (popFrame s p) p body = refuse (popFrame s p) code →
          exec c s = .next (answered s p k code []) := fun hj => by
      rw [exec_agentCommand s hc hr.1, takeCommand_refused hr' hj, commandOf_kind]
    have hkind : (commandOf k).2.kind = k := commandOf_kind k
    refine ⟨fun hb => hrefused (judge_unbound (by rwa [hkind])),
      fun hb hl => hrefused (judge_unlinked (by rwa [hkind]) (by rwa [hkind])),
      fun hb hl hk ha => hrefused (judge_unauthorized (by rwa [hkind]) (by rwa [hkind]) (by rwa [hkind])
        (by rwa [hkind])),
      fun hadm hform => hrefused (judge_badarg ?_ (checkedArgs_form hform))⟩
    rw [hkind]
    exact hadm

/-! ## Guards and holds -/

section
variable {c : Command α} {i : Nat → Instr}

theorem guardRefuses (hi : ∀ p s, exec (i p) s = onObject (portOk p) (takeCommand c p s)) (hc : c.PortFree) :
    GuardRefuses c i := by
  intro s p body a g hr hadm hargs hguard hg
  have hok : guardOk (popFrame s p) body = false := by rw [guardOk_popFrame, guardOk, hguard]; exact hg
  have hdata : staleData (popFrame s p) body =
      be16 (s.seg g.segment).revision ++ [byteOf (s.seg g.segment).state.code] := by
    rw [staleData, hguard]
    rfl
  have hj : judge c (popFrame s p) p body =
      { code := .stale, data := staleData (popFrame s p) body, state := popFrame s p } := by
    rw [judge_admitted (show Admitted (popFrame s p) p c.kind from hadm), checkedArgs_popFrame hc, hargs]
    simp [hok]
  rw [hi, hr.1, onObject_true, takeCommand_ready hr, hj, hdata]
  unfold answer answered
  split <;> rfl

theorem holdRefuses (hi : ∀ p s, exec (i p) s = onObject (portOk p) (takeCommand c p s)) (hc : c.PortFree) :
    HoldRefuses c i := by
  intro s p body a hr hadm hargs hguard ⟨k, hk, h, hhold, hother⟩
  have hheld : heldByOther (popFrame s p) p (c.held (popFrame s p) a) = true := by
    rw [(hc s p).2.2]
    refine List.any_eq_true.2 ⟨k, hk, ?_⟩
    rw [show (popFrame s p).hold k = some h from hhold]
    exact bne_iff_ne.2 hother
  have hj : judge c (popFrame s p) p body = refuse (popFrame s p) .held := by
    rw [judge_admitted (show Admitted (popFrame s p) p c.kind from hadm), checkedArgs_popFrame hc, hargs]
    simp [guardOk_popFrame, hguard, hheld]
  rw [hi, hr.1, onObject_true, takeCommand_refused hr hj]

end

/-- A guard cannot be carried by a command that reaches two segments (R38). -/
theorem guard_allowed_two (g : Guard) (i j : Nat) (l : List Nat) : g.allowed (i :: j :: l) = false := by
  simp [Guard.allowed]

theorem withdrawAll_guarded {s : State} {body : List Byte} (h : bodyGuarded body = true) :
    checkedArgs withdrawAllCommand s body = none := by
  unfold checkedArgs
  split
  · rfl
  · next hheader =>
    have hlen : 4 ≤ body.length := by simpa [bodyHeaderOk, h] using hheader
    obtain ⟨b0, b1, hi, lo, rest, rfl⟩ : ∃ b0 b1 hi lo rest, body = b0 :: b1 :: hi :: lo :: rest := by
      match body, hlen with
      | b0 :: b1 :: hi :: lo :: rest, _ => exact ⟨_, _, _, _, _, rfl⟩
    cases withdrawAllCommand.parse s (bodyArgs (b0 :: b1 :: hi :: lo :: rest)) with
    | none => rfl
    | some a =>
      have hguard : ∃ g, bodyGuard (b0 :: b1 :: hi :: lo :: rest) = some g := by
        simp only [bodyGuard, h]
        exact ⟨_, rfl⟩
      obtain ⟨g, hg⟩ := hguard
      rw [hg]
      show (if g.allowed (List.range 12) = true then _ else none) = none
      rw [show List.range 12 = 0 :: 1 :: [2, 3, 4, 5, 6, 7, 8, 9, 10, 11] from rfl, guard_allowed_two]
      rfl

/-- Settles O6. -/
theorem guardAndHoldChecks : Obligations.GuardAndHoldChecks := by
  refine ⟨?_, ?_, ?_, ?_, ?_, ?_, ?_, ?_, ?_, ?_, ?_, ?_, ?_, ?_, ?_, ?_, ?_, ?_, ?_, ?_, ?_, ?_, ?_, ?_, ?_, ?_, ?_,
    ?_, ?_, ?_, fun s p body hr hadm hguarded => ?_, ?_, ?_, ?_, ?_, ?_, ?_⟩
  case refine_31 =>
    have hj := judge_badarg (c := withdrawAllCommand) (s := popFrame s p) (p := p) hadm
      (withdrawAll_guarded hguarded)
    show onObject (portOk p) (takeCommand withdrawAllCommand p s) = _
    rw [hr.1, onObject_true, takeCommand_refused (c := withdrawAllCommand) hr hj]
    rfl
  case refine_32 | refine_33 | refine_34 | refine_35 | refine_36 | refine_37 =>
    exact holdRefuses (fun _ _ => rfl) fun _ _ => ⟨rfl, rfl, rfl⟩
  all_goals exact guardRefuses (fun _ _ => rfl) fun _ _ => ⟨rfl, rfl, rfl⟩

/-! ## The probe flag -/

/-- A body with its probe flag clear. -/
def unprobed (body : List Byte) : List Byte := body.set 1 (bodyFlags body &&& 0xFD#8)

theorem flags_unprobed_bits (b : Byte) :
    (b &&& 0xFD#8).getLsbD 1 = false ∧ (b &&& 0xFD#8).getLsbD 2 = b.getLsbD 2 ∧
      (b &&& 0xFD#8).getLsbD 3 = b.getLsbD 3 ∧ (b &&& 0xFD#8).toNat / 16 = b.toNat / 16 := by
  revert b
  decide

/-- A probed body has its flags. -/
theorem probed_cons {body : List Byte} (h : bodyProbe body = true) : ∃ k f rest, body = k :: f :: rest := by
  match body with
  | [] | [_] => simp [bodyProbe, bodyFlags] at h
  | k :: f :: rest => exact ⟨k, f, rest, rfl⟩

/-- Everything but the probe flag reads the same. -/
theorem unprobed_reads {body : List Byte} (h : bodyProbe body = true) :
    bodyProbe (unprobed body) = false ∧ bodyKind (unprobed body) = bodyKind body ∧
      bodyHeaderOk (unprobed body) = bodyHeaderOk body ∧ bodyGuard (unprobed body) = bodyGuard body ∧
      bodyArgs (unprobed body) = bodyArgs body := by
  obtain ⟨k, f, rest, rfl⟩ := probed_cons h
  obtain ⟨h1, h2, h3, h4⟩ := flags_unprobed_bits f
  have hguarded : bodyGuarded (k :: (f &&& 0xFD#8) :: rest) = bodyGuarded (k :: f :: rest) := h2
  have hflags : unprobed (k :: f :: rest) = k :: (f &&& 0xFD#8) :: rest := rfl
  rw [hflags]
  refine ⟨h1, rfl, ?_, ?_, ?_⟩
  · simp only [bodyHeaderOk, hguarded, List.length_cons]
  · simp only [bodyGuard, hguarded, List.drop_succ_cons, List.drop_zero]
    split
    · match rest with
      | [] => rfl
      | [_] => rfl
      | hi :: lo :: _ =>
        simp only [bodyFlags, List.getD_cons_succ, List.getD_cons_zero, h3, h4]
    · rfl
  · simp only [bodyArgs, hguarded]
    split <;> rfl

/-- The judgement does not see the probe flag. -/
theorem judge_unprobed (c : Command α) (s : State) (p : Nat) {body : List Byte} (h : bodyProbe body = true) :
    judge c s p (unprobed body) = judge c s p body := by
  obtain ⟨-, -, h3, h4, h5⟩ := unprobed_reads h
  have hchecked : checkedArgs c s (unprobed body) = checkedArgs c s body := by simp only [checkedArgs, h3, h4, h5]
  have hok : guardOk s (unprobed body) = guardOk s body := by simp only [guardOk, h4]
  have hstale : staleData s (unprobed body) = staleData s body := by simp only [staleData, h4]
  simp only [judge, hchecked, hok, hstale]

section
variable {s : State} {p : Nat} {body : List Byte}

theorem withoutProbe_port (hp : p < s.ports.length) :
    (withoutProbe s p body).port p = { s.port p with intake := unprobed body :: (s.port p).intake.drop 1 } :=
  State.setPort_port_self s p _ hp

theorem popFrame_withoutProbe (hp : p < s.ports.length) : popFrame (withoutProbe s p body) p = popFrame s p := by
  rw [popFrame, withoutProbe_port hp, withoutProbe, popFrame]
  simp [State.setPort]

theorem ready_withoutProbe {k : CmdKind} (hp : p < s.ports.length) (hr : Ready s p k body)
    (h : bodyProbe body = true) : Ready (withoutProbe s p body) p k (unprobed body) := by
  obtain ⟨hport, hframe, hkind⟩ := hr
  refine ⟨hport, ?_, (unprobed_reads h).2.1.trans hkind⟩
  rw [nextFrame, withoutProbe_port hp]
  show (if (s.port p).owed.any (·.executed) = true then none else some (unprobed body)) = _
  rw [(nextFrame_some hframe).1]
  rfl

end

/-- No command takes back a reply that is owed. -/
theorem run_owed (k : CmdKind) (s : State) (p : Nat) (a : (commandOf k).1) (q : Nat) (hq : q < s.ports.length) :
    (((commandOf k).2.run s p a).state.port q).owed = (s.port q).owed := by
  have hset : ∀ v : Port, v.owed = (s.port p).owed → ((s.setPort p v).port q).owed = (s.port q).owed := by
    intro v hv
    by_cases hqp : q = p
    · subst hqp
      rw [State.setPort_port_self s q v hq, hv]
    · rw [State.setPort_port_ne s p q v hqp]
  have hlines : Area.lines ∉ kindAreas k → (((commandOf k).2.run s p a).state.port q).owed = (s.port q).owed :=
    fun hk => ((leaves_run k s p a).kept .lines hk q).owed
  cases k with
  | subscribe | portClear => exact hset _ rfl
  | _ => exact hlines (by decide)

/-- The judgement leaves the owed replies and the number of ports. -/
theorem judge_owed (k : CmdKind) (s : State) (p : Nat) (body : List Byte) (q : Nat) (hq : q < s.ports.length) :
    ((judge (commandOf k).2 s p body).state.port q).owed = (s.port q).owed ∧
      (judge (commandOf k).2 s p body).state.ports.length = s.ports.length := by
  rcases judge_run (c := (commandOf k).2) (s := s) (p := p) (body := body) with ⟨code, data, h⟩ | ⟨a, h, -⟩
  · rw [h]
    exact ⟨rfl, rfl⟩
  · rw [h]
    exact ⟨run_owed k s p a q hq, tableSizes_ports ((leaves_run k s p a).tables (by cases k <;> decide)).2⟩

theorem answer_executed {k : CmdKind} {s : State} {p : Nat} {body : List Byte} {v : Verdict}
    (h : bodyProbe body = false) (hp : p < v.state.ports.length) :
    ((answer k s p body v).port p).owed = (v.state.port p).owed ++
      [{ kind := replyKind k.byte, code := v.code, data := v.data, executed := true }] := by
  rw [answer, h, if_neg (by decide), owe_port _ hp]

theorem keepsData_iff (k : CmdKind) (code : Result) :
    keepsData k code = true ↔ code = .stale ∨ k = .reading ∧ (code = .busy ∨ code = .deferred) := by
  simp [keepsData]

/-- Settles O37: with its probe flag clear the command is judged the same on the same state. -/
theorem probeChangesOnlyTheReply : Obligations.ProbeChangesOnlyTheReply := by
  intro c p k s body ht hc hr hprobe
  have hp : p < s.ports.length := by
    obtain ⟨-, -, -, hports, -⟩ := ht
    have : p < 4 := by simpa [portOk] using hr.1
    omega
  have hr' : Ready s p (commandOf k).2.kind body := by rwa [commandOf_kind]
  let v := judge (commandOf k).2 (popFrame s p) p body
  refine ⟨v.code, if keepsData k v.code then v.data else [], ?_, fun hdata => ?_, ?_⟩
  · rw [exec_agentCommand s hc hr.1, takeCommand_ready hr', answer_probe _ _ _ _ _ hprobe, commandOf_kind]
  · refine (keepsData_iff _ _).1 ?_
    by_contra hno
    exact hdata (if_neg hno)
  · have hready := ready_withoutProbe hp hr' hprobe
    have hpop : p < (popFrame s p).ports.length := by rwa [popFrame_ports_length]
    obtain ⟨howed, hlen⟩ := judge_owed k (popFrame s p) p body p hpop
    refine ⟨_, Reply.mk (replyKind (commandOf k).2.kind.byte) v.code v.data true,
      exec_agentCommand _ hc hr.1, ?_, rfl, rfl⟩
    rw [takeCommand_ready hready, popFrame_withoutProbe hp, judge_unprobed _ _ _ hprobe,
      answer_executed (unprobed_reads hprobe).1 (by rw [hlen]; exact hpop), howed, popFrame_port_self hp]

end Sys2Proof.Machine

/-! PROOF. The image loader: what IMAGE WRITE and IMAGE COMMIT make of the buffers (R187, R188), and which
image START_UP puts in effect (R185). -/

namespace Sys2Proof.Machine

set_option Elab.async false

open Sys2Proof

variable {α : Type}

/-! ## The ports of the part -/

theorem tables_ports {s : State} (ht : TablesOk s) : s.ports.length = 4 := by
  obtain ⟨-, -, -, hports, -⟩ := ht
  exact hports

theorem accepted_lt {c : Command α} {s : State} {p : Nat} {a : α} (ht : TablesOk s) (h : Accepted c s p a) :
    p < s.ports.length := by
  rw [tables_ports ht]
  exact accepted_port_lt h

theorem ready_lt {s : State} {p : Nat} {k : CmdKind} {body : List Byte} (ht : TablesOk s) (h : Ready s p k body) :
    p < s.ports.length := by
  rw [tables_ports ht]
  simpa [portOk] using h.1

/-- What a command that is carried out leaves at the ports: its notices and its reply, and every line. -/
theorem outcome_told {c : Command α} {s u : State} {p : Nat} {a : α} {code : Result} {data : List Byte}
    {l : List (Nat × NoticeBody)} (hrun : c.run (popFrame s p) p a = { code, data, state := u })
    (h : Told l (popFrame s p) u) (hp : p < s.ports.length) :
    NoticesSent l s (outcome c s p a) ∧ Replied p c.kind code data s (outcome c s p a) ∧
      LinesKept s (outcome c s p a) := by
  have htold : Told l (popFrame s p) (c.run (popFrame s p) p a).state := by rwa [hrun]
  have hreply := outcome_replied htold hp
  rw [hrun] at hreply
  exact ⟨outcome_noticesSent htold hp, hreply, outcome_linesKept htold hp⟩

/-- What it leaves at the rest of the part is what its action leaves there. -/
theorem outcome_eq {c : Command α} {s u : State} {p : Nat} {a : α} {code : Result} {data : List Byte}
    (hrun : c.run (popFrame s p) p a = { code, data, state := u }) :
    outcome c s p a = u.owe p { kind := replyKind c.kind.byte, code, data, executed := true } := by
  rw [outcome, hrun]

/-! ## Writing the staging buffer -/

/-- What a buffer holds after a run of bytes. -/
theorem Memory.read_writeRun {m : Memory} (a : Nat) (l : List Byte) (h : m.above 0 = true) (b : Nat) :
    (m.writeRun a l).read b = if a ≤ b ∧ b < a + l.length then l.getD (b - a) 0 else m.read b := by
  induction l generalizing m a with
  | nil => rw [if_neg (by simp)]; rfl
  | cons v vs ih =>
    rw [Memory.writeRun, ih (a + 1) (Memory.above_write v h (Nat.zero_le a)), List.length_cons]
    by_cases hba : b = a
    · subst hba
      rw [if_neg (by omega), if_pos (by omega), Memory.read_write_eq b v h, Nat.sub_self]
      rfl
    · rw [Memory.read_write_ne v hba]
      by_cases hin : a ≤ b ∧ b < a + (vs.length + 1)
      · rw [if_pos hin, if_pos (by omega), show b - a = b - (a + 1) + 1 by omega]
        rfl
      · rw [if_neg hin, if_neg (by omega)]

theorem runImageWrite_idle {s : State} {p : Nat} {a : Nat × List Byte} (h : s.loader.writing = false) :
    runImageWrite s p a = Verdict.mk .done (enc16 a.1 ++ [byteOf a.2.length])
      (s.setLoader { s.loader with staging := s.loader.staging.writeRun a.1 a.2 }) := by
  rw [runImageWrite, h]
  rfl

theorem runImageWrite_busy {s : State} {p : Nat} {a : Nat × List Byte} (h : s.loader.writing = true) :
    runImageWrite s p a = refuse s .busy := by
  rw [runImageWrite, h]
  rfl

/-! ## The commit -/

theorem runImageCommit_idle {s : State} {p : Nat} {a : Unit} (h : s.loader.writing = false) :
    runImageCommit s p a =
      Verdict.mk .done [] (s.setLoader { s.loader with writing := true, marker := false }) := by
  rw [runImageCommit, h]
  rfl

theorem runImageCommit_busy {s : State} {p : Nat} {a : Unit} (h : s.loader.writing = true) :
    runImageCommit s p a = refuse s .busy := by
  rw [runImageCommit, h]
  rfl

theorem imageCommit_portFree : imageCommitCommand.PortFree := fun _ _ => ⟨rfl, rfl, rfl⟩

/-- A guard of the right form may be carried by a command that reaches no segment (R38). -/
theorem guard_allowed_free {g : Guard} (hseg : g.segment < 12)
    (hform : g.stateForm = true → g.high = 0 ∧ g.low.toNat ≤ 4) : g.allowed [] = true := by
  simp only [Guard.allowed, hseg, decide_true, Bool.true_and, beq_self_eq_true, Bool.true_or, Bool.and_true,
    Bool.or_eq_true, Bool.and_eq_true, Bool.not_eq_true', decide_eq_true_eq]
  cases hst : g.stateForm with
  | false => exact .inl rfl
  | true => exact .inr ⟨beq_iff_eq.2 (hform hst).1, (hform hst).2⟩

/-- The argument check of IMAGE COMMIT decides the CRC-32 (R188). -/
theorem checkedArgs_imageCommit {s : State} {body : List Byte} (hheader : bodyHeaderOk body = true)
    (hargs : bodyArgs body = [])
    (hguard : ∀ g, bodyGuard body = some g →
      g.segment < 12 ∧ (g.stateForm = true → g.high = 0 ∧ g.low.toNat ≤ 4)) :
    checkedArgs imageCommitCommand s body = if crcOk s.loader.staging then some () else none := by
  have hparse : imageCommitCommand.parse s (bodyArgs body) = if crcOk s.loader.staging then some () else none := by
    rw [hargs]
    rfl
  rw [checkedArgs, hheader, hparse]
  cases crcOk s.loader.staging with
  | false => rfl
  | true =>
    cases hg : bodyGuard body with
    | none => rfl
    | some g =>
      obtain ⟨hseg, hform⟩ := hguard g hg
      exact if_pos (guard_allowed_free hseg hform)

theorem guardOk_iff (s : State) (body : List Byte) :
    guardOk s body = true ↔ ∀ g ∈ (bodyGuard body).toList, g.holds s = true := by
  rw [guardOk]
  cases bodyGuard body with
  | none => simp
  | some g => simp

theorem heldByOther_noSegments (s : State) (p : Nat) : heldByOther s p [] = false := rfl

/-- Settles O50. -/
theorem imageIsStagedAndCommitted : Obligations.ImageIsStagedAndCommitted := by
  intro s p ht hb
  refine ⟨fun offset data hacc => ?_, fun body hr hadm hprobe hheader hargs hguard => ?_, ?_⟩
  · have hlt := accepted_lt ht hacc
    have hexec : exec (.imageWrite p) s = .next (outcome imageWriteCommand s p (offset, data)) :=
      exec_accepted rfl (fun _ _ => ⟨rfl, rfl, rfl⟩) hacc
    cases hw : s.loader.writing with
    | true =>
      rw [if_pos rfl, hexec, outcome_answered (runImageWrite_busy (s := popFrame s p) (p := p) hw)]
      rfl
    | false =>
      have hrun : imageWriteCommand.run (popFrame s p) p (offset, data) = _ :=
        runImageWrite_idle (s := popFrame s p) (p := p) hw
      obtain ⟨hnotices, hreply, hlines⟩ := outcome_told hrun (told_of_ports rfl) hlt
      have hloader : (outcome imageWriteCommand s p (offset, data)).loader =
          { s.loader with staging := s.loader.staging.writeRun offset data } := by
        rw [outcome_eq hrun]
        rfl
      rw [if_neg (by decide)]
      refine ⟨_, hexec, fun a => ?_, ?_, hreply, noNotice_of_noticesSent hnotices, hlines,
        outcome_changesOnly ?_ (by decide)⟩
      · rw [hloader]
        obtain ⟨-, hstaging⟩ := hb
        exact Memory.read_writeRun offset data (by simp only [Memory.wf, Bool.and_eq_true] at hstaging; exact hstaging.1) a
      · rw [hloader]
      · exact (leaves_run .imageWrite (popFrame s p) p (offset, data)).changesOnly (by decide)
  · have hchecked := checkedArgs_imageCommit (s := s) hheader hargs hguard
    have hcheckedPop : checkedArgs imageCommitCommand (popFrame s p) body = _ :=
      (checkedArgs_popFrame imageCommit_portFree s p body).trans hchecked
    have hadm' : Admitted (popFrame s p) p imageCommitCommand.kind := hadm
    cases hcrc : crcOk s.loader.staging with
    | false =>
      rw [hcrc] at hcheckedPop
      have hj := judge_badarg (body := body) hadm' hcheckedPop
      rw [if_pos rfl]
      show onObject (portOk p) (takeCommand imageCommitCommand p s) = _
      rw [hr.1, onObject_true, takeCommand_refused (c := imageCommitCommand) hr hj]
      rfl
    | true =>
      rw [hcrc] at hchecked
      rw [if_neg (by decide)]
      by_cases hstale : ∃ g ∈ (bodyGuard body).toList, g.holds s = false
      · rw [if_pos hstale]
        obtain ⟨g, hg, hno⟩ := hstale
        have hg : bodyGuard body = some g := by simpa using hg
        exact ⟨g, hg, guardRefuses (c := imageCommitCommand) (fun _ _ => rfl) imageCommit_portFree s p body () g hr
          hadm hchecked hg hno⟩
      · rw [if_neg hstale]
        have hok : guardOk s body = true := (guardOk_iff s body).2 fun g hg => by
          by_contra hno
          exact hstale ⟨g, hg, by simpa using hno⟩
        have hacc : Accepted imageCommitCommand s p () :=
          ⟨body, hr, hprobe, hadm, hchecked, hok, heldByOther_noSegments s p⟩
        have hlt := accepted_lt ht hacc
        have hexec : exec (.imageCommit p) s = .next (outcome imageCommitCommand s p ()) :=
          exec_accepted rfl imageCommit_portFree hacc
        cases hw : s.loader.writing with
        | true =>
          rw [if_pos rfl, hexec, outcome_answered (runImageCommit_busy (s := popFrame s p) (p := p) (a := ()) hw)]
          rfl
        | false =>
          have hrun : imageCommitCommand.run (popFrame s p) p () = _ :=
            runImageCommit_idle (s := popFrame s p) (p := p) (a := ()) hw
          obtain ⟨hnotices, hreply, hlines⟩ := outcome_told hrun (told_of_ports rfl) hlt
          rw [if_neg (by decide)]
          refine ⟨_, hexec, ?_, hreply, noNotice_of_noticesSent hnotices, hlines,
            outcome_changesOnly ?_ (by decide)⟩
          · rw [outcome_eq hrun]
            rfl
          · exact (leaves_run .imageCommit (popFrame s p) p ()).changesOnly (by decide)
  · cases hw : s.loader.writing with
    | true =>
      have hexec : exec .commitCompletion s = .next (s.setLoader
          { s.loader with memory := s.loader.staging, marker := true, writing := false }) :=
        congrArg Host.Outcome.next (if_pos hw)
      rw [if_pos rfl]
      exact ⟨_, hexec, rfl, (leaves_event (by decide) rfl hexec).changesOnly (by decide)⟩
    | false =>
      rw [if_neg (by decide)]
      exact congrArg Host.Outcome.next (if_neg (by rw [hw]; decide))

/-! ## The image that START_UP puts in effect -/

theorem loadImage_unmarked {m : Memory} {marker : Bool} (h : marker = false ∨ crcOk m = false) :
    loadImage m marker = (safeImage, true) := by
  rw [loadImage, if_neg]
  rcases h with h | h <;> simp [h]

theorem loadImage_marked {m : Memory} {marker : Bool} (hm : marker = true) (hc : crcOk m = true) :
    loadImage m marker = (((acceptedImage m).map fun img => (img, false)).getD (safeImage, true)) := by
  rw [loadImage, if_pos (by simp [hm, hc])]
  cases acceptedImage m <;> rfl

/-- Settles O8. -/
theorem startUpLoadsOnlyAcceptedImages : Obligations.StartUpLoadsOnlyAcceptedImages := by
  intro s t h
  rw [exec_startUp] at h
  have hloader : t.loader = reload s.loader := by
    rw [← Host.Outcome.next.inj h]
    rfl
  have himage : t.image = (loadImage t.loader.memory t.loader.marker).1 := by
    rw [State.image, hloader]
    rfl
  have hsafe : t.loader.safe = (loadImage t.loader.memory t.loader.marker).2 := by
    rw [hloader]
    rfl
  refine ⟨?_, fun hno => ?_, fun hm hc => ?_, fun hw => ?_⟩
  · rw [himage]
    exact loadImage_accepted ..
  · rw [himage, hsafe, loadImage_unmarked hno]
    exact ⟨rfl, rfl⟩
  · have hload := loadImage_marked hm hc
    rw [acceptedImage, coveredBytes] at hload
    cases hparse : Config.parseImage (t.loader.memory.bytes 0 8188) with
    | none =>
      rw [hparse] at hload
      rw [himage, hsafe, hload]
      exact ⟨rfl, rfl⟩
    | some img =>
      rw [hparse] at hload
      show if imageAccepted (clampImage img) = true then t.image = clampImage img ∧ t.loader.safe = false
        else t.image = safeImage ∧ t.loader.safe = true
      split
      · next hok =>
        rw [himage, hsafe, hload]
        simp [hok]
      · next hno =>
        rw [himage, hsafe, hload]
        simp [hno]
  · rw [hloader]
    show memoryNow s.loader = _
    rw [memoryNow, hw]
    rfl

/-! ## The second boundary -/

theorem nextSecond_ok {d : TimeOfDay} (hh : d.hours < 24) (hm : d.minutes < 60) (hs : d.seconds < 60) :
    (nextSecond d).hours < 24 ∧ (nextSecond d).minutes < 60 ∧ (nextSecond d).seconds < 60 ∧
      secondsOfDay (nextSecond d) = (secondsOfDay d + 1) % 86400 := by
  unfold nextSecond secondsOfDay
  split
  · dsimp only; omega
  · split
    · dsimp only; omega
    · split
      · dsimp only; omega
      · dsimp only; omega

theorem secondBoundary_out (s : State) (n : Nat) :
    (secondBoundary s).out n = { s.out n with timer := tick (s.out n).timer } :=
  getD_map_default _ _ _ _ _ rfl

/-- Settles O9. -/
theorem secondBoundaryCountsEveryDuration : Obligations.SecondBoundaryCountsEveryDuration := by
  intro s
  refine ⟨secondBoundary s, rfl, rfl, fun h => ?_, fun d hd hh hm hs => ?_, secondBoundary_portLink s,
    secondBoundary_hold s, rfl, secondBoundary_seg s, secondBoundary_gate s, rfl, secondBoundary_zone s, rfl, rfl,
    secondBoundary_channel s, rfl, fun r v u d h => ?_, fun h => ?_, rfl, rfl, rfl, rfl, rfl, secondBoundary_stack s,
    secondBoundary_out s, rfl, rfl, rfl, (leaves_secondBoundary s).changesOnly (by decide)⟩
  · show s.clock.timeOfDay.map nextSecond = none
    rw [h]
    rfl
  · refine ⟨nextSecond d, ?_, nextSecond_ok hh hm hs⟩
    show s.clock.timeOfDay.map nextSecond = _
    rw [hd]
    rfl
  · show tickSlot s.weather.slot = _
    rw [h]
    rfl
  · show tickSlot s.weather.slot = s.weather.slot
    cases hslot : s.weather.slot with
    | ready r v u d => exact absurd hslot (h r v u d)
    | empty => rfl
    | pending r => rfl

end Sys2Proof.Machine

/-! PROOF. The part right after START_UP, block by block (R189). -/

namespace Sys2Proof.Machine

set_option Elab.async false

open Sys2Proof

/-! ## What a face reads -/

theorem fillMessage_congr {s t : State} (himg : t.image = s.image) (hseg : t.segments = s.segments)
    (hzone : t.zones.zones = s.zones.zones) (hch : t.weather.channels = s.weather.channels) (i : Nat) (m : Message) :
    fillMessage t i m = fillMessage s i m := by
  have hletters : fieldOf t i = fieldOf s i := by
    funext letter
    simp only [fieldOf, fieldT, fieldL, fieldH, highestLevel, effective, State.zone, State.seg, State.channel, himg,
      hseg, hzone, hch]
    rfl
  rw [fillMessage, fillMessage, hletters]

/-- A face depends on its stack, the messages and the records its placeholders show. -/
theorem composeFace_congr {s t : State} (himg : t.image = s.image) (hseg : t.segments = s.segments)
    (hzone : t.zones.zones = s.zones.zones) (hch : t.weather.channels = s.weather.channels)
    (hmsg : ∀ k, messageAt t k = messageAt s k) {n : Nat} (hstack : t.stack n = s.stack n) :
    composeFace t n = composeFace s n := by
  simp only [composeFace, himg, hstack, hmsg, fillMessage_congr himg hseg hzone hch]

theorem messageAt_congr {s t : State} (himg : t.image = s.image) (hlib : t.library = s.library) (k : Nat) :
    messageAt t k = messageAt s k := by
  simp only [messageAt, State.userSlot, himg, hlib]

/-! ## The closure demand's form -/

/-- R66: the form of the closure demand, said by state. -/
theorem closureForm_eq (img : Image) (st : SegState) : closureForm img st = closureContent img st := by
  cases st <;> rfl

/-! ## Tables of the starting state -/

theorem getD_map_range {α : Type} (f : Nat → α) (d : α) {k n : Nat} (h : n < k) :
    ((List.range k).map f).getD n d = f n := by
  simp [List.getD, h]

/-- An accepted image shows each sign's segment. -/
theorem imageSign_segment {img : Image} (h : imageAccepted img = true) {n : Nat} (hn : n < 24) :
    (imageSign img n).segment < 12 := by
  simp only [imageAccepted, sizesOk, signsOk, Bool.and_eq_true, List.all_eq_true, beq_iff_eq] at h
  have hlen : n < img.signs.length := by omega
  have hmem : imageSign img n ∈ img.signs := by
    rw [imageSign, List.getD_eq_getElem _ _ hlen]
    exact List.getElem_mem hlen
  have hall : ∀ e ∈ img.signs, segOk e.segment = true := fun e he => by
    obtain ⟨⟨⟨-, ⟨hs, -⟩, -⟩, -⟩, -⟩ := h
    exact (hs e he).1.1.1.1.1
  simpa [segOk] using hall _ hmem

section
variable (l : Loader) (key : Bool) (contacts : List Bool) (pending : List Instr)

theorem boot_portLink {p : Nat} (hp : p < 4) : (boot l key contacts pending).portLink p = startLink l.image p :=
  getD_map_range _ _ hp

theorem boot_port {p : Nat} (hp : p < 4) : (boot l key contacts pending).port p = Port.reset := by
  show (List.replicate 4 Port.reset).getD p default = _
  rw [List.getD_replicate _ hp]

theorem boot_hold {i : Nat} (hi : i < 12) : (boot l key contacts pending).hold i = none := by
  show (List.replicate 12 none).getD i none = _
  rw [List.getD_replicate _ hi]

theorem boot_gate {g : Nat} (hg : g < 8) : (boot l key contacts pending).gate g = Gate.reset := by
  show (List.replicate 8 Gate.reset).getD g default = _
  rw [List.getD_replicate _ hg]

theorem boot_eval {i : Nat} (hi : i < 12) : (boot l key contacts pending).eval i = Evaluation.reset := by
  show (List.replicate 12 Evaluation.reset).getD i default = _
  rw [List.getD_replicate _ hi]

theorem boot_target {n : Nat} (hn : n < 24) : (boot l key contacts pending).target n = none := by
  show (List.replicate 24 none).getD n none = _
  rw [List.getD_replicate _ hn]

theorem boot_primary {n : Nat} (hn : n < 24) :
    (boot l key contacts pending).primary n = (imageSign l.image n).primary :=
  getD_map_range (fun n => (imageSign l.image n).primary) _ hn

theorem boot_panelUp {x : Nat} (hx : x < 32) : (boot l key contacts pending).panelUp x = false := by
  show (List.replicate 32 false).getD x false = _
  rw [List.getD_replicate _ hx]

theorem boot_station {x : Nat} (hx : x < 32) :
    (boot l key contacts pending).station x = Station.reset (contacts.getD x false) :=
  getD_map_range (fun x => Station.reset (contacts.getD x false)) _ hx

theorem boot_out {n : Nat} (hn : n < 24) :
    (boot l key contacts pending).out n = startOut (startBlocks l key contacts pending) n :=
  getD_map_range (startOut (startBlocks l key contacts pending)) _ hn

/-- The faces are composed from the other blocks of the starting state. -/
theorem boot_composeFace (n : Nat) :
    composeFace (boot l key contacts pending) n = composeFace (startBlocks l key contacts pending) n :=
  composeFace_congr rfl rfl rfl rfl (fun k => messageAt_congr rfl rfl k) rfl

theorem boot_weather : (boot l key contacts pending).weather = startWeather l.image := rfl

/-- The closure demands of the starting state are those of its segments (R66, R154). -/
theorem boot_closing (h : imageAccepted l.image = true) {n : Nat} (hn : n < 24) :
    closureForm l.image ((boot l key contacts pending).seg (imageSign l.image n).segment).state =
      startContent l.image n := by
  rw [boot_seg (imageSign_segment h hn), closureForm_eq]
  rfl

end

/-! ## The first station-link grant (log 13) -/

theorem grantLink_waits {w : Weather} {h inp : Nat} (he : w.exchange = none) (hw : w.waiting = some (h, inp)) :
    grantLink w = { w with exchange := some (.immediate h inp), waiting := none } := by
  rw [grantLink, he, hw]

theorem grantLink_due {w : Weather} {h : Nat} (he : w.exchange = none) (hw : w.waiting = none)
    (hd : firstDue w = some h) :
    grantLink w = { w with
      exchange := some (.poll h), heads := w.heads.set h { w.heads.getD h default with pollDue := false } } := by
  simp only [grantLink, he, hw, hd]

theorem grantLink_idle {w : Weather} (he : w.exchange = none) (hw : w.waiting = none) (hd : firstDue w = none) :
    grantLink w = w := by
  simp only [grantLink, he, hw, hd]

/-- The weather unit before the first grant. -/
def startHeads (img : Image) : Weather :=
  { heads := (List.range 8).map fun h => { reachable := false, lastReply := none, pollDue := headFitted img h },
    channels := List.replicate 24 Channel.reset, exchange := none, waiting := none, slot := .empty,
    sampleTimer := img.samplePeriod }

theorem firstDue_startHeads (img : Image) :
    firstDue (startHeads img) = (List.range 8).find? fun h => headFitted img h :=
  List.find?_congr fun h hh => by
    rw [startHeads, getD_map_range _ _ (List.mem_range.1 hh)]

theorem startWeather_link (img : Image) {first : Option Nat}
    (hfirst : (List.range 8).find? (fun h => headFitted img h) = first) :
    (startWeather img).exchange = first.map LinkExchange.poll ∧
      ∀ h < 8, (startWeather img).heads.getD h default =
        { reachable := false, lastReply := none, pollDue := headFitted img h && decide (first ≠ some h) } := by
  have hstart : startWeather img = grantLink (startHeads img) := rfl
  have hhead : ∀ h < 8, (startHeads img).heads.getD h default =
      { reachable := false, lastReply := none, pollDue := headFitted img h } := fun h hh =>
    getD_map_range _ _ hh
  rw [← firstDue_startHeads] at hfirst
  cases first with
  | none =>
    rw [hstart, grantLink_idle rfl rfl hfirst]
    exact ⟨rfl, fun h hh => (hhead h hh).trans (by simp)⟩
  | some k =>
    rw [hstart, grantLink_due rfl rfl hfirst]
    have hk : k < 8 := List.mem_range.1 (List.mem_of_find?_eq_some hfirst)
    refine ⟨rfl, fun h hh => ?_⟩
    by_cases hkh : h = k
    · subst hkh
      rw [getD_set_self _ _ _ _ (by simpa [startHeads] using hh), hhead h hh]
      simp
    · rw [getD_set_ne _ _ _ _ _ hkh, hhead h hh]
      simp [Ne.symm hkh]

/-! ## The starting state -/

/-- Settles O7: START_UP leaves `boot`, and each block of `boot` is read off by its own lemma. -/
theorem startUpSetsEveryBlock : Obligations.StartUpSetsEveryBlock := by
  intro s
  obtain ⟨l, hl⟩ : ∃ l, reload s.loader = l := ⟨_, rfl⟩
  obtain ⟨contacts, hcontacts⟩ : ∃ cs, s.field.stations.map (·.contactClosed) = cs := ⟨_, rfl⟩
  have haccepted : imageAccepted l.image = true := by
    rw [← hl]
    exact loadImage_accepted ..
  have hclosed : ∀ x, contacts.getD x false = (s.station x).contactClosed := fun x => by
    rw [← hcontacts]
    exact getD_map_default _ _ _ _ _ rfl
  have hexec : exec .startUp s = .next (boot l s.auth.keyLine contacts s.pending) := by
    rw [exec_startUp, hl, hcontacts]
  have hserial : ∀ n ≤ 24, ((List.range n).filter fun k => (closureForm l.image
      ((boot l s.auth.keyLine contacts s.pending).seg (imageSign l.image k).segment).state).isSome).length =
        startSerial l.image n := fun n hn =>
    congrArg List.length (List.filter_congr fun k hk => by
      rw [boot_closing l _ contacts _ haccepted (Nat.lt_of_lt_of_le (List.mem_range.1 hk) hn)])
  refine ⟨boot l s.auth.keyLine contacts s.pending, hexec, rfl, rfl, rfl, rfl, fun p hp => ?_, fun p hp => ?_,
    fun i hi => ?_, fun g hg => boot_gate _ _ _ _ hg, rfl, fun z hz => ?_, fun k hk => ?_,
    fun i hi => boot_shownZone hi _ _ _ _, startWeather_link l.image rfl, fun c hc => ?_, ?_, ?_, ?_,
    fun i hi => boot_eval _ _ _ _ hi, rfl, ⟨?_, fun n hn => ?_⟩, fun n hn => ?_, rfl,
    fun m hm h96 => boot_userSlot h96 hm _ _ _ _, fun p hp => boot_cursor hp _ _ _ _,
    fun n hn => ⟨boot_primary _ _ _ _ hn, boot_target _ _ _ _ hn⟩, fun x hx => boot_panelUp _ _ _ _ hx,
    fun x hx => ?_, fun _ x hx => ?_, rfl, rfl, rfl, fun _ => ?_, ?_, ?_, ?_, ?_, fun hw => ?_⟩
  · rw [boot_portLink _ _ _ _ hp, startLink, State.sourceOf, Option.isSome_map]
    rfl
  · rw [boot_port _ _ _ _ hp]
    rfl
  · rw [boot_hold _ _ _ _ hi, boot_seg hi]
    refine ⟨rfl, rfl, rfl, rfl, rfl, rfl, ?_⟩
    show if (imageSegment l.image i).restartHold = true then _ else _
    unfold startSegment
    split
    · next hr =>
      rw [hr]
      exact ⟨rfl, rfl, rfl⟩
    · next hr =>
      simp only [Bool.not_eq_true] at hr
      rw [hr]
      refine ⟨?_, rfl, rfl⟩
      simp only [Bool.false_eq_true, if_false, List.isEmpty_iff]
      rfl
  · rw [boot_zone hz]
    refine ⟨rfl, rfl, rfl, rfl, ?_⟩
    show (!(lineList l.image z).isEmpty) = true ↔ lineList l.image z ≠ []
    simp
  · rw [boot_line hk]
    exact ⟨rfl, rfl, rfl⟩
  · show (startWeather l.image).channels.getD c default = _
    have hchannels : (startWeather l.image).channels = List.replicate 24 Channel.reset :=
      (grantLink_beside (startHeads l.image)).2.1
    rw [hchannels, List.getD_replicate _ hc]
    rfl
  · have hgrant := linkGranted_grantLink (startHeads l.image)
    have hstart : startWeather l.image = grantLink (startHeads l.image) := rfl
    show (startWeather l.image).waiting = none
    rw [hstart]
    cases hd : firstDue (startHeads l.image) with
    | none => rw [grantLink_idle rfl rfl hd]; rfl
    | some k => rw [grantLink_due rfl rfl hd]; rfl
  · exact (grantLink_beside (startHeads l.image)).1
  · exact (grantLink_beside (startHeads l.image)).2.2
  · exact congrArg (BitVec.ofNat 32) (hserial 24 (Nat.le_refl _)).symm
  · show (boot l s.auth.keyLine contacts s.pending).stack n = match closureForm l.image
      ((boot l s.auth.keyLine contacts s.pending).seg (imageSign l.image n).segment).state with
      | none => _
      | some c => _
    rw [boot_stack hn, startStack, boot_closing l _ contacts _ haccepted hn, ← hserial n (by omega)]
    rfl
  · rw [boot_out _ _ _ _ hn, boot_composeFace, startOut]
    rfl
  · rw [boot_station _ _ _ _ hx]
    exact ⟨rfl, rfl, rfl, rfl, rfl, rfl, rfl, rfl, rfl, rfl⟩
  · rw [boot_station _ _ _ _ hx, hclosed]
    rfl
  · refine List.filter_congr fun x _ => ?_
    rw [hclosed, Bool.eq_iff_iff, decide_eq_true_iff, Bool.and_eq_true, bne_iff_ne]
    rfl
  · show (if (startSequence l.image contacts).isEmpty = true then [] else [Instr.startupSequenceBegin]) =
      if startSequence l.image contacts = [] then [] else _
    simp only [List.isEmpty_iff]
  · rw [← hl]
    rfl
  · rw [← hl]
    rfl
  · rw [← hl]
    rfl
  · rw [← hl]
    show memoryNow s.loader = _
    rw [memoryNow, hw]
    rfl

end Sys2Proof.Machine

/-! PROOF. The agent ports: receive assembly and intake (R172, R173), the transmit side (R176, R177) and the
layouts of notices and status records (R181–R183). -/

namespace Sys2Proof.Machine

set_option Elab.async false

open Sys2Proof

/-! ## The receive assembly -/

theorem be16_pair (v : Half) : ∃ hi lo, be16 v = [hi, lo] := ⟨_, _, rfl⟩

theorem byteOf_toNat {n : Nat} (h : n < 256) : (byteOf n).toNat = n := by
  simp [byteOf, Nat.mod_eq_of_lt h]

section
variable {q : Port}

theorem takeByte_start (h : q.assembly = .hunting) : q.takeByte 0x7E#8 = { q with assembly := .frame [] } := by
  rw [Port.takeByte, h]
  rfl

theorem takeByte_length {b : Byte} (h : q.assembly = .frame []) (h0 : b ≠ 0) (h200 : b.toNat ≤ 200) :
    q.takeByte b = { q with assembly := .frame [b] } := by
  rw [Port.takeByte, h]
  have hgood : ¬(b = 0 ∨ 200 < b.toNat) := fun hb => hb.elim h0 (Nat.not_lt.2 h200)
  exact if_neg (by simpa using hgood)

theorem takeByte_badLength {b : Byte} (h : q.assembly = .frame []) (hb : b = 0 ∨ 200 < b.toNat) :
    q.takeByte b = q.discard := by
  rw [Port.takeByte, h]
  exact if_pos (by simpa using hb)

theorem takeByte_within {len b : Byte} {r : List Byte} (h : q.assembly = .frame (len :: r))
    (hlt : r.length + 2 < len.toNat + 3) : q.takeByte b = { q with assembly := .frame (len :: r ++ [b]) } := by
  rw [Port.takeByte, h]
  exact if_pos (by simpa using hlt)

theorem takeByte_last {len b : Byte} {r : List Byte} (h : q.assembly = .frame (len :: r))
    (hlast : r.length = len.toNat + 1) : q.takeByte b = q.complete (len :: r ++ [b]) := by
  rw [Port.takeByte, h]
  exact if_neg (by simp only [List.length_cons]; omega)

/-- A begun frame gathers its bytes until the last. -/
theorem foldl_takeByte_within {len : Byte} (bs r : List Byte) (h : q.assembly = .frame (len :: r))
    (hlt : r.length + bs.length < len.toNat + 2) :
    bs.foldl Port.takeByte q = { q with assembly := .frame (len :: r ++ bs) } := by
  induction bs generalizing q r with
  | nil =>
    rw [List.foldl_nil, List.append_nil, ← h]
  | cons b bs ih =>
    simp only [List.length_cons] at hlt
    have hb : q.takeByte b = { q with assembly := .frame (len :: (r ++ [b])) } := takeByte_within h (by omega)
    rw [List.foldl_cons, hb, ih (r ++ [b]) rfl (by simp only [List.length_append, List.length_singleton]; omega)]
    simp

theorem complete_assembly (a : Assembly) (bytes : List Byte) :
    ({ q with assembly := a } : Port).complete bytes = q.complete bytes := rfl

/-- A whole frame is taken as its bytes after the start byte (R172). -/
theorem foldl_takeByte_frame {body : List Byte} {hi lo : Byte} (h : q.assembly = .hunting) (h1 : 1 ≤ body.length)
    (h200 : body.length ≤ 200) :
    (0x7E#8 :: byteOf body.length :: body ++ [hi, lo]).foldl Port.takeByte q =
      q.complete (byteOf body.length :: body ++ [hi, lo]) := by
  have hlen : (byteOf body.length).toNat = body.length := byteOf_toNat (by omega)
  have hne : byteOf body.length ≠ 0 := fun h0 => by
    rw [h0] at hlen
    simp at hlen
    omega
  have hsplit : body ++ [hi, lo] = body ++ [hi] ++ [lo] := by simp
  rw [List.cons_append, List.cons_append, hsplit, List.foldl_cons, takeByte_start h, List.foldl_cons,
    takeByte_length rfl hne (by omega), List.foldl_append,
    foldl_takeByte_within (body ++ [hi]) [] rfl (by
      simp only [List.length_append, List.length_nil, List.length_singleton]; omega)]
  show ({ q with assembly := .frame (byteOf body.length :: (body ++ [hi])) } : Port).takeByte lo = _
  rw [takeByte_last (q := { q with assembly := _ }) rfl (by
    rw [hlen, List.length_append, List.length_singleton]), complete_assembly]
  rfl

/-- The CRC-16 decides whether a frame's body arrives. -/
theorem complete_frame {body : List Byte} {hi lo : Byte} :
    q.complete (byteOf body.length :: body ++ [hi, lo]) =
      if [hi, lo] = be16 (crc16 (byteOf body.length :: body)) then ({ q with assembly := .hunting } : Port).arrive body
      else q.discard := by
  have hlen : (byteOf body.length :: body ++ [hi, lo]).length - 2 = (byteOf body.length :: body).length := by simp
  rw [Port.complete, hlen, List.take_left, List.drop_left]
  simp only [beq_iff_eq, List.drop_succ_cons, List.drop_zero]

end

theorem execFrameArrival_ok {p : Nat} (bytes : List Byte) (s : State) (hp : portOk p = true) :
    exec (.frameArrival p bytes) s = .next (s.setPort p (bytes.foldl Port.takeByte (s.port p))) := by
  show onObject (portOk p) _ = _
  rw [hp, onObject_true]

theorem portOk_lt {s : State} {p : Nat} (ht : TablesOk s) (hp : portOk p = true) : p < s.ports.length := by
  rw [tables_ports ht]
  simpa [portOk] using hp

theorem changesOnly_setPort (s : State) (p : Nat) (v : Port) : ChangesOnly [.ports] s (s.setPort p v) := by
  intro b hb; cases b <;> first | rfl | simp at hb

/-- Settles O11. -/
theorem frameArrivalQueuesFrame : Obligations.FrameArrivalQueuesFrame := by
  intro s p body ht hp hhunt h1 h200
  have hlt := portOk_lt ht hp
  obtain ⟨hi, lo, hcrc⟩ := be16_pair (crc16 (byteOf body.length :: body))
  have harrive : (frameOf body).foldl Port.takeByte (s.port p) = (s.port p).arrive body := by
    have hframe : frameOf body = 0x7E#8 :: byteOf body.length :: body ++ [hi, lo] := by rw [← hcrc]; rfl
    have hself : ({ s.port p with assembly := .hunting } : Port) = s.port p := by rw [← hhunt]
    rw [hframe, foldl_takeByte_frame hhunt h1 h200, complete_frame, if_pos hcrc.symm, hself]
  refine ⟨_, execFrameArrival_ok _ s hp, fun r hr => State.setPort_port_ne s p r _ hr, changesOnly_setPort s p _, ?_⟩
  rw [State.setPort_port_self s p _ hlt, harrive]
  rfl

/-- Settles O12. -/
theorem faultyFramesAreDiscarded : Obligations.FaultyFramesAreDiscarded := by
  intro s p ht hp
  have hlt := portOk_lt ht hp
  have htaken : ∀ {bytes : List Byte} {v : Port}, bytes.foldl Port.takeByte (s.port p) = v →
      ∃ t, exec (.frameArrival p bytes) s = .next t ∧ t.port p = v ∧ ChangesOnly [.ports] s t := fun hv =>
    ⟨_, execFrameArrival_ok _ s hp, (State.setPort_port_self s p _ hlt).trans hv, changesOnly_setPort s p _⟩
  refine ⟨fun hhunt => ⟨?_, fun body hi lo h1 h200 hcrc => ?_, fun len hlen => ?_⟩, fun bs late hbegun => ?_⟩
  · refine ⟨s.setPort p { s.port p with assembly := .frame [] }, ?_, State.setPort_port_self s p _ hlt, ?_,
      changesOnly_setPort s p _⟩
    · show onObject (portOk p) (if ((s.port p).assembly == .hunting) = true then _ else _) = _
      rw [hp, onObject_true, hhunt]
      rfl
    · rw [execFrameArrival_ok _ s hp, List.foldl_cons, List.foldl_nil, takeByte_start hhunt]
  · refine htaken ?_
    rw [foldl_takeByte_frame hhunt h1 h200, complete_frame, if_neg hcrc]
    rfl
  · refine htaken ?_
    rw [List.foldl_cons, takeByte_start hhunt, List.foldl_cons, List.foldl_nil]
    exact takeByte_badLength rfl hlen
  · have hexec : exec (.interByteGapDiscard p late) s =
        .next (s.setPort p ((s.port p).discard.takeByte late)) := by
      show onObject (portOk p) (if ((s.port p).assembly == .hunting) = true then _ else _) = _
      rw [hp, onObject_true, hbegun]
      rfl
    refine ⟨_, hexec, ?_, fun r hr => State.setPort_port_ne s p r _ hr, changesOnly_setPort s p _⟩
    rw [State.setPort_port_self s p _ hlt, Port.takeByte]
    show (if late = 0x7E#8 then _ else _) = _
    split
    · rfl
    · rfl

/-! ## The encodings of values (R181) -/

@[simp] theorem oneByte_eq (n : Option Nat) : oneByte n = encIndex n := by cases n <;> rfl
@[simp] theorem yesNo_eq (b : Bool) : yesNo b = codeBool b := rfl
@[simp] theorem firstName_eq (b : Bool) : firstName b = codeFirst b := rfl
@[simp] theorem secondsLeft_eq (t : Option Nat) : secondsLeft t = encRemaining t := rfl
@[simp] theorem weatherValue_eq (v : Option Int) : weatherValue v = encWeather v := by cases v <;> rfl
@[simp] theorem stampBytes_eq (w : Option Word) : stampBytes w = encStamp w := by cases w <;> rfl
@[simp] theorem keyBytes_eq (k : DemandKey) : keyBytes k = encKey (some k) := by
  cases k with
  | agent src tag => cases src <;> rfl
  | internal topic => cases topic <;> rfl

theorem serial_eq (w : Option Word) : be32 (w.getD 0xFFFFFFFF#32) = encSerial w := by cases w <;> rfl

theorem raw_eq (n : Option Nat) : be16 (BitVec.ofNat 16 (n.getD 0x7FFF)) = encRaw n := by cases n <;> rfl

theorem timeOfDay_eq (d : Option TimeOfDay) : (d.map timeBytes).getD [0xFE, 0xFE, 0xFE] = encTimeOfDay d := by
  cases d <;> rfl

/-! ### Places of named values -/

@[simp] theorem ordinal_segState (st : SegState) :
    ordinal [SegState.opened, .prewarn, .lowering, .closed, .raising] (some st) = byteOf st.code := by cases st <;> rfl
@[simp] theorem ordinal_zoneState (st : ZoneState) :
    ordinal [ZoneState.quiet, .watch, .tripped, .work, .sweep] (some st) = st.code := by cases st <;> rfl
@[simp] theorem ordinal_gateState (st : GateState) :
    ordinal [GateState.unknown, .opened, .lowering, .closed, .raising, .retreat, .wait, .fault, .manual, .offline]
      (some st) = st.code := by cases st <;> rfl
@[simp] theorem ordinal_stationState (st : StationState) :
    ordinal [StationState.absent, .powering, .identifying, .active, .lost, .quiescing, .off, .faulted] (some st) =
      st.code := by cases st <;> rfl
@[simp] theorem ordinal_lineState (st : LineState) :
    ordinal [LineState.normal, .fired, .cut, .bypassed, .unmonitored] (some st) = st.code := by cases st <;> rfl
@[simp] theorem ordinal_outState (st : OutState) :
    ordinal [OutState.shown, .pending, .dark] (some st) = st.code := by cases st <;> rfl
@[simp] theorem ordinal_channelStatus (st : ChannelStatus) :
    ordinal [ChannelStatus.fresh, .stale, .implausible, .forced] (some st) = st.code := by cases st <;> rfl
@[simp] theorem ordinal_linkState (st : LinkState) :
    ordinal [LinkState.unbound, .silent, .linked, .lost] (some st) = st.code := by cases st <;> rfl
@[simp] theorem ordinal_agent (src : Option AgentSource) :
    ordinal [AgentSource.avs, .enf, .roc, .cab] src = codeAgent src := by
  cases src with
  | none => rfl
  | some src => cases src <;> rfl
@[simp] theorem ordinal_position (x : Option Position) :
    ordinal [Position.up, .down, .between] x = codePosition x := by
  cases x with
  | none => rfl
  | some x => cases x <;> rfl
@[simp] theorem ordinal_gateFault (x : Option GateFault) :
    ordinal [GateFault.travelTimeout, .obstructionLimit, .stationLost, .positionConflict] x = codeGateFault x := by
  cases x with
  | none => rfl
  | some x => cases x <;> rfl
@[simp] theorem ordinal_stationFault (x : Option StationFault) :
    ordinal [StationFault.powerFault, .typeMismatch, .identTimeout, .faceCheck] x = codeStationFault x := by
  cases x with
  | none => rfl
  | some x => cases x <;> rfl
@[simp] theorem ordinal_condition (x : Option Condition) :
    ordinal [Condition.quiet, .alarm, .openCircuit] x = codeCondition x := by
  cases x with
  | none => rfl
  | some x => cases x <;> rfl
@[simp] theorem ordinal_loss (x : Option LossAction) :
    ordinal [LossAction.retain, .withdraw] x = codeLoss x := by
  cases x with
  | none => rfl
  | some x => cases x <;> rfl
@[simp] theorem ordinal_speed (x : Option LineSpeed) :
    ordinal [LineSpeed.b9600, .b19200, .b38400, .b57600] (some (x.getD .b9600)) = codeSpeed x := by
  cases x with
  | none => rfl
  | some x => cases x <;> rfl
@[simp] theorem ordinal_channelType (x : ChannelType) :
    ordinal [ChannelType.surfaceTemp, .dewPoint, .precip, .snowDepth, .windGust] (some x) = codeChannelType x := by
  cases x <;> rfl
@[simp] theorem ordinal_faultAction (x : FaultAction) :
    ordinal [FaultAction.hold, .fallback, .worst] (some x) = codeFaultAction x := by cases x <;> rfl
@[simp] theorem ordinal_direction (x : Direction) :
    ordinal [Direction.uphill, .downhill] (some x) = codeDirection x := by cases x <;> rfl
@[simp] theorem ordinal_stationType (x : StationType) :
    ordinal [StationType.sign, .gate, .trip, .beacon, .unused] (some x) = codeStationType x := by cases x <;> rfl
@[simp] theorem ordinal_indicator (x : Indicator) :
    ordinal [Indicator.dark, .steady, .blink] (some x) = x.code := by cases x <;> rfl
@[simp] theorem flashByte_eq (f : Flash) : flashByte f = codeFlash f := by cases f <;> rfl

/-! ### Places of causes, from 1 -/

@[simp] theorem fromOne_segCause (c : SegCause) :
    fromOne [SegCause.claim, .release, .forceRelease, .restartConfirm, .detector, .zoneCleared, .zoneLock,
      .dwellExpiry, .gatesDown, .gatesUp, .holdTaken, .holdReleased, .holdExpired, .holdLost, .condClass, .windClass]
      c = c.code := by cases c <;> rfl
@[simp] theorem fromOne_zoneCause (c : ZoneCause) :
    fromOne [ZoneCause.level, .trip, .line, .sweep, .cleared, .permit, .permitRenewed, .permitEnd, .permitExpiry] c =
      c.code := by cases c <;> rfl
@[simp] theorem fromOne_gateCause (c : GateCause) :
    fromOne [GateCause.order, .reached, .travelTimeout, .obstruction, .retreated, .retry, .obstructionLimit,
      .positionConflict, .leverEngaged, .leverReleased, .manualMove, .stationLost, .stationOffline, .stationReturn,
      .startupLimit, .faultClear, .positionSettled] c = c.code := by cases c <;> rfl
@[simp] theorem fromOne_stationCause (c : StationCause) :
    fromOne [StationCause.presenceClosed, .presenceOpened, .settled, .identified, .typeMismatch, .identTimeout,
      .noReply, .reply, .powerFault, .faceCheck, .attention, .attentionRefused, .stationOff, .stationRestart,
      .quiesced] c = c.code := by cases c <;> rfl
@[simp] theorem fromOne_signCause (c : SignCause) :
    fromOne [SignCause.post, .withdraw, .expiry, .linkLoss, .closure, .zone, .cond, .wind, .retarget, .confirmed,
      .mismatch, .recomposed] c = c.code := by cases c <;> rfl
@[simp] theorem fromOne_channelCause (c : ChannelCause) :
    fromOne [ChannelCause.goodSample, .implausible, .staleLimit, .forced, .unforced] c = c.code := by cases c <;> rfl
@[simp] theorem fromOne_portCause (c : PortCause) :
    fromOne [PortCause.presence, .windowExpiry] c = c.code := by cases c <;> rfl

/-! ## Notice frames (R182) -/

theorem noticeFields_state (b : NoticeBody) : (noticeFields b).1 = b.stateByte := by
  cases b <;> simp [noticeFields, NoticeBody.stateByte]

theorem noticeFields_cause (b : NoticeBody) : (noticeFields b).2.1 = b.causeByte := by
  cases b <;> simp [noticeFields, NoticeBody.causeByte]

theorem noticeFields_data (b : NoticeBody) : (noticeFields b).2.2 = b.data := by
  cases b with
  | zone st cause level degraded line bypassed =>
    rcases line with _ | ⟨l, ls⟩ <;> cases bypassed <;> simp [noticeFields, NoticeBody.data, encIndex]
    · rfl
    · rfl
  | sign st cause winner =>
    cases winner with
    | none => rfl
    | some k => simp [noticeFields, NoticeBody.data]
  | _ => simp [noticeFields, NoticeBody.data]

theorem kindByte_eq (b : NoticeBody) : kindByte b = byteOf b.bit := by cases b <;> rfl

theorem noticeFrame_eq (n : Notice) (overflow : Bool) :
    noticeFrame n overflow = Notice.frameBody { n with overflow } := by
  rw [noticeFrame, noticeFields_state, noticeFields_cause, noticeFields_data, kindByte_eq, yesNo_eq, stampBytes_eq]
  rfl

theorem exec_replySent {s : State} {p : Nat} (hp : portOk p = true) :
    exec (.replySent p) s = .next (s.setPort p (s.port p).sendReply) := by
  show onObject (portOk p) _ = _
  rw [hp, onObject_true]

theorem exec_noticeSent {s : State} {p : Nat} (hp : portOk p = true) :
    exec (.noticeSent p) s = .next (s.setPort p (s.port p).sendNotice) := by
  show onObject (portOk p) _ = _
  rw [hp, onObject_true]

theorem setPort_same {s : State} {p : Nat} : s.setPort p (s.port p) = s := by
  have hset : s.ports.set p (s.port p) = s.ports := by
    by_cases hp : p < s.ports.length
    · rw [State.port, List.getD_eq_getElem _ _ hp, List.set_getElem_self]
    · exact List.set_eq_of_length_le (Nat.not_lt.1 hp)
  rw [State.setPort, hset]

/-- Settles O13. -/
theorem repliesLeaveBeforeNotices : Obligations.RepliesLeaveBeforeNotices := by
  intro s p ht hp
  have hlt := portOk_lt ht hp
  refine ⟨fun r rs howed => ?_, fun n ns howed hnotices => ?_, fun howed => ?_⟩
  · refine ⟨_, exec_replySent hp, ?_, fun k hk => State.setPort_port_ne s p k _ hk, changesOnly_setPort s p _⟩
    rw [State.setPort_port_self s p _ hlt, Port.sendReply, howed]
    rfl
  · refine ⟨_, exec_noticeSent hp, ?_, fun k hk => State.setPort_port_ne s p k _ hk, changesOnly_setPort s p _⟩
    rw [State.setPort_port_self s p _ hlt, Port.sendNotice, howed, hnotices, noticeFrame_eq]
    rfl
  · have hstands : (s.port p).sendNotice = s.port p := by
      rw [Port.sendNotice, if_neg (by simpa using howed)]
    rw [exec_noticeSent hp, hstands, setPort_same]

/-! ## Status records (R183) -/

theorem segmentRecord_eq (s : State) (i : Nat) : segmentRecord s i = statusSegment s i := by
  have hclaim : ∀ c : Option Claim, [yesNo c.isSome, oneByte (c.map (·.reason))] ++ stampBytes (c.map (·.placedAt)) ++
      [(c.map fun k => firstName k.immediate).getD 0xFF] = statusClaim c := fun c => by
    cases c with
    | none => rfl
    | some k => simp [statusClaim]
  simp only [segmentRecord, statusSegment, hclaim]
  cases (s.seg i).stamp <;> cases hdet : (s.seg i).claims.det <;>
    simp [hdet, claimSources, ClaimSet.get, encList, enc16, encClosure, encTimeOfDay, timeBytes]

theorem zoneRecord_eq (s : State) (z : Nat) : zoneRecord s z = statusZone s z := by
  simp [zoneRecord, statusZone, encList]

theorem gateRecord_eq (s : State) (g : Nat) : gateRecord s g = statusGate s g := by
  simp [gateRecord, statusGate]

theorem lineRecord_eq (s : State) (l : Nat) : lineRecord s l = statusLine s l := by
  simp [lineRecord, statusLine]

theorem channelRecord_eq (s : State) (c : Nat) : channelRecord s c = statusChannel s c := by
  simp only [channelRecord, statusChannel, raw_eq]
  cases (s.channel c).forced <;> cases (imageFixed s.image c).place <;> simp [enc16, encForced]

theorem signRecord_eq (s : State) (n : Nat) : signRecord s n = statusSign s n := by
  have hdemand : ∀ d : Demand, keyBytes d.key ++ [byteOf d.slot, byteOf d.severity, flashByte d.flash] ++
      secondsLeft d.expiry ++ be32 d.arrival = statusDemand d := fun d => by
    simp [statusDemand, encSerial]
  simp only [signRecord, statusSign, hdemand]
  simp

theorem stationRecord_eq (s : State) (x : Nat) : stationRecord s x = statusStation s x := by
  simp [stationRecord, statusStation, ← serial_eq]

theorem portRecord_eq (s : State) (p : Nat) : portRecord s p = statusPort s p := by
  simp only [portRecord, statusPort, timeOfDay_eq]
  simp [enc16]

theorem slotRecord_eq (s : State) (n : Nat) : slotRecord s n = statusSlot s n := by
  unfold slotRecord statusSlot
  split <;> simp

theorem recordOf_eq (s : State) (kind index : Nat) : recordOf s kind index = statusRecord s kind index := by
  unfold recordOf statusRecord
  split <;> simp [segmentRecord_eq, zoneRecord_eq, gateRecord_eq, lineRecord_eq, channelRecord_eq, signRecord_eq,
    stationRecord_eq, portRecord_eq, slotRecord_eq]

/-! ## Commands of the port interface -/

theorem portClear_port {s : State} {p : Nat} (hlt : p < s.ports.length) :
    (outcome portClearCommand s p ()).port p = { (s.port p).cleared with
      owed := (s.port p).owed ++ [Reply.mk 0x84#8 .done
        [byteOf ((s.port p).intake.length - 1), byteOf (s.port p).notices.length] true] } := by
  have hpop : p < (popFrame s p).ports.length := by rwa [popFrame_ports_length]
  have hclear : p < ((popFrame s p).setPort p ((popFrame s p).port p).cleared).ports.length := by
    rwa [State.setPort_ports, List.length_set]
  have hdata : (portClearCommand.run (popFrame s p) p ()).data =
      [byteOf ((s.port p).intake.length - 1), byteOf (s.port p).notices.length] := by
    show [byteOf ((popFrame s p).port p).intake.length, byteOf ((popFrame s p).port p).notices.length] = _
    rw [popFrame_port_self hlt, List.length_drop]
  show (((popFrame s p).setPort p ((popFrame s p).port p).cleared).owe p _).port p = _
  rw [owe_port _ hclear, State.setPort_port_self _ _ _ hpop, popFrame_port_self hlt, hdata]
  rfl

theorem subscribe_port {s : State} {p : Nat} {set : BitVec 7} (hlt : p < s.ports.length) :
    (outcome subscribeCommand s p set).port p = { s.port p with
      subscription := set, intake := (s.port p).intake.drop 1,
      owed := (s.port p).owed ++ [Reply.mk (replyKind CmdKind.subscribe.byte) .done [set.setWidth 8] true] } := by
  have hpop : p < (popFrame s p).ports.length := by rwa [popFrame_ports_length]
  have hset : p < ((popFrame s p).setPort p { (popFrame s p).port p with subscription := set }).ports.length := by
    rwa [State.setPort_ports, List.length_set]
  show (((popFrame s p).setPort p { (popFrame s p).port p with subscription := set }).owe p _).port p = _
  rw [owe_port _ hset, State.setPort_port_self _ _ _ hpop, popFrame_port_self hlt]
  rfl

/-- SUBSCRIBE and PORT CLEAR change their own port only. -/
theorem setPort_outcome_ne {s : State} {p q : Nat} {v : Port} {r : Reply} (hq : q ≠ p) :
    (((popFrame s p).setPort p v).owe p r).port q = s.port q := by
  rw [owe_port_ne _ hq, State.setPort_port_ne _ _ _ _ hq, popFrame_port_ne hq]

/-- Settles O14. -/
theorem portAndClockCommands : Obligations.PortAndClockCommands := by
  intro s p ht
  refine ⟨fun set hacc => ?_, fun hacc => ?_, fun kind index hacc => ?_, fun time hacc => ?_⟩
  · have hport := subscribe_port (set := set) (accepted_lt ht hacc)
    refine ⟨_, exec_accepted rfl (fun _ _ => ⟨rfl, rfl, rfl⟩) hacc, ?_, ?_, ⟨?_, ?_, fun q _ hq => ?_⟩,
      outcome_changesOnly (changesOnly_setPort _ p _) (by decide)⟩
    · rw [hport]
    · rw [hport]
    · rw [hport]
    · rw [hport]
    · have hother : (outcome subscribeCommand s p set).port q = s.port q := setPort_outcome_ne hq
      rw [hother]
      exact ⟨rfl, rfl⟩
  · have hport := portClear_port (accepted_lt ht hacc)
    refine ⟨_, exec_accepted rfl (fun _ _ => ⟨rfl, rfl, rfl⟩) hacc, congrArg Port.intake hport, congrArg Port.notices hport,
      congrArg Port.overflowOwed hport, congrArg Port.subscription hport, congrArg Port.crcErrors hport,
      (congrArg Port.assembly hport).trans rfl, (congrArg Port.lastSent hport).trans rfl, congrArg Port.owed hport,
      fun q hq => setPort_outcome_ne hq, outcome_changesOnly (changesOnly_setPort _ p _) (by decide)⟩
  · rw [exec_accepted rfl (fun _ _ => ⟨rfl, rfl, rfl⟩) hacc, recordOf_eq]
    rfl
  · have hrun : setTimeCommand.run (popFrame s p) p time = Verdict.mk .done (encStamp (some s.clock.seconds))
        { popFrame s p with clock := { s.clock with timeOfDay := some time } } := rfl
    obtain ⟨hnotices, hreply, hlines⟩ := outcome_told hrun (told_of_ports rfl) (accepted_lt ht hacc)
    refine ⟨_, exec_accepted rfl (fun _ _ => ⟨rfl, rfl, rfl⟩) hacc, rfl, hreply, noNotice_of_noticesSent hnotices,
      hlines, outcome_changesOnly ?_ (by decide)⟩
    exact (leaves_run .setTime (popFrame s p) p time).changesOnly (by decide)

end Sys2Proof.Machine

/-! PROOF. Presence, links and holds (R24–R33): what each event leaves at links and holds, with its notices. -/

namespace Sys2Proof.Machine

set_option Elab.async false

open Sys2Proof

variable {α : Type}

/-! ## Notices that differ from port to port -/

/-- On each port exactly these notices, in this order, have been placed. -/
def ToldEach (f : Nat → List (Nat × NoticeBody)) (s t : State) : Prop :=
  t.ports.length = s.ports.length ∧ ∀ q, t.port q = withNotices s (f q) (s.port q)

theorem Told.each {l : List (Nat × NoticeBody)} {s t : State} (h : Told l s t) : ToldEach (fun _ => l) s t :=
  ⟨by rw [h, List.length_map], h.port⟩

theorem notifyBut_port {s : State} {i : Nat} {b : NoticeBody} (x q : Nat) :
    (s.notifyBut (some x) i b).port q = withNotices s (if q = x then [] else [(i, b)]) (s.port q) := by
  by_cases hq : q < s.ports.length
  · have hread : (s.notifyBut (some x) i b).port q =
        if (s.port q).subscription.getLsbD b.bit && some q != some x then
          (s.port q).pushNotice { index := i, stamp := s.clock.seconds, overflow := false, body := b }
        else s.port q := by
      simp [State.port, List.getD, hq]
    rw [hread]
    by_cases hqx : q = x
    · simp [hqx, withNotices]
    · simp [hqx, withNotices]
  · have hlen : ¬ q < (s.notifyBut (some x) i b).ports.length := by simpa using hq
    have hread : ∀ t : State, ¬ q < t.ports.length → t.port q = default := fun t ht => by
      simp [State.port, List.getD, List.getElem?_eq_none (Nat.not_lt.1 ht)]
    rw [hread _ hlen, hread _ hq, withNotices_default]

theorem toldEach_notifyBut (s : State) (x i : Nat) (b : NoticeBody) :
    ToldEach (fun q => if q = x then [] else [(i, b)]) s (s.notifyBut (some x) i b) :=
  ⟨by simp, notifyBut_port x⟩

theorem ToldEach.trans {f g : Nat → List (Nat × NoticeBody)} {s t u : State} (h : ToldEach f s t)
    (k : ToldEach g t u) (hclock : t.clock.seconds = s.clock.seconds) : ToldEach (fun q => f q ++ g q) s u :=
  ⟨k.1.trans h.1, fun q => by rw [k.2 q, h.2 q, withNotices_clock hclock, withNotices_append]⟩

section
variable {c : Command α} {s u : State} {p : Nat} {a : α} {code : Result} {data : List Byte}
  {f : Nat → List (Nat × NoticeBody)}

/-- What a command that is carried out leaves at the ports. -/
theorem outcome_toldEach (hrun : c.run (popFrame s p) p a = { code, data, state := u })
    (h : ToldEach f (popFrame s p) u) (hp : p < s.ports.length) :
    (∀ q < 4, ((outcome c s p a).port q).notices = (withNotices s (f q) (s.port q)).notices ∧
      ((outcome c s p a).port q).overflowOwed = (withNotices s (f q) (s.port q)).overflowOwed) ∧
    Replied p c.kind code data s (outcome c s p a) ∧ LinesKept s (outcome c s p a) := by
  obtain ⟨hlen, hport⟩ := h
  have hpu : p < u.ports.length := by rw [hlen, popFrame_ports_length]; exact hp
  rw [outcome_eq hrun]
  have hself : u.port p = { withNotices s (f p) (s.port p) with intake := (s.port p).intake.drop 1 } := by
    rw [hport p, popFrame_port_self hp, withNotices_clock (s := s) (t := popFrame s p) rfl, withNotices_intake]
  have hother : ∀ q, q ≠ p → u.port q = withNotices s (f q) (s.port q) := fun q hq => by
    rw [hport q, popFrame_port_ne hq, withNotices_clock (s := s) (t := popFrame s p) rfl]
  obtain ⟨h1, h2, h3, h4, h5, h6⟩ := withNotices_rest s (f p) (s.port p)
  refine ⟨fun q _ => ?_, ⟨?_, ?_, fun q _ hq => ?_⟩, fun q _ => ?_⟩
  · by_cases hq : q = p
    · subst hq
      rw [owe_port _ hpu, hself]
      exact ⟨rfl, rfl⟩
    · rw [owe_port_ne _ hq, hother q hq]
      exact ⟨rfl, rfl⟩
  · rw [owe_port _ hpu, hself]
  · rw [owe_port _ hpu, hself]
    show (withNotices s (f p) (s.port p)).owed ++ _ = _
    rw [h6]
  · obtain ⟨-, -, -, -, k5, k6⟩ := withNotices_rest s (f q) (s.port q)
    rw [owe_port_ne _ hq, hother q hq]
    exact ⟨k5, k6⟩
  · by_cases hq : q = p
    · subst hq
      rw [owe_port _ hpu, hself]
      exact ⟨h1, h2, h3, h4⟩
    · obtain ⟨k1, k2, k3, k4, -, -⟩ := withNotices_rest s (f q) (s.port q)
      rw [owe_port_ne _ hq, hother q hq]
      exact ⟨k1, k2, k3, k4⟩

end

/-- One notice on every port but one. -/
theorem oneNotice_of_each {x i : Nat} {b : NoticeBody} {s t : State}
    (h : ∀ q < 4, (t.port q).notices = (withNotices s (if q = x then [] else [(i, b)]) (s.port q)).notices ∧
      (t.port q).overflowOwed = (withNotices s (if q = x then [] else [(i, b)]) (s.port q)).overflowOwed) :
    OneNotice (some x) i b s t := fun q hq => by
  have hq' := h q hq
  by_cases hqx : q = x
  · subst hqx
    simpa [withNotices] using hq'
  · simpa [withNotices, hqx] using hq'

/-! ## PRESENCE -/

section
variable {s : State} {p : Nat} {b : PortBinding}

theorem linkedNow_bound (hb : imagePort s.image p = some b) : linkedNow s p =
    { state := .linked, lower := if b.lower = 0 then none else some b.lower, window := some b.upper } := by
  rw [linkedNow, hb]

theorem presenceData_bound (hb : imagePort s.image p = some b) :
    presenceData s p = 2#8 :: (enc16 b.upper ++ enc16 b.lower) := by
  rw [presenceData, hb]
  rfl

theorem runPresence_early (hst : (s.portLink p).state = .linked) (hlow : (s.portLink p).lower ≠ none) :
    runPresence s p () = refuse s .early := by
  simp [runPresence, hst, Option.isSome_iff_ne_none.2 hlow]

theorem runPresence_again (hb : imagePort s.image p = some b) (hst : (s.portLink p).state = .linked)
    (hlow : (s.portLink p).lower = none) :
    runPresence s p () =
      Verdict.mk .done (2#8 :: (enc16 b.upper ++ enc16 b.lower)) (s.setLink p (linkedNow s p)) := by
  simp [runPresence, hst, hlow, presenceData_bound hb]

theorem runPresence_links (hb : imagePort s.image p = some b) (hst : (s.portLink p).state ≠ .linked) :
    runPresence s p () = Verdict.mk .done (2#8 :: (enc16 b.upper ++ enc16 b.lower))
      (portNotice (s.setLink p (linkedNow s p)) p .presence) := by
  simp [runPresence, hst, presenceData_bound hb]

theorem tables_links (ht : TablesOk s) : s.auth.links.length = 4 := by
  obtain ⟨-, hlinks, -⟩ := ht
  exact hlinks

theorem tables_holds (ht : TablesOk s) : s.auth.holds.length = 12 := by
  obtain ⟨-, -, hholds, -⟩ := ht
  exact hholds

end

/-- Settles O15. -/
theorem presenceLinksPort : Obligations.PresenceLinksPort := by
  intro s p b ht hb
  refine ⟨fun hacc => ⟨fun hmay => ?_, fun hst hlow => ?_⟩, fun hp hlow => ?_⟩
  · have hlt := accepted_lt ht hacc
    have hlink : p < s.auth.links.length := by rw [tables_links ht]; exact accepted_port_lt hacc
    have hexec : exec (.presence p) s = .next (outcome presenceCommand s p ()) :=
      exec_accepted rfl (fun _ _ => ⟨rfl, rfl, rfl⟩) hacc
    have hchanges : ChangesOnly [.ports, .auth] s (outcome presenceCommand s p ()) :=
      outcome_changesOnly ((leaves_run .presence (popFrame s p) p ()).changesOnly (by decide)) (by decide)
    have hlinks : ∀ t : State, t.auth = ((popFrame s p).setLink p (linkedNow (popFrame s p) p)).auth →
        t.portLink p = { state := .linked, lower := if b.lower = 0 then none else some b.lower,
                         window := some b.upper } ∧
        (∀ q, q ≠ p → t.portLink q = s.portLink q) ∧ t.auth.holds = s.auth.holds ∧
        t.auth.keyLine = s.auth.keyLine := fun t hauth => by
      have hread : ∀ q, t.portLink q = ((popFrame s p).setLink p (linkedNow (popFrame s p) p)).portLink q := fun q => by
        rw [State.portLink, hauth]
        rfl
      refine ⟨?_, fun q hq => (hread q).trans (State.setLink_portLink_ne _ p q _ hq), ?_, ?_⟩
      · exact ((hread p).trans (State.setLink_portLink_self _ p _ hlink)).trans (linkedNow_bound hb)
      · rw [hauth]
        rfl
      · rw [hauth]
        rfl
    by_cases hst : (s.portLink p).state = .linked
    · have hlow : (s.portLink p).lower = none := hmay.resolve_left (fun hno => hno hst)
      have hrun : presenceCommand.run (popFrame s p) p () = _ :=
        runPresence_again (s := popFrame s p) (p := p) hb hst hlow
      obtain ⟨hnotices, hreply, hlines⟩ := outcome_told hrun (told_of_ports rfl) hlt
      obtain ⟨h1, h2, h3, h4⟩ := hlinks (outcome presenceCommand s p ()) (by rw [outcome_eq hrun]; rfl)
      exact ⟨_, hexec, h1, h2, h3, h4, hreply, hlines, fun _ => noNotice_of_noticesSent hnotices,
        fun hno => absurd hst hno, hchanges⟩
    · have hrun : presenceCommand.run (popFrame s p) p () = _ :=
        runPresence_links (s := popFrame s p) (p := p) hb hst
      have hstate : (((popFrame s p).setLink p (linkedNow (popFrame s p) p)).portLink p).state = .linked := by
        rw [State.setLink_portLink_self (popFrame s p) p _ hlink, linkedNow_bound (s := popFrame s p) hb]
      have hsource : ((popFrame s p).setLink p (linkedNow (popFrame s p) p)).sourceOf p = some b.source := by
        show (imagePort s.image p).map (·.source) = _
        rw [hb]
        rfl
      have htold : ToldEach (fun q => if q = p then [] else [(p, .port .linked .presence (some b.source))])
          (popFrame s p) (portNotice ((popFrame s p).setLink p (linkedNow (popFrame s p) p)) p .presence) := by
        rw [portNotice, hstate, hsource]
        exact toldEach_notifyBut ((popFrame s p).setLink p (linkedNow (popFrame s p) p)) p p _
      obtain ⟨hnotices, hreply, hlines⟩ := outcome_toldEach hrun htold hlt
      obtain ⟨h1, h2, h3, h4⟩ := hlinks (outcome presenceCommand s p ()) (by rw [outcome_eq hrun]; rfl)
      exact ⟨_, hexec, h1, h2, h3, h4, hreply, hlines, fun hyes => absurd hyes hst,
        fun _ => oneNotice_of_each hnotices, hchanges⟩
  · rw [exec_accepted rfl (fun _ _ => ⟨rfl, rfl, rfl⟩) hacc,
      outcome_answered (c := presenceCommand) (a := ()) (runPresence_early (s := popFrame s p) hst hlow)]
    rfl
  · have hlink : p < s.auth.links.length := by rw [tables_links ht]; simpa [portOk] using hp
    have hexec : exec (.lowerBoundExpiry p) s = .next (s.setLink p { s.portLink p with lower := none }) := by
      show onObject (portOk p) (if due (s.portLink p).lower = true then _ else _) = _
      rw [hp, onObject_true, hlow]
      rfl
    exact ⟨_, hexec, State.setLink_portLink_self s p _ hlink, fun q hq => State.setLink_portLink_ne s p q _ hq, rfl,
      (leaves_setLink s p _).changesOnly (by decide)⟩

/-! ## Notices of holds -/

theorem flatMap_ite_eq {β : Type} (l : List Nat) (c : Nat → Bool) (g : Nat → β) :
    l.flatMap (fun i => if c i then [g i] else []) = (l.filter c).map g := by
  induction l with
  | nil => rfl
  | cons i l ih =>
    rw [List.flatMap_cons, ih, List.filter_cons]
    split <;> simp_all

/-- A SEGMENT notice of the segment as it stands (R55). -/
def segTold (s : State) (i : Nat) (cause : SegCause) : Nat × NoticeBody :=
  (i, .segment (s.seg i).state cause (s.seg i).revision (s.seg i).barrierFault none)

theorem segTold_congr {s t : State} (h : t.segments = s.segments) (i : Nat) (cause : SegCause) :
    segTold t i cause = segTold s i cause := by
  simp only [segTold, State.seg, h]

theorem told_segNotice (s : State) (i : Nat) (cause : SegCause) : Told [segTold s i cause] s (segNotice s i cause) :=
  told_notify s i _

theorem told_dropHold (s : State) (i : Nat) (cause : SegCause) : Told [segTold s i cause] s (dropHold s i cause) :=
  (told_segNotice (s.setHold i none) i cause).before rfl rfl

/-- The segment is held by this source. -/
def heldBy (s : State) (src : AgentSource) (i : Nat) : Bool := (s.hold i).map (·.holder) == some src

theorem heldBy_congr {s t : State} {i : Nat} (h : t.hold i = s.hold i) (src : AgentSource) :
    heldBy t src i = heldBy s src i := by
  simp only [heldBy, h]

theorem told_dropIfOf (src : AgentSource) (t : State) (i : Nat) :
    Told (if heldBy t src i then [segTold t i .holdLost] else []) t (dropIfOf src t i) := by
  unfold dropIfOf heldBy
  cases t.hold i with
  | none => exact told_refl t
  | some h =>
    by_cases he : h.holder = src
    · simp only [he, Option.map_some, beq_self_eq_true, if_true]
      exact told_dropHold t i .holdLost
    · simp only [Option.map_some, beq_iff_eq, Option.some.injEq, he, if_false]
      exact told_refl t

theorem leaves_dropIfOf (src : AgentSource) (t : State) (i : Nat) : Leaves [.auth, .notices] t (dropIfOf src t i) := by
  unfold dropIfOf
  split
  · exact leaves_ite (leaves_dropHold t i _) (leaves_refl _ t)
  · exact leaves_refl _ t

theorem dropIfOf_hold_ne (src : AgentSource) (t : State) {i j : Nat} (h : j ≠ i) :
    (dropIfOf src t i).hold j = t.hold j := by
  unfold dropIfOf
  split
  · split
    · exact State.setHold_hold_ne t i j none h
    · rfl
  · rfl

/-- R28: the HOLD_LOST notices go in ascending segment order (log 24). -/
theorem told_dropHolds (s : State) (src : AgentSource) :
    Told (((List.range 12).filter (heldBy s src)).map fun i => segTold s i .holdLost) s (dropHolds s src) := by
  rw [dropHolds_eq, ← flatMap_ite_eq]
  refine told_foldl (g := fun t i => if heldBy t src i then [segTold t i .holdLost] else [])
    (R := fun t l => l.Nodup ∧ t.segments = s.segments ∧ ∀ i ∈ l, t.hold i = s.hold i)
    (told_dropIfOf src) (fun t i => ?_) (fun t i l hR => ?_) (List.range 12)
    ⟨List.nodup_range, rfl, fun _ _ => rfl⟩
  · exact congrArg Clock.seconds ((leaves_dropIfOf src t i).kept .clock (by decide))
  · obtain ⟨hnd, hseg, hhold⟩ := hR
    obtain ⟨hi, hnd⟩ := List.nodup_cons.1 hnd
    refine ⟨⟨hnd, ?_, fun j hj => ?_⟩, ?_⟩
    · exact ((leaves_dropIfOf src t i).kept .segments (by decide)).trans hseg
    · have hji : j ≠ i := fun h => hi (h ▸ hj)
      rw [dropIfOf_hold_ne src t hji]
      exact hhold j (List.mem_cons_of_mem _ hj)
    · rw [heldBy_congr (hhold i (by simp)), segTold_congr hseg]

/-! ## The loss of a link -/

theorem lossDelivery_bound {s : State} {p : Nat} {b : PortBinding} (hb : imagePort s.image p = some b) :
    lossDelivery s p = if b.loss = .withdraw then [.linkLossRemoval b.source] else [] := by
  rw [lossDelivery, hb]
  simp only [beq_iff_eq]

/-- What the loss of a link places at the ports (R28, logs 24 and 30). -/
def lossNotices (s : State) (p : Nat) (src : AgentSource) (q : Nat) : List (Nat × NoticeBody) :=
  (((List.range 12).filter (heldBy s src)).map fun i => segTold s i .holdLost) ++
    if q = p then [] else [(p, .port .lost .windowExpiry (some src))]

/-- What the loss of a link leaves: the link, the holds of its source, the delivery and the notices. -/
structure LinkLost (s t : State) (p : Nat) (b : PortBinding) : Prop where
  link : t.portLink p = { state := .lost, lower := none, window := none }
  others : ∀ q, q ≠ p → t.portLink q = s.portLink q
  holds : ∀ i < 12, t.hold i = (s.hold i).filter fun h => h.holder != b.source
  keyLine : t.auth.keyLine = s.auth.keyLine
  deliveries : t.deliveries = s.deliveries ++ if b.loss = .withdraw then [.linkLossRemoval b.source] else []
  told : ToldEach (lossNotices s p b.source) s t

theorem loseLink_lost {s : State} {p : Nat} {b : PortBinding} (ht : TablesOk s) (hp : p < 4)
    (hb : imagePort s.image p = some b) : LinkLost s (loseLink s p) p b := by
  have hlink : p < s.auth.links.length := by rw [tables_links ht]; exact hp
  have hsrc : s.sourceOf p = some b.source := by
    rw [State.sourceOf, hb]
    rfl
  have hlose : loseLink s p =
      portNotice ((dropHolds (lostLink s p) b.source).deliver (lossDelivery s p)) p .windowExpiry := by
    rw [loseLink, agentOf_linked hsrc]
    rfl
  have htold := told_dropHolds (lostLink s p) b.source
  have hholds : ∀ i < 12, (dropHolds (lostLink s p) b.source).hold i = _ := fun i hi =>
    dropHolds_hold b.source (s := lostLink s p) (tables_holds (s := s) ht) hi
  have hauth := dropHolds_links (lostLink s p) b.source
  have himg := dropHolds_image (lostLink s p) b.source
  have hclock : (dropHolds (lostLink s p) b.source).clock = (lostLink s p).clock :=
    (leaves_dropHolds (lostLink s p) b.source).kept .clock (by decide)
  have hdel : (dropHolds (lostLink s p) b.source).deliveries = (lostLink s p).deliveries :=
    (leaves_dropHolds (lostLink s p) b.source).kept .deliveries (by decide)
  rw [hlose]
  generalize dropHolds (lostLink s p) b.source = u at *
  have hread : ∀ q, u.portLink q = (lostLink s p).portLink q := fun q => by
    rw [State.portLink, hauth.1]
    rfl
  refine ⟨(hread p).trans (lostLink_portLink_self hlink), fun q hq => (hread q).trans (lostLink_portLink_ne s hq),
    hholds, hauth.2, ?_, ?_⟩
  · show u.deliveries ++ lossDelivery s p = _
    rw [hdel, lossDelivery_bound hb]
    rfl
  · have hstate : ((u.deliver (lossDelivery s p)).portLink p).state = .lost :=
      congrArg PortLink.state ((hread p).trans (lostLink_portLink_self hlink))
    have hsource : (u.deliver (lossDelivery s p)).sourceOf p = some b.source := by
      show (imagePort u.image p).map (·.source) = _
      rw [himg]
      exact hsrc
    rw [portNotice, hstate, hsource]
    exact ((htold.before (s := s) rfl rfl).after rfl).each.trans
      (toldEach_notifyBut (u.deliver (lossDelivery s p)) p p _) (congrArg Clock.seconds hclock)

theorem exec_windowExpiry {s : State} {p : Nat} (hp : portOk p = true) :
    exec (.windowExpiry p) s =
      .next (if (s.portLink p).state = .linked ∧ (s.portLink p).window = some 0 then loseLink s p else s) := by
  show onObject (portOk p) (if ((s.portLink p).state == .linked && due (s.portLink p).window) = true then _ else _) = _
  rw [hp, onObject_true]
  simp [due]

/-- Settles O16. -/
theorem windowExpiryLosesLink : Obligations.WindowExpiryLosesLink := by
  intro s p b ht hb hp
  rw [exec_windowExpiry hp]
  split
  · obtain ⟨hlink, hothers, hholds, hkey, hdel, -, htold⟩ := loseLink_lost ht (by simpa [portOk] using hp) hb
    refine ⟨_, rfl, hlink, hothers, fun i hi => ?_, hdel, fun q _ => ?_, fun q _ => ?_, hkey, fun q _ => ?_,
      (leaves_loseLink s p).changesOnly (by decide)⟩
    · rw [hholds i hi]
      cases s.hold i with
      | none => rfl
      | some h => by_cases he : h.holder = b.source <;> simp [Option.filter, he]
    · obtain ⟨-, -, -, -, h5, h6⟩ := withNotices_rest s (lossNotices s p b.source q) (s.port q)
      rw [htold q]
      exact ⟨h5, h6⟩
    · have hlost : ((List.range 12).filter fun i => decide ((s.hold i).map (·.holder) = some b.source)) =
          (List.range 12).filter (heldBy s b.source) :=
        List.filter_congr fun i _ => by rw [heldBy, beq_eq_decide]
      dsimp only
      rw [htold q, hlost]
      exact ⟨rfl, rfl⟩
    · obtain ⟨h1, h2, h3, h4, -, -⟩ := withNotices_rest s (lossNotices s p b.source q) (s.port q)
      rw [htold q]
      exact ⟨h1, h2, h3, h4⟩
  · rfl

/-! ## HOLD and UNHOLD -/

/-- R31: each hold that is taken sends its notice, in list order; those that are renewed send none. -/
theorem told_takeHolds (src : AgentSource) {segs : List Nat} (hnd : segs.Nodup) (s : State) (n m : Nat) :
    Told ((segs.filter fun i => (s.hold i).isNone).map fun i => segTold s i .holdTaken) s
        (takeHolds src segs (s, n, m)).1 ∧
      (takeHolds src segs (s, n, m)).2 = (n + (segs.filter fun i => (s.hold i).isNone).length,
        m + (segs.filter fun i => (s.hold i).isSome).length) := by
  induction segs generalizing s n m with
  | nil => exact ⟨told_refl s, rfl⟩
  | cons i is ih =>
    obtain ⟨hi, hnd⟩ := List.nodup_cons.1 hnd
    have hkept : ∀ t : State, t.auth.holds = (s.setHold i (some ⟨src, s.image.holdDuration⟩)).auth.holds →
        ∀ j ∈ is, t.hold j = s.hold j := fun t ht j hj => by
      have hji : j ≠ i := fun h => hi (h ▸ hj)
      rw [State.hold, ht]
      exact State.setHold_hold_ne s i j _ hji
    have hfilter : ∀ t : State, t.auth.holds = (s.setHold i (some ⟨src, s.image.holdDuration⟩)).auth.holds →
        (is.filter fun j => (t.hold j).isNone) = (is.filter fun j => (s.hold j).isNone) ∧
        (is.filter fun j => (t.hold j).isSome) = (is.filter fun j => (s.hold j).isSome) := fun t ht =>
      ⟨List.filter_congr fun j hj => by rw [hkept t ht j hj], List.filter_congr fun j hj => by rw [hkept t ht j hj]⟩
    simp only [takeHolds]
    split
    · next hnone =>
      obtain ⟨htold, hcount⟩ := ih hnd (segNotice (s.setHold i (some ⟨src, s.image.holdDuration⟩)) i .holdTaken)
        (n + 1) m
      obtain ⟨hn, hs⟩ := hfilter (segNotice (s.setHold i (some ⟨src, s.image.holdDuration⟩)) i .holdTaken) rfl
      rw [hn] at htold
      rw [hcount, hn, hs]
      refine ⟨?_, by simp [hnone]; omega⟩
      have hall := ((told_segNotice (s.setHold i (some ⟨src, s.image.holdDuration⟩)) i .holdTaken).before
        (s := s) rfl rfl).trans htold rfl
      rw [List.filter_cons, if_pos (by rw [hnone]; rfl)]
      exact hall
    · next h hsome =>
      obtain ⟨htold, hcount⟩ := ih hnd (s.setHold i (some ⟨src, s.image.holdDuration⟩)) n (m + 1)
      obtain ⟨hn, hs⟩ := hfilter (s.setHold i (some ⟨src, s.image.holdDuration⟩)) rfl
      rw [hn] at htold
      rw [hcount, hn, hs]
      refine ⟨?_, by simp [hsome]; omega⟩
      have hall := htold.before (s := s) rfl rfl
      rw [List.filter_cons, if_neg (by rw [hsome]; simp)]
      exact hall

/-- R32: each of the source's own holds of the list is dropped, with its notice, in list order (log 24). -/
theorem told_dropOwn (src : AgentSource) {segs : List Nat} (hnd : segs.Nodup) (s : State) (n : Nat) :
    Told ((segs.filter (heldBy s src)).map fun i => segTold s i .holdReleased) s (dropOwn src segs (s, n)).1 ∧
      (dropOwn src segs (s, n)).2 = n + (segs.filter (heldBy s src)).length := by
  induction segs generalizing s n with
  | nil => exact ⟨told_refl s, rfl⟩
  | cons i is ih =>
    obtain ⟨hi, hnd⟩ := List.nodup_cons.1 hnd
    have hskip : heldBy s src i = false →
        Told (((i :: is).filter (heldBy s src)).map fun i => segTold s i .holdReleased) s (dropOwn src is (s, n)).1 ∧
          (dropOwn src is (s, n)).2 = n + ((i :: is).filter (heldBy s src)).length := fun hno => by
      rw [List.filter_cons, if_neg (by rw [hno]; decide)]
      exact ih hnd s n
    simp only [dropOwn]
    split
    · next h hh =>
      split
      · next he =>
        have hyes : heldBy s src i = true := by simpa [heldBy, hh] using he
        obtain ⟨htold, hcount⟩ := ih hnd (dropHold s i .holdReleased) (n + 1)
        have hkept : is.filter (heldBy (dropHold s i .holdReleased) src) = is.filter (heldBy s src) :=
          List.filter_congr fun j hj => heldBy_congr (State.setHold_hold_ne s i j none fun h => hi (h ▸ hj)) src
        rw [hkept] at htold
        rw [hcount, hkept, List.filter_cons, if_pos hyes, List.map_cons, List.length_cons]
        exact ⟨(told_dropHold s i .holdReleased).trans htold rfl, by omega⟩
      · next he => exact hskip (by simpa [heldBy, hh] using he)
    · next hh => exact hskip (by simp [heldBy, hh])

theorem filter_heldBy (segs : List Nat) (s : State) (src : AgentSource) :
    (segs.filter fun i => decide ((s.hold i).map (·.holder) = some src)) = segs.filter (heldBy s src) :=
  List.filter_congr fun i _ => by rw [heldBy, beq_eq_decide]

theorem exec_holdExpiry {s : State} {i : Nat} (hi : i < 12) {h : Hold} (hh : s.hold i = some h) :
    exec (.holdExpiry i) s = .next (if h.remaining = 0 then dropHold s i .holdExpired else s) := by
  show onObject (segOk i) (if due ((s.hold i).map (·.remaining)) = true then _ else _) = _
  rw [show segOk i = true by simpa [segOk] using hi, onObject_true, hh]
  simp [due]

/-- Settles O17. -/
theorem holdsAreTakenAndDropped : Obligations.HoldsAreTakenAndDropped := by
  intro s p ht
  have hlen := tables_holds ht
  refine ⟨fun segs hacc => ?_, fun segs hacc => ?_, fun i hi h hh => ?_⟩
  · obtain ⟨body, -, hargs⟩ := accepted_parsed hacc
    obtain ⟨-, hnd⟩ := argsSegments_list hargs
    obtain ⟨htold, hcount⟩ := told_takeHolds (agentOf s p) hnd (popFrame s p) 0 0
    have hrun : holdCommand.run (popFrame s p) p segs = Verdict.mk .done
        [byteOf (segs.filter fun i => (s.hold i).isNone).length, byteOf (segs.filter fun i => (s.hold i).isSome).length]
        (takeHolds (agentOf s p) segs (popFrame s p, 0, 0)).1 := by
      show Verdict.mk .done [byteOf (takeHolds (agentOf s p) segs (popFrame s p, 0, 0)).2.1,
        byteOf (takeHolds (agentOf s p) segs (popFrame s p, 0, 0)).2.2] _ = _
      rw [hcount, Nat.zero_add, Nat.zero_add]
      rfl
    obtain ⟨hnotices, hreply, hlines⟩ := outcome_told hrun htold (accepted_lt ht hacc)
    obtain ⟨hlinks, hkey⟩ := takeHolds_links (agentOf s p) segs (popFrame s p) 0 0
    refine ⟨_, exec_accepted rfl (fun _ _ => ⟨rfl, rfl, rfl⟩) hacc, fun i hi => ?_, ?_, ?_, hnotices, hreply, hlines,
      outcome_changesOnly ((leaves_run .hold (popFrame s p) p segs).changesOnly (by decide)) (by decide)⟩
    · rw [outcome_eq hrun]
      exact takeHolds_hold (agentOf s p) segs (popFrame s p) 0 0 i
        (Nat.lt_of_lt_of_eq hi hlen.symm)
    · rw [outcome_eq hrun]
      exact hlinks
    · rw [outcome_eq hrun]
      exact hkey
  · obtain ⟨body, -, hargs⟩ := accepted_parsed hacc
    obtain ⟨-, hnd⟩ := argsSegments_list hargs
    obtain ⟨htold, hcount⟩ := told_dropOwn (agentOf s p) hnd (popFrame s p) 0
    have hrun : unholdCommand.run (popFrame s p) p segs = Verdict.mk .done
        [byteOf (segs.filter (heldBy s (agentOf s p))).length]
        (dropOwn (agentOf s p) segs (popFrame s p, 0)).1 := by
      show Verdict.mk .done [byteOf (dropOwn (agentOf s p) segs (popFrame s p, 0)).2] _ = _
      rw [hcount, Nat.zero_add]
      rfl
    obtain ⟨hnotices, hreply, hlines⟩ := outcome_told hrun htold (accepted_lt ht hacc)
    obtain ⟨hlinks, hkey⟩ := dropOwn_links (agentOf s p) segs (popFrame s p) 0
    rw [filter_heldBy]
    refine ⟨_, exec_accepted rfl (fun _ _ => ⟨rfl, rfl, rfl⟩) hacc, fun i hi => ?_, ?_, ?_, hnotices, hreply, hlines,
      outcome_changesOnly ((leaves_run .unhold (popFrame s p) p segs).changesOnly (by decide)) (by decide)⟩
    · rw [outcome_eq hrun]
      exact dropOwn_hold (agentOf s p) segs (popFrame s p) 0 i
        (Nat.lt_of_lt_of_eq hi hlen.symm)
    · rw [outcome_eq hrun]
      exact hlinks
    · rw [outcome_eq hrun]
      exact hkey
  · rw [exec_holdExpiry hi hh]
    split
    · refine ⟨_, rfl, ?_, fun j hj => ?_, rfl, (told_dropHold s i .holdExpired).oneNotice,
        (leaves_dropHold s i _).changesOnly (by decide)⟩
      · rw [dropHold_hold _ (by omega), if_pos rfl]
      · rw [dropHold_hold _ (by omega), if_neg hj]
    · rfl

end Sys2Proof.Machine

/-! PROOF. The placement table under departures, entries and REMAP (R8–R13), read at every sign. -/

namespace Sys2Proof.Machine

set_option Elab.async false

open Sys2Proof

/-- The blocks that an event changes, from its areas. -/
theorem event_changesOnly (l : List Area) {c : Instr} {s t : State} {bs : List Block} (h : exec c s = .next t)
    (hareas : eventAreas c = l) (hc : c ≠ .startUp) (ha : agentCommand c = none)
    (hb : ∀ a ∈ l, a.block ∈ bs := by decide) (hl : Area.tables ∉ l := by decide) : ChangesOnly bs s t := by
  subst hareas
  exact (leaves_event hc ha h).changesOnly hb hl

/-! ## The vocabulary of the statements -/

theorem freeStandby_eq (s : State) (n : Nat) : freeStandby s n = standbyFor s.image s.placement n := by
  unfold freeStandby standbyFor
  cases (imageSign s.image n).standby with
  | none => rfl
  | some y => rfl

theorem waitsFor_eq (s : State) (x n : Nat) : waitsFor s x n = waits s.image s.placement x n := by
  unfold waitsFor waits
  show (_ && match primaryIn s.placement n with
    | none => _
    | some _ => _) = _
  cases primaryIn s.placement n with
  | none => rfl
  | some y => rfl

theorem nextFor_iff (s : State) (x n : Nat) : NextFor s x n ↔ FirstWaiting s.image s.placement x n := by
  simp only [NextFor, FirstWaiting, waitsFor_eq]

/-! ## What a new table hands on -/

theorem tables_stations {s : State} (ht : TablesOk s) : s.field.stations.length = 32 := by
  obtain ⟨-, -, -, -, -, -, -, -, -, -, -, -, -, -, -, -, -, -, -, hst⟩ := ht
  exact hst

theorem leftOver_iff {old new : Placement} {y : Nat} : leftOver old new y = true ↔
    (∃ n ∈ List.range 24, targetIn old n = some y) ∧ (∀ n < 24, targetIn new n ≠ some y) ∧ upIn new y = true := by
  rw [leftOver, Bool.and_eq_true, Bool.and_eq_true, unused_iff, Bool.not_eq_true', ← Bool.not_eq_true, unused_iff,
    and_assoc]
  simp

/-- R12: the mark of a station that the table has, loses or leaves alone. -/
theorem markBlank_station {old new : Placement} {l : List Station} {y : Nat} (hy : y < l.length) :
    (markBlank old new l).getD y default = { l.getD y default with
      blankOwed :=
        if ∃ n ∈ List.range 24, targetIn new n = some y then false
        else if (∃ n ∈ List.range 24, targetIn old n = some y) ∧ upIn new y = true then true
        else (l.getD y default).blankOwed } := by
  have hread : (markBlank old new l).getD y default =
      if leftOver old new y then { l.getD y default with blankOwed := true }
      else if unused new y then l.getD y default
      else { l.getD y default with blankOwed := false } := by
    simp [markBlank, List.getD, hy]
  rw [hread]
  by_cases hused : ∃ n ∈ List.range 24, targetIn new n = some y
  · obtain ⟨n, hn, hny⟩ := hused
    have hno : leftOver old new y = false := by
      rw [← Bool.not_eq_true, leftOver_iff]
      exact fun h => h.2.1 n (List.mem_range.1 hn) hny
    have hun : unused new y = false := by
      rw [← Bool.not_eq_true, unused_iff]
      exact fun h => h n (List.mem_range.1 hn) hny
    have hin : ∃ n ∈ List.range 24, targetIn new n = some y := ⟨n, hn, hny⟩
    rw [hno, hun, if_pos hin]
    rfl
  · have hun : ∀ n < 24, targetIn new n ≠ some y := fun n hn hny => hused ⟨n, List.mem_range.2 hn, hny⟩
    rw [if_neg hused]
    by_cases hleft : (∃ n ∈ List.range 24, targetIn old n = some y) ∧ upIn new y = true
    · rw [if_pos hleft, if_pos (leftOver_iff.2 ⟨hleft.1, hun, hleft.2⟩)]
    · have hno : ¬ leftOver old new y = true := fun h => hleft ⟨(leftOver_iff.1 h).1, (leftOver_iff.1 h).2.2⟩
      rw [if_neg hleft, if_neg hno, if_pos (unused_iff.2 hun)]

theorem tableReplaced_replaceTable {s : State} (hlen : s.field.stations.length = 32) (new : Placement) :
    TableReplaced s.deliveries s (replaceTable s new) :=
  ⟨rfl, fun y hy => markBlank_station (by rw [hlen]; exact hy)⟩

theorem panelUp_set {t : Placement} (ht : t.Sized) {x : Nat} (hx : x < 32) (b : Bool) {u : Placement}
    (hu : u.up = t.up.set x b) (y : Nat) : upIn u y = if y = x then b else upIn t y := by
  have hread : upIn u y = upIn (setUp t x b) y := by
    rw [upIn, hu]
    rfl
  rw [hread, upIn_setUp ht hx]

/-! ## Departures and entries -/

theorem exec_placementDeparture {s : State} {x : Nat} (hx : stationOk x = true) :
    exec (.placementDeparture x) s = .next (placementLeft (s.taking (.placementDeparture x)) x) := by
  show onObject (stationOk x) _ = _
  rw [hx, onObject_true]

theorem exec_placementEntry {s : State} {x : Nat} (hx : stationOk x = true) :
    exec (.placementEntry x) s = .next (placementEntered (s.taking (.placementEntry x)) x) := by
  show onObject (stationOk x) _ = _
  rw [hx, onObject_true]

open Classical in
/-- R10: the targets after a station entered ACTIVE, sign by sign. -/
theorem entered_target {s : State} {x : Nat} (ht : TablesOk s) (hs : PlacementOk s) (hx : x < 32) {n : Nat}
    (hn : n < 24) : targetIn (entered s.image s.placement x) n =
      if s.primary n = some x then some x
      else match (List.range 24).find? fun a => s.primary a = some x with
        | some a => (match s.target a with
          | some y => if y ≠ x ∧ NextFor s y n then some y else s.target n
          | none => s.target n)
        | none =>
          if (∀ m ∈ List.range 24, s.target m ≠ some x) ∧ NextFor s x n then some x else s.target n := by
  have hsz := placement_sized ht
  have hok := (placementOk_iff s).1 hs
  cases hfind : (List.range 24).find? fun a => decide (s.primary a = some x) with
  | some a =>
    obtain ⟨hax, hmem, -⟩ := List.find?_range_eq_some.1 hfind
    have ha : a < 24 := List.mem_range.1 hmem
    have hax : primaryIn s.placement a = some x := of_decide_eq_true hax
    rw [entered_target_primary hsz hok hx ha hax hn]
    by_cases hna : n = a
    · subst hna
      rw [if_pos rfl]
      exact (if_pos hax).symm
    · have hnx : ¬ s.primary n = some x := fun hnx => hna (hok.2.1 n hn a ha x hnx hax)
      rw [if_neg hna, if_neg hnx]
      dsimp only
      show (match s.target a with
        | some y => _
        | none => _) = _
      cases s.target a with
      | none => rfl
      | some y => exact if_congr (and_congr_right fun _ => (nextFor_iff s y n).symm) rfl rfl
  | none =>
    have hno : ∀ m < 24, primaryIn s.placement m ≠ some x := fun m hm hmx => by
      have := List.find?_eq_none.1 hfind m (List.mem_range.2 hm)
      exact this (decide_eq_true hmx)
    have hnx : ¬ s.primary n = some x := hno n hn
    rw [entered_target_standby hsz hx hno hn, if_neg hnx]
    refine if_congr (and_congr ?_ (nextFor_iff s x n).symm) rfl rfl
    rw [unused_iff]
    exact ⟨fun h m hm => h m (List.mem_range.1 hm), fun h m hm => h m (List.mem_range.2 hm)⟩

/-- Settles O43. -/
theorem placementFollowsStations : Obligations.PlacementFollowsStations := by
  intro s x ht hs hxok
  have hx : x < 32 := by simpa [stationOk] using hxok
  have hsz := placement_sized ht
  have hok := (placementOk_iff s).1 hs
  have hlen := tables_stations ht
  constructor
  · obtain ⟨hprims, hup⟩ := departed_rest s.image s.placement x
    have hread := panelUp_set hsz hx false hup
    refine ⟨_, exec_placementDeparture hxok, (hread x).trans (if_pos rfl), fun y hy => (hread y).trans (if_neg hy),
      hprims, fun n hn => ?_, tableReplaced_replaceTable (s := s.taking (.placementDeparture x)) hlen _, ?_⟩
    · rw [freeStandby_eq]
      exact departed_target hsz hok hx hn
    · exact event_changesOnly [.placement, .field, .deliveries] (exec_placementDeparture hxok) rfl nofun rfl
  · obtain ⟨hprims, hup⟩ := entered_rest s.image s.placement x
    have hread := panelUp_set hsz hx true hup
    refine ⟨_, exec_placementEntry hxok, (hread x).trans (if_pos rfl), fun y hy => (hread y).trans (if_neg hy),
      hprims, fun n hn => entered_target ht hs hx hn, ?_,
      tableReplaced_replaceTable (s := s.taking (.placementEntry x)) hlen _, ?_⟩
    · exact exec_placementOk (c := .placementEntry x) nofun ht hs (exec_placementEntry hxok)
    · exact event_changesOnly [.placement, .field, .deliveries] (exec_placementEntry hxok) rfl nofun rfl

/-! ## REMAP -/

section
variable {s : State} {n x : Nat}

theorem runRemap_taken (p : Nat) (h : ∃ m ∈ List.range 24, m ≠ n ∧ s.primary m = some x) :
    runRemap s p (n, x) = refuse s .state := by
  obtain ⟨m, hm, hmn, hmx⟩ := h
  exact if_pos (List.any_eq_true.2 ⟨m, hm, by rw [Bool.and_eq_true, bne_iff_ne, beq_iff_eq]; exact ⟨hmn, hmx⟩⟩)

theorem any_primary (h : ¬∃ m ∈ List.range 24, m ≠ n ∧ s.primary m = some x) :
    ¬(List.range 24).any (fun m => m != n && s.primary m == some x) = true := fun hany => by
  obtain ⟨m, hm, hmx⟩ := List.any_eq_true.1 hany
  rw [Bool.and_eq_true, bne_iff_ne, beq_iff_eq] at hmx
  exact h ⟨m, hm, hmx⟩

theorem runRemap_own (p : Nat) (h : ¬∃ m ∈ List.range 24, m ≠ n ∧ s.primary m = some x)
    (hown : s.primary n = some x) : runRemap s p (n, x) = Verdict.mk .done [] s := by
  rw [runRemap, if_neg (any_primary h), if_pos (beq_iff_eq.2 hown)]

theorem runRemap_new (p : Nat) (h : ¬∃ m ∈ List.range 24, m ≠ n ∧ s.primary m = some x)
    (hown : ¬ s.primary n = some x) :
    runRemap s p (n, x) = Verdict.mk .done [] (replaceTable s (remapped s.image s.placement n x)) := by
  rw [runRemap, if_neg (any_primary h), if_neg (by rwa [beq_iff_eq])]

/-- R8, R13: the sign that is remapped takes the station where it is ACTIVE, else the standby that is free. -/
theorem remapped_target_self (ht : TablesOk s) (hs : PlacementOk s) (hn : n < 24) (hno : NoPrimary s.placement x) :
    targetIn (remapped s.image s.placement n x) n = if s.panelUp x then some x else freeStandby s n := by
  have hsz := placement_sized ht
  have hok := (placementOk_iff s).1 hs
  rw [freeStandby_eq]
  cases hup : upIn s.placement x with
  | true =>
    rw [remapped_target_chosen hsz hok hn (chosen_primary hsz hok hn hno hup) hn, if_pos rfl]
    exact (if_pos hup).symm
  | false =>
    have hdown : ¬ s.panelUp x = true := fun h => by
      rw [show s.panelUp x = upIn s.placement x from rfl, hup] at h
      cases h
    rw [if_neg hdown]
    cases hv : standbyFor s.image s.placement n with
    | some v => rw [remapped_target_chosen hsz hok hn (chosen_standby hsz hn hup hv) hn, if_pos rfl]
    | none => rw [remapped_target_none hsz hok hn hup hv hn, if_pos rfl]

open Classical in
/-- R8, R13: every other sign, by what the remapped sign takes and leaves. -/
theorem remapped_target_other (ht : TablesOk s) (hs : PlacementOk s) (hn : n < 24) (hno : NoPrimary s.placement x)
    {m : Nat} (hm : m < 24) (hmn : m ≠ n) {v : Option Nat}
    (hv : targetIn (remapped s.image s.placement n x) n = v) :
    targetIn (remapped s.image s.placement n x) m =
      if s.target m = some x ∧ v = some x then none
      else match s.target n with
        | some y => if v ≠ some y ∧ NextFor s y m then some y else s.target m
        | none => s.target m := by
  have hsz := placement_sized ht
  have hok := (placementOk_iff s).1 hs
  have hchosen : ∀ w, Chosen s.image s.placement n x w → v = some w →
      targetIn (remapped s.image s.placement n x) m = if s.target m = some w then none
      else match s.target n with
        | some y => if v ≠ some y ∧ NextFor s y m then some y else s.target m
        | none => s.target m := fun w hw hvw => by
    rw [remapped_target_chosen hsz hok hn hw hm, if_neg hmn]
    refine if_congr Iff.rfl rfl ?_
    show (match s.target n with
      | some y => _
      | none => _) = _
    cases s.target n with
    | none => rfl
    | some y =>
      refine if_congr (and_congr ?_ (nextFor_iff s y m).symm) rfl rfl
      rw [hvw, ne_eq, ne_eq, Option.some.injEq, eq_comm]
  have hdownTarget : upIn s.placement x = false → s.target m ≠ some x := fun hup hmx => by
    rw [((hok.2.2 m hm).1 x hmx).1] at hup
    cases hup
  cases hup : upIn s.placement x with
  | true =>
    have hw := chosen_primary hsz hok hn hno hup
    have hvx : v = some x := by
      rw [← hv, remapped_target_chosen hsz hok hn hw hn, if_pos rfl]
    rw [hchosen x hw hvx]
    exact if_congr ⟨fun h => ⟨h, hvx⟩, fun h => h.1⟩ rfl rfl
  | false =>
    rw [if_neg fun h => hdownTarget hup h.1]
    cases hst : standbyFor s.image s.placement n with
    | some w =>
      have hw := chosen_standby hsz hn hup hst
      have hfree := freeFor_iff.1 (standbyFor_eq_some.1 hst).2.2 m hm hmn
      have hvw : v = some w := by
        rw [← hv, remapped_target_chosen hsz hok hn hw hn, if_pos rfl]
      rw [hchosen w hw hvw]
      exact if_neg hfree
    | none =>
      have hvn : v = none := by
        rw [← hv, remapped_target_none hsz hok hn hup hst hn, if_pos rfl]
      rw [remapped_target_none hsz hok hn hup hst hm, if_neg hmn]
      show (match s.target n with
        | some y => _
        | none => _) = _
      cases s.target n with
      | none => rfl
      | some y =>
        refine if_congr ?_ rfl rfl
        rw [hvn, nextFor_iff]
        exact ⟨fun h => ⟨by simp, h⟩, fun h => h.2⟩

end

/-- Settles O44. -/
theorem remapGivesSignPrimary : Obligations.RemapGivesSignPrimary := by
  intro s p n x ht hs hacc
  have hlt := accepted_lt ht hacc
  have hexec : exec (.remap p) s = .next (outcome remapCommand s p (n, x)) :=
    exec_accepted rfl (fun _ _ => ⟨rfl, rfl, rfl⟩) hacc
  obtain ⟨body, -, hargs⟩ := accepted_parsed hacc
  obtain ⟨hn, -⟩ := argsRemap_some hargs
  have hn : n < 24 := hn
  rw [hexec]
  split
  · next hother =>
    rw [outcome_answered (runRemap_taken (s := popFrame s p) p hother)]
    rfl
  · next hother =>
    split
    · next hown =>
      rw [outcome_answered (runRemap_own (s := popFrame s p) p hother hown)]
      rfl
    · next hown =>
      have hno : NoPrimary s.placement x := noPrimary_of_run (any_primary hother) (by rwa [beq_iff_eq])
      have hrun : remapCommand.run (popFrame s p) p (n, x) = _ := runRemap_new (s := popFrame s p) p hother hown
      obtain ⟨hnotices, hreply, hlines⟩ := outcome_told hrun (told_of_ports rfl) hlt
      obtain ⟨hprims, hup⟩ := remapped_rest s.image s.placement n x
      have hplace : (outcome remapCommand s p (n, x)).placement = remapped s.image s.placement n x := by
        rw [outcome_eq hrun]
        rfl
      have hsz := placement_sized ht
      have hprim : ∀ m, (outcome remapCommand s p (n, x)).primary m =
          primaryIn (setPrimary s.placement n (some x)) m := fun m => by
        rw [State.primary, hplace, hprims]
        rfl
      have htarget : ∀ m, (outcome remapCommand s p (n, x)).target m =
          targetIn (remapped s.image s.placement n x) m := fun m => by
        rw [State.target, hplace]
        rfl
      refine ⟨_, rfl, ?_, fun m hmn => ?_, ?_, ?_, fun m hm hmn => ?_, ?_, ?_, hreply,
        noNotice_of_noticesSent hnotices, hlines,
        outcome_changesOnly ((leaves_run .remap (popFrame s p) p (n, x)).changesOnly (by decide)) (by decide)⟩
      · rw [hprim, primaryIn_setPrimary hsz hn, if_pos rfl]
      · rw [hprim, primaryIn_setPrimary hsz hn, if_neg hmn]
        rfl
      · rw [hplace, hup]
      · rw [htarget, remapped_target_self ht hs hn hno]
      · rw [htarget, htarget]
        exact remapped_target_other ht hs hn hno hm hmn rfl
      · exact exec_placementOk (c := .remap p) nofun ht hs hexec
      · have hreplaced := tableReplaced_replaceTable (s := popFrame s p) (tables_stations (s := s) ht)
          (remapped s.image s.placement n x)
        rw [outcome_eq hrun]
        exact hreplaced

end Sys2Proof.Machine

/-! PROOF. The gate controller (chapter 04): what one event leaves of a gate, its orders, its segment and its
notice (R71, R86); requests (R72, R73), reports (R70), timers (R74, R76, R84), the loss and return of the station
and GATE FAULT CLEAR (R78–R85). -/

namespace Sys2Proof.Machine

set_option Elab.async false

open Sys2Proof

/-! ## One event at a gate (R71, R86) -/

/-- What a move leaves: the gate's record, the delivery and the notice of a change, and the orders in flight. -/
structure GateMoved (m : GateMove) (cause : GateCause) (g : Nat) (s t : State) : Prop where
  gate : ∀ k, t.gate k = if k = g then m.gate else s.gate k
  startLimit : t.gates.startLimit = s.gates.startLimit
  deliveries : t.deliveries = s.deliveries ++ if gateChanged (s.gate g) m.gate then gateDelivery s g else []
  told : Told (if gateChanged (s.gate g) m.gate then
    [(g, .gate m.gate.state cause m.gate.position m.gate.cause)] else []) s t
  field : t.field = (s.recarry (m.replaces g)).field

theorem recarry_field_congr {s t : State} (h : t.field = s.field) (p : Carriage → Bool) :
    (t.recarry p).field = (s.recarry p).field := by
  unfold State.recarry
  rw [h]
  cases s.field.exchange with
  | none => exact h
  | some e =>
    dsimp only
    split
    · rfl
    · exact h

theorem gates_sized {s : State} {g : Nat} (ht : TablesOk s) (hg : gateOk g = true) : g < s.gates.recs.length := by
  have hlen : s.gates.recs.length = 8 := by
    obtain ⟨-, -, -, -, -, hgates, -⟩ := ht
    exact hgates
  simpa [hlen, gateOk] using hg

theorem gateEvent_moved {s : State} {g : Nat} (m : GateMove) (cause : GateCause) (hg : g < s.gates.recs.length) :
    GateMoved m cause g s (gateEvent s g m cause) := by
  refine ⟨fun k => gateEvent_gate s g k m cause hg, by rw [gateEvent_gates]; rfl, ?_, ?_, ?_⟩
  · unfold gateEvent
    by_cases hc : gateChanged (s.gate g) m.gate = true <;> simp [hc, State.deliver]
  · unfold gateEvent
    by_cases hc : gateChanged (s.gate g) m.gate = true
    · simp only [if_pos hc]
      exact (told_notify _ g _).before (by simp [State.deliver]) (by simp [State.deliver])
    · simp only [if_neg hc]
      exact told_of_ports (by simp)
  · have h := recarry_field_congr (s := s) (t := s.setGate g m.gate) rfl (m.replaces g)
    unfold gateEvent
    dsimp only
    split
    · exact h
    · exact h

theorem gateChanged_iff (a b : Gate) : gateChanged a b = true ↔ GateChanged a b := by
  simp [gateChanged, GateChanged, ne_comm]

theorem gateChanged_same (a : Gate) : gateChanged a a = false := by simp [gateChanged]

theorem recarry_still {s : State} {m : GateMove} (g : Nat) (hs : m.stops = false) (hd : m.drives = false) :
    (s.recarry (m.replaces g)).field = s.field := by
  unfold State.recarry
  split
  · next e _ =>
    have h : m.replaces g e.carries = false := by cases e.carries <;> simp [GateMove.replaces, hs, hd]
    rw [h]
    rfl
  · rfl

/-- A gate that nothing moves: the event without a change. -/
theorem gateMoved_refl (s : State) (g : Nat) (cause : GateCause) :
    GateMoved (.still (s.gate g)) cause g s s := by
  refine ⟨fun k => ?_, rfl, ?_, ?_, (recarry_still g rfl rfl).symm⟩
  · split
    · next h => rw [h]; rfl
    · rfl
  · simp [GateMove.still, gateChanged_same]
  · simp only [GateMove.still, gateChanged_same, Bool.false_eq_true, if_false]
    exact told_refl s

namespace GateMoved

set_option Elab.async false

variable {m : GateMove} {cause : GateCause} {g : Nat} {s t : State}

theorem self (h : GateMoved m cause g s t) : t.gate g = m.gate := by rw [h.gate, if_pos rfl]

theorem other (h : GateMoved m cause g s t) : ∀ y, y ≠ g → t.gate y = s.gate y := fun y hy => by
  rw [h.gate, if_neg hy]

theorem still {n : Gate} (h : GateMoved (.still n) cause g s t) : t.gate g = n ∧ t.field = s.field :=
  ⟨h.self, by rw [h.field, recarry_still g rfl rfl]⟩

end GateMoved

/-! ## The orders in flight (R71, log 16) -/

theorem ordersReplace_of_recarry {s t : State} {m : GateMove} {g : Nat}
    (h : t.field = (s.recarry (m.replaces g)).field) (hm : m.stops = true ∨ m.drives = true) :
    OrdersReplace g m.stops s t := by
  rw [OrdersReplace, h]
  unfold State.recarry
  cases he : s.field.exchange with
  | none =>
    rw [Option.map_none]
    dsimp only
    rw [← he]
  | some e =>
    have hrep : m.replaces g e.carries = true ↔ e.carries = .drive g ∨ e.carries = .stop g ∧ m.stops = true := by
      have hor : (m.stops || m.drives) = true := by simpa using hm
      cases e.carries <;> simp [GateMove.replaces, hor, and_comm]
    dsimp only
    rw [Option.map_some]
    by_cases hr : m.replaces g e.carries = true
    · rw [if_pos hr, if_pos (hrep.1 hr)]
      rfl
    · rw [if_neg hr, if_neg fun h => hr (hrep.2 h), ← he]

theorem GateMoved.driven {n : Gate} {cause : GateCause} {g : Nat} {s t : State}
    (h : GateMoved (.driven n) cause g s t) : t.gate g = n ∧ OrdersReplace g false s t :=
  ⟨h.self, ordersReplace_of_recarry h.field (.inr rfl)⟩

theorem GateMoved.stopped {n : Gate} {cause : GateCause} {g : Nat} {s t : State}
    (h : GateMoved (.stopped n) cause g s t) : t.gate g = n ∧ OrdersReplace g true s t :=
  ⟨h.self, ordersReplace_of_recarry h.field (.inl rfl)⟩

theorem GateMoved.reversed {n : Gate} {cause : GateCause} {g : Nat} {s t : State}
    (h : GateMoved (.reversed n) cause g s t) : t.gate g = n ∧ OrdersReplace g true s t :=
  ⟨h.self, ordersReplace_of_recarry h.field (.inl rfl)⟩

/-! ## What a change tells (R86) -/

theorem gateTells_of {before : List Instr} {cause cause' : GateCause} {g : Nat} {s t : State}
    (hdel : t.deliveries = before ++ if gateChanged (s.gate g) (t.gate g) then gateDelivery s g else [])
    (hsent : NoticesSent (if gateChanged (s.gate g) (t.gate g) then
      [(g, .gate (t.gate g).state cause (t.gate g).position (t.gate g).cause)] else []) s t)
    (hcause : GateChanged (s.gate g) (t.gate g) → cause = cause') : GateTells before cause' g s t := by
  refine ⟨?_, fun hc => ?_, fun hc => ?_⟩
  · rw [hdel]
    by_cases hc : GateChanged (s.gate g) (t.gate g)
    · simp only [if_pos ((gateChanged_iff _ _).2 hc), gateDelivery, hc, true_and]
    · have hno : ¬gateChanged (s.gate g) (t.gate g) = true := fun h => hc ((gateChanged_iff _ _).1 h)
      simp only [if_neg hno, hc, false_and, if_false]
  · rw [if_pos ((gateChanged_iff _ _).2 hc), hcause hc] at hsent
    exact oneNotice_of_noticesSent hsent
  · rw [if_neg fun h => hc ((gateChanged_iff _ _).1 h)] at hsent
    exact noNotice_of_noticesSent hsent

theorem GateMoved.tells {m : GateMove} {cause cause' : GateCause} {g : Nat} {s t : State}
    (h : GateMoved m cause g s t) (hcause : GateChanged (s.gate g) m.gate → cause = cause') :
    GateTells s.deliveries cause' g s t := by
  have hself := h.self
  refine gateTells_of (cause := cause) ?_ ?_ ?_
  · rw [hself, h.deliveries]
  · rw [hself]; exact h.told.noticesSent
  · rw [hself]; exact hcause

/-! ## Settling by position (R78) -/

theorem settle_fields (s : State) (n : Nat) (g : Gate) :
    (settle s n g).gate.position = g.position ∧ (settle s n g).gate.lever = g.lever ∧
      (settle s n g).gate.stationUp = g.stationUp ∧
      ((settle s n g).gate.state ≠ .lowering → (settle s n g).gate.attempts = g.attempts) := by
  unfold settle
  split <;> (repeat' split) <;> simp [GateMove.driven, GateMove.still, beginLower, beginRaise, restIn, orderDrive]

theorem callsUp_not_down {s : State} {n : Nat} (h : callsUp s n = true) : callsDown s n = false := by
  have h : guardedState s n = some .raising := by simpa [callsUp] using h
  simp [callsDown, h]

/-- A settled gate with its orders. -/
theorem settledBy_of_settle {s t : State} {n : Nat} {g : Gate} (hgate : t.gate n = (settle s n g).gate)
    (hfield : t.field = (s.recarry ((settle s n g).replaces n)).field) (hstop : g.stopOwed = (s.gate n).stopOwed)
    (hdrive : g.driveOwed = (s.gate n).driveOwed) : SettledBy s t n := by
  have hlower : settle s n g = .driven (beginLower s g) → t.gate n = beginLower s g ∧ OrdersReplace n false s t :=
    fun h => by
      rw [h] at hgate hfield
      exact ⟨hgate, ordersReplace_of_recarry hfield (.inr rfl)⟩
  have hraise : settle s n g = .driven (beginRaise s g) → t.gate n = beginRaise s g ∧ OrdersReplace n false s t :=
    fun h => by
      rw [h] at hgate hfield
      exact ⟨hgate, ordersReplace_of_recarry hfield (.inr rfl)⟩
  have hrest : ∀ st, settle s n g = .still (restIn st g) → t.gate n = restIn st g ∧ t.field = s.field :=
    fun st h => by
      rw [h] at hgate hfield
      exact ⟨hgate, by rw [hfield, recarry_still n rfl rfl]⟩
  unfold SettledBy
  cases hp : g.position with
  | none =>
    obtain ⟨hg, hf⟩ := hrest .unknown (by simp [settle, hp])
    simp [hg, hf, restIn, hp, hstop, hdrive]
  | some q =>
    cases q with
    | up =>
      by_cases hd : callsDown s n = true
      · obtain ⟨hg, hf⟩ := hlower (by simp [settle, hp, hd])
        simp [hg, hf, beginLower, orderDrive, hp, hd, hstop]
      · obtain ⟨hg, hf⟩ := hrest .opened (by simp [settle, hp, hd])
        simp [hg, hf, restIn, hp, hd, hstop, hdrive]
    | down =>
      by_cases hu : callsUp s n = true
      · obtain ⟨hg, hf⟩ := hraise (by simp [settle, hp, hu])
        simp [hg, hf, beginRaise, orderDrive, hp, hu, hstop]
      · obtain ⟨hg, hf⟩ := hrest .closed (by simp [settle, hp, hu])
        simp [hg, hf, restIn, hp, hu, hstop, hdrive]
    | between =>
      by_cases hd : callsDown s n = true
      · obtain ⟨hg, hf⟩ := hlower (by simp [settle, hp, hd])
        simp [hg, hf, beginLower, orderDrive, hp, hd, hstop]
      · by_cases hu : callsUp s n = true
        · obtain ⟨hg, hf⟩ := hraise (by simp [settle, hp, hd, hu])
          simp [hg, hf, beginRaise, orderDrive, hp, hd, hu, hstop]
        · obtain ⟨hg, hf⟩ := hrest .unknown (by simp [settle, hp, hd, hu])
          simp [hg, hf, restIn, hp, hd, hu, hstop, hdrive]

/-! ## Requests (R72, R73) -/

theorem gateOrdered_lower {s t : State} {g : Nat} {a : Gate} {stop : Bool} (hgate : t.gate g = beginLower s a)
    (horders : OrdersReplace g stop s t) (hpos : a.position = (s.gate g).position)
    (hstop : a.stopOwed = true ↔ stop = true ∨ (s.gate g).stopOwed = true) :
    GateOrdered s t g .lowering .lower stop ∧ (t.gate g).attempts = 0 := by
  rw [GateOrdered, hgate]
  exact ⟨⟨rfl, rfl, rfl, hstop, rfl, hpos, horders⟩, rfl⟩

theorem gateOrdered_raise {s t : State} {g : Nat} {a : Gate} {stop : Bool} (hgate : t.gate g = beginRaise s a)
    (horders : OrdersReplace g stop s t) (hpos : a.position = (s.gate g).position)
    (hstop : a.stopOwed = true ↔ stop = true ∨ (s.gate g).stopOwed = true) :
    GateOrdered s t g .raising .raise stop := by
  rw [GateOrdered, hgate]
  exact ⟨rfl, rfl, rfl, hstop, rfl, hpos, horders⟩

/-- A request at a gate, acted on by its row or not. -/
def requestMove (called : Bool) (m : GateMove) (g : Gate) : GateMove := if called then m else .still g

theorem request_moved {s : State} {g : Nat} (m : GateMove) (called : Bool) (hg : g < s.gates.recs.length) :
    GateMoved (requestMove called m (s.gate g)) .order g s (if called then gateEvent s g m .order else s) := by
  cases called with
  | true => exact gateEvent_moved m .order hg
  | false => exact gateMoved_refl s g .order

/-- A request changes the state of a gate that it moves, and neither its position nor, but for a fault of the
final retreat, its cause. -/
structure RequestRow (g n : Gate) : Prop where
  position : n.position = g.position
  cause : n.state ≠ g.state → n.cause = none
  manual : n.state = .manual → g.state = .manual

theorem RequestRow.changed {g n : Gate} (h : RequestRow g n) : gateChanged g n = true ↔ n.state ≠ g.state := by
  rw [gateChanged_iff]
  simp [GateChanged, h.position]

theorem requestRow_same (g : Gate) : RequestRow g g := ⟨rfl, fun h => absurd rfl h, id⟩

theorem lowerMove_row (s : State) (g : Gate) :
    RequestRow g (lowerMove s g).gate ∧ ((lowerMove s g).gate.state ≠ g.state → (lowerMove s g).gate.state = .lowering) ∧
      ((lowerMove s g).gate.state = g.state → lowerMove s g = .still g) := by
  unfold lowerMove
  split
  · next h => simp [GateMove.driven, beginLower, orderDrive, h]; constructor <;> simp [h]
  · next h => simp [GateMove.reversed, beginLower, orderDrive, orderStop, h]; constructor <;> simp [h]
  · next h =>
    split
    · simp [GateMove.driven, beginLower, orderDrive, h]; constructor <;> simp [h]
    · exact ⟨requestRow_same g, fun h => absurd rfl h, fun _ => rfl⟩
  all_goals exact ⟨requestRow_same g, fun h => absurd rfl h, fun _ => rfl⟩

theorem raiseMove_row (s : State) (g : Gate) :
    RequestRow g (raiseMove s g).gate ∧ (raiseMove s g).gate.attempts = g.attempts := by
  have hsame : RequestRow g (GateMove.still g).gate ∧ (GateMove.still g).gate.attempts = g.attempts :=
    ⟨requestRow_same g, rfl⟩
  unfold raiseMove
  split
  · exact ⟨⟨rfl, fun _ => rfl, nofun⟩, rfl⟩
  · exact ⟨⟨rfl, fun _ => rfl, nofun⟩, rfl⟩
  · split
    · exact ⟨⟨rfl, fun _ => rfl, nofun⟩, rfl⟩
    · exact hsame
  · split
    · next hc => exact ⟨⟨rfl, fun _ => by simpa [GateMove.still] using hc, nofun⟩, rfl⟩
    · exact hsame
  · exact ⟨⟨rfl, fun _ => rfl, nofun⟩, rfl⟩
  all_goals exact hsame

theorem callsDown_iff {s : State} {g i : Nat} (h : segmentOfGate s g = some i) :
    callsDown s g = true ↔ (s.seg i).state = .lowering ∨ (s.seg i).state = .closed := by
  simp [callsDown, guardedState, h]

theorem callsUp_iff {s : State} {g i : Nat} (h : segmentOfGate s g = some i) :
    callsUp s g = true ↔ (s.seg i).state = .raising := by
  simp [callsUp, guardedState, h]

theorem calls_unfitted {s : State} {g : Nat} (h : segmentOfGate s g = none) :
    callsDown s g = false ∧ callsUp s g = false := by
  simp [callsDown, callsUp, guardedState, h]

/-- What a request tells: it goes to the segment, and as a notice with the new state and no fault cause. -/
theorem GateMoved.requested {m : GateMove} {g i : Nat} {s t : State} (h : GateMoved m .order g s t)
    (hrow : RequestRow (s.gate g) m.gate) (hseg : segmentOfGate s g = some i) :
    t.deliveries = s.deliveries ++
        (if (t.gate g).state ≠ (s.gate g).state then [.gateReportToSegment g] else []) ∧
      NoticeIf ((t.gate g).state ≠ (s.gate g).state) g
        (.gate (t.gate g).state .order (s.gate g).position none) s t := by
  have hdel := h.deliveries
  have htold := h.told
  have hgate : gateDelivery s g = [.gateReportToSegment g] := by simp [gateDelivery, hseg]
  rw [hgate] at hdel
  rw [h.self]
  by_cases hc : m.gate.state ≠ (s.gate g).state
  · rw [if_pos (hrow.changed.2 hc)] at hdel htold
    rw [hrow.cause hc, hrow.position] at htold
    exact ⟨by rw [hdel, if_pos hc], fun _ => htold.oneNotice, fun hno => absurd hc hno⟩
  · rw [if_neg fun h => hc (hrow.changed.1 h)] at hdel htold
    exact ⟨by rw [hdel, if_neg hc], fun h => absurd h hc, fun _ => htold.noNotice⟩

/-- A lower request leaves what the row of the gate's state says (R72). -/
theorem lowerRequest_row {s t : State} {g i : Nat} (hseg : segmentOfGate s g = some i)
    (hmoved : GateMoved (requestMove (callsDown s g) (lowerMove s (s.gate g)) (s.gate g)) .order g s t) :
    if (s.seg i).state = .lowering ∨ (s.seg i).state = .closed then
      match (s.gate g).state with
      | .opened => GateOrdered s t g .lowering .lower false ∧ (t.gate g).attempts = 0
      | .raising => GateOrdered s t g .lowering .lower true ∧ (t.gate g).attempts = 0
      | .unknown =>
        if (s.gate g).stationUp then
          GateOrdered s t g .lowering .lower false ∧ (t.gate g).attempts = 0
        else t.gate g = s.gate g
      | .lowering | .closed | .retreat | .wait | .fault | .manual | .offline => t.gate g = s.gate g
    else t.gate g = s.gate g := by
  have hstill : requestMove (callsDown s g) (lowerMove s (s.gate g)) (s.gate g) = .still (s.gate g) →
      t.gate g = s.gate g := fun h => (h ▸ hmoved).still.1
  split
  · next hcall =>
    have hdown : callsDown s g = true := (callsDown_iff hseg).2 hcall
    have hdriven : lowerMove s (s.gate g) = .driven (beginLower s (s.gate g)) →
        GateOrdered s t g .lowering .lower false ∧ (t.gate g).attempts = 0 := fun h => by
      rw [hdown, requestMove, if_pos rfl, h] at hmoved
      exact gateOrdered_lower hmoved.driven.1 hmoved.driven.2 rfl (by simp)
    rw [hdown, requestMove, if_pos rfl] at hstill
    cases hst : (s.gate g).state with
    | opened => exact hdriven (by simp [lowerMove, hst])
    | raising =>
      have hrow : lowerMove s (s.gate g) = .reversed (beginLower s (orderStop (s.gate g))) := by simp [lowerMove, hst]
      rw [hdown, requestMove, if_pos rfl, hrow] at hmoved
      exact gateOrdered_lower hmoved.reversed.1 hmoved.reversed.2 rfl (by simp [orderStop])
    | unknown =>
      dsimp only
      split
      · next hup => exact hdriven (by simp [lowerMove, hst, hup])
      · next hup => exact hstill (by simp [lowerMove, hst, hup])
    | lowering => exact hstill (by simp [lowerMove, hst])
    | closed => exact hstill (by simp [lowerMove, hst])
    | retreat => exact hstill (by simp [lowerMove, hst])
    | wait => exact hstill (by simp [lowerMove, hst])
    | fault => exact hstill (by simp [lowerMove, hst])
    | manual => exact hstill (by simp [lowerMove, hst])
    | offline => exact hstill (by simp [lowerMove, hst])
  · next hcall =>
    have hdown : callsDown s g = false := by simpa using fun h => hcall ((callsDown_iff hseg).1 h)
    exact hstill (by rw [hdown]; rfl)

/-- A raise request leaves what the row of the gate's state says (R73). -/
theorem raiseRequest_row {s t : State} {g i : Nat} (hseg : segmentOfGate s g = some i)
    (hmoved : GateMoved (requestMove (callsUp s g) (raiseMove s (s.gate g)) (s.gate g)) .order g s t) :
    if (s.seg i).state = .raising then
      match (s.gate g).state with
      | .closed => GateOrdered s t g .raising .raise false
      | .lowering => GateOrdered s t g .raising .raise true
      | .unknown =>
        if (s.gate g).stationUp then GateOrdered s t g .raising .raise false
        else t.gate g = s.gate g ∧ t.field = s.field
      | .retreat =>
        t.field = s.field ∧
        if (s.gate g).cause = none then t.gate g = { s.gate g with state := .raising }
        else t.gate g = s.gate g
      | .wait => t.gate g = { s.gate g with state := .opened, timer := none, cause := none } ∧
        t.field = s.field
      | .opened | .raising | .fault | .manual | .offline => t.gate g = s.gate g ∧ t.field = s.field
    else t.gate g = s.gate g ∧ t.field = s.field := by
  split
  · next hcall =>
    rw [(callsUp_iff hseg).2 hcall, requestMove, if_pos rfl] at hmoved
    have hstill : ∀ n, raiseMove s (s.gate g) = .still n → t.gate g = n ∧ t.field = s.field :=
      fun n h => (h ▸ hmoved).still
    have hdriven : raiseMove s (s.gate g) = .driven (beginRaise s (s.gate g)) →
        GateOrdered s t g .raising .raise false := fun h => by
      rw [h] at hmoved
      exact gateOrdered_raise hmoved.driven.1 hmoved.driven.2 rfl (by simp)
    cases hst : (s.gate g).state with
    | closed => exact hdriven (by simp [raiseMove, hst])
    | lowering =>
      have hrow : raiseMove s (s.gate g) = .reversed (beginRaise s (orderStop (s.gate g))) := by simp [raiseMove, hst]
      rw [hrow] at hmoved
      exact gateOrdered_raise hmoved.reversed.1 hmoved.reversed.2 rfl (by simp [orderStop])
    | unknown =>
      dsimp only
      split
      · next hup => exact hdriven (by simp [raiseMove, hst, hup])
      · next hup => exact hstill _ (by simp [raiseMove, hst, hup])
    | retreat =>
      dsimp only
      split
      · next hc => exact (hstill _ (by simp [raiseMove, hst, hc])).symm
      · next hc => exact (hstill _ (by simp [raiseMove, hst, hc])).symm
    | wait => exact hstill _ (by simp [raiseMove, hst, restIn])
    | opened => exact hstill _ (by simp [raiseMove, hst])
    | raising => exact hstill _ (by simp [raiseMove, hst])
    | fault => exact hstill _ (by simp [raiseMove, hst])
    | manual => exact hstill _ (by simp [raiseMove, hst])
    | offline => exact hstill _ (by simp [raiseMove, hst])
  · next hcall =>
    have hup : callsUp s g = false := by simpa using fun h => hcall ((callsUp_iff hseg).1 h)
    rw [hup] at hmoved
    exact hmoved.still

theorem exec_lowerRequest {s : State} {g : Nat} (hg : gateOk g = true) : exec (.lowerRequest g) s =
    .next (if callsDown (s.taking (.lowerRequest g)) g then gateEvent (s.taking (.lowerRequest g)) g
      (lowerMove (s.taking (.lowerRequest g)) ((s.taking (.lowerRequest g)).gate g)) .order
    else s.taking (.lowerRequest g)) := by
  show onObject (gateOk g) _ = _
  rw [hg]
  rfl

theorem exec_raiseRequest {s : State} {g : Nat} (hg : gateOk g = true) : exec (.raiseRequest g) s =
    .next (if callsUp (s.taking (.raiseRequest g)) g then gateEvent (s.taking (.raiseRequest g)) g
      (raiseMove (s.taking (.raiseRequest g)) ((s.taking (.raiseRequest g)).gate g)) .order
    else s.taking (.raiseRequest g)) := by
  show onObject (gateOk g) _ = _
  rw [hg]
  rfl

/-- Settles O22. -/
theorem requestsDriveGate : Obligations.RequestsDriveGate := by
  intro s g ht hg
  have hsz : g < s.gates.recs.length := gates_sized ht hg
  split
  · next hseg =>
    obtain ⟨hdown, hup⟩ := calls_unfitted hseg
    refine ⟨(exec_lowerRequest hg).trans ?_, (exec_raiseRequest hg).trans ?_⟩
    · show Host.Outcome.next (if callsDown s g then _ else _) = _
      rw [hdown]
      rfl
    · show Host.Outcome.next (if callsUp s g then _ else _) = _
      rw [hup]
      rfl
  · next i hseg =>
    constructor
    · have hmoved := request_moved (s := s.taking (.lowerRequest g)) (lowerMove s (s.gate g)) (callsDown s g) hsz
      have hrow : RequestRow (s.gate g) (requestMove (callsDown s g) (lowerMove s (s.gate g)) (s.gate g)).gate ∧
          ((requestMove (callsDown s g) (lowerMove s (s.gate g)) (s.gate g)).gate.state ≠ (s.gate g).state →
            (requestMove (callsDown s g) (lowerMove s (s.gate g)) (s.gate g)).gate.state = .lowering) ∧
          ((requestMove (callsDown s g) (lowerMove s (s.gate g)) (s.gate g)).gate.state = (s.gate g).state →
            requestMove (callsDown s g) (lowerMove s (s.gate g)) (s.gate g) = .still (s.gate g)) := by
        unfold requestMove
        split
        · exact lowerMove_row s (s.gate g)
        · exact ⟨requestRow_same _, fun h => absurd rfl h, fun _ => rfl⟩
      obtain ⟨hrow, hlow, hstill⟩ := hrow
      obtain ⟨hdel, hnotice⟩ := hmoved.requested hrow hseg
      refine ⟨_, exec_lowerRequest hg, hmoved.other, hmoved.startLimit, hdel, ⟨fun hc => ?_, hnotice.2⟩, fun hsame => ?_,
        hmoved.told.linesKept, event_changesOnly [.notices, .gates, .field, .deliveries] (exec_lowerRequest hg) rfl nofun rfl,
        lowerRequest_row (s := s.taking (.lowerRequest g)) hseg hmoved⟩
      · have hone := hnotice.1 hc
        have hnew := congrArg Gate.state hmoved.self
        rw [hnew.trans (hlow fun h => hc (hnew.trans h))] at hone
        exact hone
      · have hmove := hstill ((congrArg Gate.state hmoved.self).symm.trans hsame)
        have hstillMoved : GateMoved (.still (s.gate g)) _ _ _ _ := hmove ▸ hmoved
        exact hstillMoved.still.2
    · have hmoved := request_moved (s := s.taking (.raiseRequest g)) (raiseMove s (s.gate g)) (callsUp s g) hsz
      have hrow : RequestRow (s.gate g) (requestMove (callsUp s g) (raiseMove s (s.gate g)) (s.gate g)).gate ∧
          (requestMove (callsUp s g) (raiseMove s (s.gate g)) (s.gate g)).gate.attempts = (s.gate g).attempts := by
        unfold requestMove
        split
        · exact raiseMove_row s (s.gate g)
        · exact ⟨requestRow_same _, rfl⟩
      obtain ⟨hdel, hnotice⟩ := hmoved.requested hrow.1 hseg
      refine ⟨_, exec_raiseRequest hg, hmoved.other, hmoved.startLimit, hdel, hnotice,
        hmoved.told.linesKept, event_changesOnly [.notices, .gates, .field, .deliveries] (exec_raiseRequest hg) rfl nofun rfl,
        ?_, raiseRequest_row (s := s.taking (.raiseRequest g)) hseg hmoved⟩
      · exact (congrArg Gate.attempts hmoved.self).trans hrow.2

/-! ## Reports (R70) -/

/-- A gate that holds what its station reported. -/
def reported (g : Gate) (r : GateReport) : Gate := { g with position := some r.position, lever := r.lever }

theorem exec_gateReport {s : State} {g : Nat} {r : GateReport} (hg : gateOk g = true) :
    exec (.gateReport g r) s = .next (reportGate (s.taking (.gateReport g r)) g r) := by
  show onObject (gateOk g) _ = _
  rw [hg]
  rfl

theorem reportMove_fields (s : State) (g : Nat) (r : GateReport) :
    (reportMove s g r).1.gate.position = some r.position ∧ (reportMove s g r).1.gate.lever = r.lever ∧
      (reportMove s g r).1.gate.stationUp = (s.gate g).stationUp := by
  have hsettle := settle_fields s g (reported (s.gate g) r)
  obtain ⟨hpos, hlever, hup, -⟩ := hsettle
  unfold reportMove
  dsimp only
  split
  · split
    · exact ⟨rfl, rfl, rfl⟩
    · exact ⟨rfl, rfl, rfl⟩
    · unfold leverMove
      split <;> exact ⟨rfl, rfl, rfl⟩
  · split
    · exact ⟨hpos, hlever, hup⟩
    · unfold motionMove
      split
      all_goals (repeat' split)
      all_goals first | exact ⟨rfl, rfl, rfl⟩ | exact ⟨hpos, hlever, hup⟩

theorem leverMove_cause {g : Gate} (r : GateReport) (hr : r.lever = true) (hmanual : g.state ≠ .manual) :
    (leverMove g).2 = reportCause g r := by
  unfold leverMove reportCause
  simp [hr, hmanual, apply_ite Prod.snd]

/-- The notice of a changed gate has the cause that R86 gives the report. -/
theorem reportMove_cause (s : State) (g : Nat) (r : GateReport)
    (hc : GateChanged (s.gate g) (reportMove s g r).1.gate) : (reportMove s g r).2 = reportCause (s.gate g) r := by
  revert hc
  unfold reportMove
  dsimp only
  by_cases hr : r.lever = true
  · simp only [hr, if_true]
    split
    · next h => exact fun _ => by simp [reportCause, hr, h]
    · next h => exact fun hc => by simp [GateChanged, GateMove.still, h] at hc
    · next h _ => exact fun _ => leverMove_cause r hr h
  · intro hc
    cases hst : (s.gate g).state with
    | manual => simp [reportCause, hr, hst]
    | opened => simp [reportCause, motionMove, hr, hst, apply_ite Prod.snd]
    | wait => simp [reportCause, motionMove, hr, hst, apply_ite Prod.snd]
    | closed => simp [reportCause, motionMove, hr, hst, apply_ite Prod.snd]
    | raising => simp [reportCause, motionMove, hr, hst, apply_ite Prod.snd]
    | unknown => simp [reportCause, motionMove, hr, hst, apply_ite Prod.snd]
    | lowering =>
      by_cases hdown : r.position = .down
      · simp [reportCause, motionMove, hr, hst, hdown]
      · by_cases hblocked : r.blocked = true
        · simp [reportCause, motionMove, hr, hst, hdown, hblocked]
        · simp [GateChanged, motionMove, GateMove.still, hr, hst, hdown, hblocked] at hc
    | retreat =>
      by_cases hup : r.position = .up
      · simp [reportCause, motionMove, hr, hst, hup, apply_ite Prod.snd]
      · simp [GateChanged, motionMove, GateMove.still, hr, hst, hup] at hc
    | fault => simp [GateChanged, motionMove, GateMove.still, hr, hst] at hc
    | offline => simp [GateChanged, motionMove, GateMove.still, hr, hst] at hc

/-- What a report of an ACTIVE station with the lever disengaged leaves of a gate and its orders. -/
theorem motion_row {s t : State} {g : Nat} {r : GateReport} {cause : GateCause} (hr : r.lever = false)
    (hmoved : GateMoved (reportMove s g r).1 cause g s t) :
    match (s.gate g).state with
    | .lowering =>
      if r.position = .down then
        t.gate g = { reported (s.gate g) r with state := .closed, timer := none, cause := none } ∧ t.field = s.field
      else if r.blocked then
        t.gate g = { reported (s.gate g) r with
          state := .retreat, stopOwed := true, driveOwed := some .raise,
          timer := some s.image.travelLimit,
          cause := if (s.gate g).attempts < s.image.retryLimit then none
            else some .obstructionLimit } ∧ OrdersReplace g true s t
      else t.gate g = reported (s.gate g) r ∧ t.field = s.field
    | .raising => t.field = s.field ∧ t.gate g =
      if r.position = .up then { reported (s.gate g) r with state := .opened, timer := none, cause := none }
      else reported (s.gate g) r
    | .retreat => t.field = s.field ∧ t.gate g =
      if r.position = .up then
        if (s.gate g).cause = some .obstructionLimit then { reported (s.gate g) r with state := .fault, timer := none }
        else { reported (s.gate g) r with state := .wait, timer := some s.image.retryInterval }
      else reported (s.gate g) r
    | .opened | .wait => t.field = s.field ∧ t.gate g =
      if r.position = .up then reported (s.gate g) r
      else { reported (s.gate g) r with state := .fault, timer := none, cause := some .positionConflict }
    | .closed => t.field = s.field ∧ t.gate g =
      if r.position = .down then reported (s.gate g) r
      else { reported (s.gate g) r with state := .fault, timer := none, cause := some .positionConflict }
    | .manual => SettledBy s t g ∧
      ((t.gate g).state ≠ .lowering → (t.gate g).attempts = (s.gate g).attempts)
    | .unknown =>
      if (s.gate g).position = some r.position then t.gate g = reported (s.gate g) r ∧ t.field = s.field
      else SettledBy s t g ∧
        ((t.gate g).state ≠ .lowering → (t.gate g).attempts = (s.gate g).attempts)
    | .fault | .offline => t.gate g = reported (s.gate g) r ∧ t.field = s.field := by
  have hstill : ∀ n, (reportMove s g r).1 = .still n → t.gate g = n ∧ t.field = s.field :=
    fun n h => GateMoved.still (h ▸ hmoved)
  have hsettle : (reportMove s g r).1 = settle s g (reported (s.gate g) r) → SettledBy s t g ∧
      ((t.gate g).state ≠ .lowering → (t.gate g).attempts = (s.gate g).attempts) := fun h => by
    rw [h] at hmoved
    obtain ⟨-, -, -, hattempts⟩ := settle_fields s g (reported (s.gate g) r)
    refine ⟨settledBy_of_settle hmoved.self hmoved.field rfl rfl, ?_⟩
    rw [hmoved.self]
    exact hattempts
  cases hst : (s.gate g).state with
  | lowering =>
    dsimp only
    split
    · next hdown => exact hstill _ (by simp [reportMove, motionMove, hr, hst, hdown, restIn, reported])
    · next hdown =>
      split
      · next hblocked =>
        have hmove : (reportMove s g r).1 = .reversed (retreat s (reported (s.gate g) r)) := by
          simp [reportMove, motionMove, hr, hst, hdown, hblocked, reported]
        rw [hmove] at hmoved
        exact hmoved.reversed
      · next hblocked => exact hstill _ (by simp [reportMove, motionMove, hr, hst, hdown, hblocked, reported])
  | raising =>
    dsimp only
    split
    · next hup => exact (hstill _ (by simp [reportMove, motionMove, hr, hst, hup, restIn, reported])).symm
    · next hup => exact (hstill _ (by simp [reportMove, motionMove, hr, hst, hup, reported])).symm
  | retreat =>
    dsimp only
    split
    · next hup =>
      split
      · next hc => exact (hstill _ (by simp [reportMove, motionMove, hr, hst, hup, hc, faultWith, reported])).symm
      · next hc => exact (hstill _ (by simp [reportMove, motionMove, hr, hst, hup, hc, reported])).symm
    · next hup => exact (hstill _ (by simp [reportMove, motionMove, hr, hst, hup, reported])).symm
  | opened =>
    dsimp only
    split
    · next hup => exact (hstill _ (by simp [reportMove, motionMove, hr, hst, hup, reported])).symm
    · next hup => exact (hstill _ (by simp [reportMove, motionMove, hr, hst, hup, faultWith, reported])).symm
  | wait =>
    dsimp only
    split
    · next hup => exact (hstill _ (by simp [reportMove, motionMove, hr, hst, hup, reported])).symm
    · next hup => exact (hstill _ (by simp [reportMove, motionMove, hr, hst, hup, faultWith, reported])).symm
  | closed =>
    dsimp only
    split
    · next hdown => exact (hstill _ (by simp [reportMove, motionMove, hr, hst, hdown, reported])).symm
    · next hdown => exact (hstill _ (by simp [reportMove, motionMove, hr, hst, hdown, faultWith, reported])).symm
  | manual => exact hsettle (by simp [reportMove, hr, hst, reported])
  | unknown =>
    dsimp only
    split
    · next hsame => exact hstill _ (by simp [reportMove, motionMove, hr, hst, hsame, reported])
    · next hsame => exact hsettle (by simp [reportMove, motionMove, hr, hst, hsame, reported])
  | fault => exact hstill _ (by simp [reportMove, motionMove, hr, hst, reported])
  | offline => exact hstill _ (by simp [reportMove, motionMove, hr, hst, reported])

/-- What a report with the lever engaged leaves of a gate, whose orders in flight stand (R77, R79). -/
theorem lever_row {s t : State} {g : Nat} {r : GateReport} {cause : GateCause} (hr : r.lever = true)
    (hmoved : GateMoved (reportMove s g r).1 cause g s t) :
    t.field = s.field ∧ t.gate g =
      if (s.gate g).state = .manual ∨ (s.gate g).state = .fault then reported (s.gate g) r
      else if (s.gate g).state = .retreat ∧ (s.gate g).cause = some .obstructionLimit then
        { reported (s.gate g) r with state := .fault, timer := none, cause := some .obstructionLimit }
      else { reported (s.gate g) r with
        state := .manual, timer := none, cause := none, stopOwed := false, driveOwed := none } := by
  have hstill : ∀ n, (reportMove s g r).1 = .still n → t.field = s.field ∧ t.gate g = n :=
    fun n h => (GateMoved.still (h ▸ hmoved)).symm
  split
  · next h => exact hstill _ (by rcases h with h | h <;> simp [reportMove, hr, h, reported])
  · next h =>
    have hmove : (reportMove s g r).1 = (leverMove (reported (s.gate g) r)).1 := by
      obtain ⟨hm, hf⟩ := not_or.1 h
      unfold reportMove
      simp only [hr, if_true]
      rw [reported, hr]
    split
    · next h => exact hstill _ (hmove.trans (by simp [leverMove, reported, h, faultWith]))
    · next h => exact hstill _ (hmove.trans (by simp [leverMove, reported, enterManual, restIn, noOrders, h]))

/-- Settles O23. -/
theorem gateReportMovesGate : Obligations.GateReportMovesGate := by
  intro s g r ht hg
  have hsz : g < s.gates.recs.length := gates_sized ht hg
  refine ⟨fun hdown => ?_, fun hup => ?_⟩
  · have hdown : ((s.taking (.gateReport g r)).gate g).stationUp = false := hdown
    rw [exec_gateReport hg, reportGate, hdown]
    rfl
  · have hup' : ((s.taking (.gateReport g r)).gate g).stationUp = true := hup
    have hexec := exec_gateReport (s := s) (r := r) hg
    rw [reportGate, if_pos hup'] at hexec
    have hmoved := gateEvent_moved (s := s.taking (.gateReport g r)) (reportMove (s.taking (.gateReport g r)) g r).1
      (reportMove (s.taking (.gateReport g r)) g r).2 hsz
    obtain ⟨hpos, hlever, hst⟩ := reportMove_fields (s.taking (.gateReport g r)) g r
    refine ⟨_, hexec, hmoved.other, ?_, ?_, ?_, hmoved.startLimit,
      hmoved.tells (reportMove_cause (s.taking (.gateReport g r)) g r), hmoved.told.linesKept,
      event_changesOnly [.notices, .gates, .field, .deliveries] hexec rfl nofun rfl, ?_⟩
    · rw [hmoved.self, hpos]
    · rw [hmoved.self, hlever]
    · rw [hmoved.self, hst, hup']
    · split
      · next hr => exact lever_row (s := s.taking (.gateReport g r)) hr hmoved
      · next hr => exact motion_row (s := s.taking (.gateReport g r)) (by simpa using hr) hmoved

/-! ## Timers (R74, R76, R84) -/

theorem exec_travelTimeout {s : State} {g : Nat} (hg : gateOk g = true) : exec (.travelTimeout g) s =
    .next (if (s.gate g).moving && due (s.gate g).timer then
      gateEvent s g (timeoutMove (s.gate g)).1 (timeoutMove (s.gate g)).2 else s) := by
  show onObject (gateOk g) _ = _
  rw [hg]
  rfl

theorem exec_retryIntervalExpiry {s : State} {g : Nat} (hg : gateOk g = true) : exec (.retryIntervalExpiry g) s =
    .next (if (s.gate g).state == .wait && due (s.gate g).timer then
      gateEvent s g (retryMove s g (s.gate g)).1 (retryMove s g (s.gate g)).2 else s) := by
  show onObject (gateOk g) _ = _
  rw [hg]
  rfl

/-- The travel limit at a gate in motion (R74, R77). -/
theorem travelTimeout_row {s : State} {g : Nat} (ht : TablesOk s) (hg : gateOk g = true) :
    if (s.gate g).moving = true ∧ (s.gate g).timer = some 0 then
      let final : Prop := (s.gate g).state = .retreat ∧ (s.gate g).cause = some .obstructionLimit
      ∃ t, exec (.travelTimeout g) s = .next t ∧
        (final → t.gate g = { s.gate g with
            state := .fault, timer := none, stopOwed := true, driveOwed := none,
            cause := some .obstructionLimit } ∧
          GateTells s.deliveries .obstructionLimit g s t) ∧
        (¬final → t.gate g = { s.gate g with
            state := .fault, timer := none, stopOwed := true, driveOwed := none,
            cause := some .travelTimeout } ∧
          GateTells s.deliveries .travelTimeout g s t) ∧
        OrdersReplace g true s t ∧ (∀ y, y ≠ g → t.gate y = s.gate y) ∧ LinesKept s t ∧
        ChangesOnly [.ports, .gates, .field, .deliveries] s t
    else exec (.travelTimeout g) s = .next s := by
  have hsz : g < s.gates.recs.length := gates_sized ht hg
  have hexec := exec_travelTimeout (s := s) hg
  split
  · next h =>
    rw [if_pos (by simpa [due] using h)] at hexec
    have hmoved := gateEvent_moved (timeoutMove (s.gate g)).1 (timeoutMove (s.gate g)).2 hsz
    have hareas := event_changesOnly [.notices, .gates, .field, .deliveries]
      (bs := [.ports, .gates, .field, .deliveries]) hexec rfl nofun rfl
    have horders : OrdersReplace g true s (gateEvent s g (timeoutMove (s.gate g)).1 (timeoutMove (s.gate g)).2) := by
      have hstop : (timeoutMove (s.gate g)).1.stops = true := by unfold timeoutMove; split <;> rfl
      exact hstop ▸ ordersReplace_of_recarry hmoved.field (.inl hstop)
    refine ⟨_, hexec, fun hf => ?_, fun hf => ?_, horders, hmoved.other, hmoved.told.linesKept, hareas⟩
    · have hmove : timeoutMove (s.gate g) = _ := if_pos (by simpa using hf)
      rw [hmove] at hmoved ⊢
      exact ⟨hmoved.stopped.1, hmoved.tells fun _ => rfl⟩
    · have hmove : timeoutMove (s.gate g) = _ := if_neg (by simpa using hf)
      rw [hmove] at hmoved ⊢
      exact ⟨hmoved.stopped.1, hmoved.tells fun _ => rfl⟩
  · next h => rw [hexec, if_neg (by simpa [due] using h)]

/-- The retry interval at a gate in WAIT (R76). -/
theorem retryInterval_row {s : State} {g : Nat} (ht : TablesOk s) (hg : gateOk g = true) :
    if (s.gate g).state = .wait ∧ (s.gate g).timer = some 0 then
      ∃ t, exec (.retryIntervalExpiry g) s = .next t ∧
        (∀ y, y ≠ g → t.gate y = s.gate y) ∧ LinesKept s t ∧
        ChangesOnly [.ports, .gates, .field, .deliveries] s t ∧
        if callsDown s g then
          t.gate g = { s.gate g with
            state := .lowering, attempts := (s.gate g).attempts + 1, driveOwed := some .lower,
            timer := some s.image.travelLimit } ∧
          OrdersReplace g false s t ∧ GateTells s.deliveries .retry g s t
        else
          t.gate g = { s.gate g with state := .opened, timer := none, cause := none } ∧
          t.field = s.field ∧ GateTells s.deliveries .order g s t
    else exec (.retryIntervalExpiry g) s = .next s := by
  have hsz : g < s.gates.recs.length := gates_sized ht hg
  have hexec := exec_retryIntervalExpiry (s := s) hg
  split
  · next h =>
    rw [if_pos (by simpa [due] using h)] at hexec
    have hmoved := gateEvent_moved (retryMove s g (s.gate g)).1 (retryMove s g (s.gate g)).2 hsz
    refine ⟨_, hexec, hmoved.other, hmoved.told.linesKept,
      event_changesOnly [.notices, .gates, .field, .deliveries] hexec rfl nofun rfl, ?_⟩
    split
    · next hcall =>
      have hmove : retryMove s g (s.gate g) = _ := if_pos hcall
      rw [hmove] at hmoved ⊢
      exact ⟨hmoved.driven.1, hmoved.driven.2, hmoved.tells fun _ => rfl⟩
    · next hcall =>
      have hmove : retryMove s g (s.gate g) = _ := if_neg hcall
      rw [hmove] at hmoved ⊢
      exact ⟨hmoved.still.1, hmoved.still.2, hmoved.tells fun _ => rfl⟩
  · next h => rw [hexec, if_neg (by simpa [due] using h)]

/-- A gate that the start-up limit finds still waiting for its station (R84). -/
def waitsAtLimit (s : State) (g : Nat) : Bool := decide ((s.gate g).state = .unknown ∧ (s.gate g).stationUp = false)

/-- The record that the start-up limit leaves of such a gate. -/
def lateGate (g : Gate) : Gate := { g with state := .offline, position := none, timer := none, cause := none }

/-- What the start-up limit has done at these gates (R84). -/
structure LimitTaken (l : List Nat) (s t : State) : Prop where
  gate : ∀ k, t.gate k = if k ∈ l ∧ waitsAtLimit s k = true then lateGate (s.gate k) else s.gate k
  startLimit : t.gates.startLimit = s.gates.startLimit
  image : t.image = s.image
  clock : t.clock.seconds = s.clock.seconds
  field : t.field = s.field
  size : t.gates.recs.length = s.gates.recs.length
  deliveries : t.deliveries = s.deliveries ++
    ((l.filter (waitsAtLimit s)).filter fun g => (segmentOfGate s g).isSome).map Instr.gateReportToSegment
  told : Told ((l.filter (waitsAtLimit s)).map fun g => (g, .gate .offline .startupLimit none none)) s t

theorem limitTaken_nil (s : State) : LimitTaken [] s s := by
  refine ⟨fun k => ?_, rfl, rfl, rfl, rfl, rfl, ?_, told_refl s⟩
  · rw [if_neg fun h => absurd h.1 List.not_mem_nil]
  · simp

theorem LimitTaken.next {l : List Nat} {s t : State} (h : LimitTaken l s t) {g : Nat} (hnew : g ∉ l)
    (hsz : g < s.gates.recs.length) : LimitTaken (l ++ [g]) s (limitGate t g) := by
  have hgate : t.gate g = s.gate g := by rw [h.gate, if_neg fun hc => hnew hc.1]
  have hseg : segmentOfGate t g = segmentOfGate s g := by rw [segmentOfGate, h.image]; rfl
  by_cases hw : waitsAtLimit s g = true
  · have hmoved := gateEvent_moved (s := t) (.still (lateGate (s.gate g))) .startupLimit (h.size ▸ hsz)
    have hlimit : limitGate t g = gateEvent t g (.still (lateGate (s.gate g))) .startupLimit := by
      unfold limitGate
      rw [hgate]
      exact if_pos (by simpa [waitsAtLimit] using hw)
    have hchanged : gateChanged (t.gate g) (lateGate (s.gate g)) = true := by
      have hst : (s.gate g).state = .unknown := by
        simp only [waitsAtLimit, decide_eq_true_eq] at hw
        exact hw.1
      simp [gateChanged, hgate, lateGate, hst]
    have hleaves := leaves_gateEvent t g (.still (lateGate (s.gate g))) .startupLimit
    have hdel := hmoved.deliveries
    have htold := hmoved.told
    simp only [GateMove.still, hchanged, if_true] at hdel htold
    rw [hlimit]
    refine ⟨fun k => ?_, hmoved.startLimit.trans h.startLimit, hleaves.image.trans h.image, ?_,
      hmoved.still.2.trans h.field, ?_, ?_, ?_⟩
    · rw [hmoved.gate, h.gate]
      by_cases hk : k = g
      · subst hk
        rw [if_pos rfl, if_pos ⟨by simp, hw⟩]
        rfl
      · rw [if_neg hk]
        refine if_congr ?_ rfl rfl
        simp [hk]
    · exact (congrArg Clock.seconds (hleaves.kept .clock (by decide))).trans h.clock
    · rw [gateEvent_gates]
      exact List.length_set.trans h.size
    · have hrest : (t.deliveries ++ gateDelivery t g) = s.deliveries ++
          (((l ++ [g]).filter (waitsAtLimit s)).filter fun g => (segmentOfGate s g).isSome).map Instr.gateReportToSegment := by
        rw [h.deliveries, gateDelivery, hseg]
        by_cases hs : (segmentOfGate s g).isSome = true <;> simp [hw, hs]
      exact hdel.trans hrest
    · have hlist : ((l ++ [g]).filter (waitsAtLimit s)).map (fun g => (g, NoticeBody.gate .offline .startupLimit none none)) =
          (l.filter (waitsAtLimit s)).map (fun g => (g, NoticeBody.gate .offline .startupLimit none none)) ++
            [(g, NoticeBody.gate .offline .startupLimit none none)] := by simp [hw]
      rw [hlist]
      exact h.told.trans htold h.clock
  · have hlimit : limitGate t g = t := by
      unfold limitGate
      rw [hgate]
      exact if_neg (by simpa [waitsAtLimit] using hw)
    have hfilter : (l ++ [g]).filter (waitsAtLimit s) = l.filter (waitsAtLimit s) := by simp [hw]
    rw [hlimit]
    refine ⟨fun k => ?_, h.startLimit, h.image, h.clock, h.field, h.size, hfilter ▸ h.deliveries, hfilter ▸ h.told⟩
    rw [h.gate]
    refine if_congr ⟨fun hc => ⟨List.mem_append_left _ hc.1, hc.2⟩, fun hc => ⟨?_, hc.2⟩⟩ rfl rfl
    refine (List.mem_append.1 hc.1).resolve_right fun hk => hw ?_
    exact List.mem_singleton.1 hk ▸ hc.2

theorem limitTaken_foldl {s : State} (l : List Nat) (hl : l.Nodup) (hsz : ∀ g ∈ l, g < s.gates.recs.length) :
    LimitTaken l s (l.foldl limitGate s) := by
  induction l using List.reverseRecOn with
  | nil => exact limitTaken_nil s
  | append_singleton l g ih =>
    obtain ⟨hnd, -, hdisj⟩ := List.nodup_append.1 hl
    rw [List.foldl_concat]
    exact (ih hnd fun k hk => hsz k (List.mem_append_left _ hk)).next
      (fun h => hdisj g h g (List.mem_singleton_self g) rfl) (hsz g (by simp))

theorem exec_startupLimit (s : State) : exec .startupLimit s = .next (if due s.gates.startLimit then
    (List.range 8).foldl limitGate { s with gates := { s.gates with startLimit := none } } else s) := rfl

/-- Settles O24. -/
theorem gateTimersExpire : Obligations.GateTimersExpire := by
  intro s ht
  refine ⟨fun g hg => ⟨travelTimeout_row ht hg, retryInterval_row ht hg⟩, ?_⟩
  have hexec := exec_startupLimit s
  split
  · next hdue =>
    have hdue : due s.gates.startLimit = true := by simpa [due] using hdue
    have hsz : ∀ g ∈ List.range 8, g < s.gates.recs.length := fun g hg =>
      gates_sized ht (by simpa [gateOk] using hg)
    have htaken := limitTaken_foldl (s := { s with gates := { s.gates with startLimit := none } }) (List.range 8)
      List.nodup_range hsz
    rw [if_pos hdue] at hexec
    have hareas := event_changesOnly [.notices, .gates, .field, .deliveries]
      (bs := [.ports, .gates, .field, .deliveries]) hexec rfl nofun rfl
    generalize (List.range 8).foldl limitGate { s with gates := { s.gates with startLimit := none } } = t at *
    refine ⟨t, hexec, htaken.startLimit, fun g hg => ?_, htaken.deliveries, htaken.told.noticesSent,
      htaken.told.linesKept, ?_⟩
    · rw [htaken.gate]
      refine if_congr ?_ rfl rfl
      rw [List.mem_filter]
      rfl
    · intro b hb
      by_cases hf : b = .field
      · subst hf
        exact htaken.field
      · exact hareas b (by simp only [List.mem_cons, not_or] at hb ⊢; simp [hf, hb])
  · next hdue => rw [hexec, if_neg (by simpa [due] using hdue)]

/-! ## Loss and return of the station, and GATE FAULT CLEAR (R82, R83, R85) -/

theorem exec_gateStationLost {s : State} {g : Nat} (hg : gateOk g = true) :
    exec (.gateStationLost g) s = .next (gateLost (s.taking (.gateStationLost g)) g) := by
  show onObject (gateOk g) _ = _
  rw [hg]
  rfl

theorem exec_gateStationReturn {s : State} {g : Nat} {r : GateReport} (hg : gateOk g = true) :
    exec (.gateStationReturn g r) s = .next (gateReturned (s.taking (.gateStationReturn g r)) g r) := by
  show onObject (gateOk g) _ = _
  rw [hg]
  rfl

theorem lostMove_still (g : Gate) : (lostMove g).1.stops = false ∧ (lostMove g).1.drives = false := by
  unfold lostMove
  dsimp only
  split <;> exact ⟨rfl, rfl⟩

/-- What the loss of its station leaves of a gate (R82). -/
theorem lostMove_gate {n : Nat} {g : Gate} (hg : g.ok n) :
    (lostMove g).1.gate =
      let u : Gate := { g with stopOwed := false, driveOwed := none, timer := none, stationUp := false }
      match g.state with
      | .lowering | .raising => { u with state := .fault, cause := some .stationLost }
      | .retreat => { u with
          state := .fault,
          cause := if g.cause = some .obstructionLimit then some .obstructionLimit
            else some .stationLost }
      | .opened | .closed | .wait | .unknown | .manual => { u with state := .offline, cause := none }
      | .fault | .offline => u := by
  have htimer : g.state = .fault ∨ g.state = .offline → g.timer = none := fun hst => by
    obtain ⟨ht, -⟩ := hg
    rcases hst with hst | hst <;> simpa [Gate.moving, hst] using ht
  unfold lostMove
  cases hst : g.state with
  | fault => simp [GateMove.still, noOrders, hst, htimer (.inl hst)]
  | offline => simp [GateMove.still, noOrders, hst, htimer (.inr hst)]
  | retreat => simp [GateMove.still, noOrders, faultWith, apply_ite some]
  | _ => rfl

theorem lostMove_cause (g : Gate) :
    (lostMove g).2 = if g.moving then .stationLost else .stationOffline := by
  unfold lostMove
  cases hst : g.state <;> simp [Gate.moving, hst]

/-- What the return of its station leaves of a gate (R83). -/
theorem returned_row {s t : State} {g : Nat} {r : GateReport} {cause : GateCause}
    (hmoved : GateMoved (returnMove s g r) cause g s t) :
    (t.gate g).stationUp = true ∧ (t.gate g).position = some r.position ∧ (t.gate g).lever = r.lever ∧
    if (s.gate g).state = .fault then t.gate g = identified (s.gate g) r ∧ t.field = s.field
    else if r.lever then
      t.gate g = { identified (s.gate g) r with
        state := .manual, timer := none, cause := none, stopOwed := false, driveOwed := none } ∧ t.field = s.field
    else SettledBy s t g ∧
      ((t.gate g).state ≠ .lowering → (t.gate g).attempts = (s.gate g).attempts) := by
  by_cases hf : (s.gate g).state = .fault
  · have hmove : returnMove s g r = _ := if_pos (by simpa [identified] using hf)
    rw [hmove] at hmoved
    rw [if_pos hf, hmoved.still.1]
    exact ⟨rfl, rfl, rfl, rfl, hmoved.still.2⟩
  · have hmove : returnMove s g r = if r.lever then .still (enterManual (identified (s.gate g) r))
        else settle s g (identified (s.gate g) r) := if_neg (by simpa [identified] using hf)
    rw [hmove] at hmoved
    rw [if_neg hf]
    by_cases hr : r.lever = true
    · rw [if_pos hr] at hmoved
      rw [if_pos hr, hmoved.still.1]
      exact ⟨rfl, rfl, rfl, rfl, hmoved.still.2⟩
    · rw [if_neg hr] at hmoved
      rw [if_neg hr]
      obtain ⟨hpos, hlever, hup, hattempts⟩ := settle_fields s g (identified (s.gate g) r)
      refine ⟨?_, ?_, ?_, settledBy_of_settle hmoved.self hmoved.field rfl rfl, ?_⟩
      · rw [hmoved.self, hup]; rfl
      · rw [hmoved.self, hpos]; rfl
      · rw [hmoved.self, hlever]; rfl
      · rw [hmoved.self]; exact hattempts

/-- A gate of which the fault has been cleared (R85). -/
def clearedGate (g : Gate) : Gate := { g with attempts := 0, cause := none }

/-- What GATE FAULT CLEAR leaves of a gate (R85). -/
theorem cleared_row {s t : State} {g : Nat} (hgate : t.gate g = (clearMove s g).gate) (hfield : t.field = (s.recarry ((clearMove s g).replaces g)).field) :
    (t.gate g).attempts = 0 ∧ (t.gate g).cause = none ∧
    (t.gate g).position = (s.gate g).position ∧ (t.gate g).lever = (s.gate g).lever ∧
    (t.gate g).stationUp = (s.gate g).stationUp ∧
    (let u : Gate := { s.gate g with attempts := 0, cause := none, timer := none }
    if (s.gate g).stationUp = false then
      t.gate g = { u with state := .offline } ∧ t.field = s.field
    else if (s.gate g).lever then
      t.gate g = { u with state := .manual, stopOwed := false, driveOwed := none } ∧
      t.field = s.field
    else SettledBy s t g) := by
  by_cases hup : (s.gate g).stationUp = false
  · have hmove : clearMove s g = .still (restIn .offline (clearedGate (s.gate g))) := if_pos (by simpa using hup)
    rw [hmove] at hgate hfield
    rw [recarry_still g rfl rfl] at hfield
    rw [hgate]
    dsimp only
    rw [if_pos hup]
    exact ⟨rfl, rfl, rfl, rfl, rfl, rfl, hfield⟩
  · have hmove : clearMove s g = if (s.gate g).lever then .still (enterManual (clearedGate (s.gate g)))
        else settle s g (clearedGate (s.gate g)) := if_neg (by simpa using hup)
    rw [hmove] at hgate hfield
    dsimp only
    rw [if_neg hup]
    by_cases hl : (s.gate g).lever = true
    · rw [if_pos hl] at hgate hfield
      rw [recarry_still g rfl rfl] at hfield
      rw [if_pos hl, hgate]
      exact ⟨rfl, rfl, rfl, rfl, rfl, rfl, hfield⟩
    · rw [if_neg hl] at hgate hfield
      rw [if_neg hl]
      obtain ⟨hpos, hlever, hst', hattempts⟩ := settle_fields s g (clearedGate (s.gate g))
      have hsettled := settledBy_of_settle hgate hfield rfl rfl
      obtain ⟨-, hcause, -, hrest⟩ := id hsettled
      refine ⟨?_, hcause, ?_, ?_, ?_, hsettled⟩
      · by_cases hlow : (t.gate g).state = .lowering
        · rw [if_pos hlow] at hrest
          obtain ⟨-, -, ha, -⟩ := hrest
          exact ha
        · rw [hgate] at hlow ⊢
          exact hattempts hlow
      · rw [hgate, hpos]; rfl
      · rw [hgate, hlever]; rfl
      · rw [hgate, hst']; rfl

theorem runGateFaultClear_fault {s : State} {p g : Nat} (h : (s.gate g).state = .fault) :
    runGateFaultClear s p g = .mk .done
      [((gateEvent s g (clearMove s g) .faultClear).gate g).state.code,
        codePosition ((gateEvent s g (clearMove s g) .faultClear).gate g).position]
      (gateEvent s g (clearMove s g) .faultClear) := by
  unfold runGateFaultClear
  rw [h]
  rfl

theorem runGateFaultClear_refused {s : State} {p g : Nat} (h : (s.gate g).state ≠ .fault) :
    runGateFaultClear s p g = refuse s .state := by
  unfold runGateFaultClear
  exact if_neg (by simpa using h)

/-- Settles O25. -/
theorem stationLossReturnAndClear : Obligations.StationLossReturnAndClear := by
  intro s g ht hs hg
  have hsz : g < s.gates.recs.length := gates_sized ht hg
  have hok : (s.gate g).ok s.image.retryLimit := hs g (by simpa [gateOk] using hg)
  refine ⟨?_, fun r => ?_, fun p hacc => ?_⟩
  · have hmoved := gateEvent_moved (s := s.taking (.gateStationLost g)) (lostMove (s.gate g)).1 (lostMove (s.gate g)).2 hsz
    have hareas := event_changesOnly [.notices, .gates, .field, .deliveries]
      (bs := [.ports, .gates, .field, .deliveries]) (exec_gateStationLost (s := s) hg) rfl nofun rfl
    obtain ⟨hstops, hdrives⟩ := lostMove_still (s.gate g)
    refine ⟨_, exec_gateStationLost hg, hmoved.self.trans (lostMove_gate hok), hmoved.tells fun _ => lostMove_cause (s.gate g),
      hmoved.other, hmoved.startLimit, hmoved.told.linesKept, fun b hb => ?_⟩
    by_cases hf : b = .field
    · subst hf
      exact hmoved.field.trans (recarry_still g hstops hdrives)
    · exact hareas b (by simp only [List.mem_cons, not_or] at hb ⊢; simp [hf, hb])
  · have hmoved := gateEvent_moved (s := s.taking (.gateStationReturn g r)) (returnMove (s.taking (.gateStationReturn g r)) g r)
      .stationReturn hsz
    obtain ⟨hup, hpos, hlever, hrow⟩ := returned_row hmoved
    exact ⟨_, exec_gateStationReturn hg, hup, hpos, hlever, hrow, hmoved.tells fun _ => rfl, hmoved.other,
      hmoved.startLimit, hmoved.told.linesKept,
      event_changesOnly [.notices, .gates, .field, .deliveries] (exec_gateStationReturn hg) rfl nofun rfl⟩
  · have hlt := accepted_lt ht hacc
    have hexec : exec (.gateFaultClear p) s = .next (outcome gateFaultClearCommand s p g) :=
      exec_accepted rfl (fun _ _ => ⟨rfl, rfl, rfl⟩) hacc
    rw [hexec]
    split
    · next hst =>
      have hmoved := gateEvent_moved (s := popFrame s p) (clearMove (popFrame s p) g) .faultClear hsz
      have hrun : gateFaultClearCommand.run (popFrame s p) p g = _ := runGateFaultClear_fault (s := popFrame s p) (p := p) hst
      obtain ⟨hnotices, hreply, hlines⟩ := outcome_told hrun hmoved.told hlt
      have heq := outcome_eq hrun
      have hself : (outcome gateFaultClearCommand s p g).gate g = (clearMove (popFrame s p) g).gate := by
        rw [heq]; exact hmoved.self
      obtain ⟨ha, hc, hpos, hlever, hup, hrow⟩ := cleared_row (s := popFrame s p) (t := outcome gateFaultClearCommand s p g)
        hself (by rw [heq]; exact hmoved.field)
      refine ⟨_, rfl, ha, hc, hpos, hlever, hup, hrow, gateTells_of (cause := .faultClear) ?_ ?_ fun _ => rfl, ?_,
        fun y hy => ?_, ?_, hlines,
        outcome_changesOnly ((leaves_run .gateFaultClear (popFrame s p) p g).changesOnly (by decide)) (by decide)⟩
      · rw [hself, heq]; exact hmoved.deliveries
      · rw [hself]; exact hnotices
      · have hdata : (gateEvent (popFrame s p) g (clearMove (popFrame s p) g) .faultClear).gate g =
          (outcome gateFaultClearCommand s p g).gate g := hmoved.self.trans hself.symm
        rw [hdata] at hreply
        exact hreply
      · rw [heq]; exact hmoved.other y hy
      · rw [heq]; exact hmoved.startLimit
    · next hst =>
      rw [outcome_answered (runGateFaultClear_refused (s := popFrame s p) (p := p) hst)]
      rfl

end Sys2Proof.Machine

/-! PROOF. The corridor table (chapter 03): what one event leaves of its segments, delivers in the order of one
event and tells (R55, R56, R66, R138, R149); CLAIM, RELEASE, FORCE RELEASE and RESTART CONFIRM (R46–R50). -/

namespace Sys2Proof.Machine

set_option Elab.async false

open Sys2Proof

/-! ## One event at a segment (R36, R55, R66) -/

/-- What a move delivers: gate requests, closure demands and placeholder changes. -/
def segDeliveries (s : State) (i : Nat) (m : Move) : List Instr :=
  m.reqs ++ closureDeliveries s i (s.seg i).state m.seg.state ++ stampDeliveries s i (s.seg i).state m.seg.state

/-- The notice of a segment record. -/
def recordTold (i : Nat) (cause : SegCause) (g : Segment) : Nat × NoticeBody :=
  (i, .segment g.state cause g.revision g.barrierFault none)

/-- What one event leaves of a segment and the rest of the table. -/
structure SegActed (m : Move) (cause : SegCause) (lock : Bool) (i : Nat) (s t : State) : Prop where
  seg : ∀ k, t.seg k = if k = i then revised (s.seg i) m.seg else s.seg k
  surround : SameSurround s t
  size : t.segments.length = s.segments.length
  deliveries : t.deliveries = s.deliveries ++ segDeliveries s i m
  told : Told (if revisionChange (s.seg i) m.seg || lock then
    [recordTold i cause (revised (s.seg i) m.seg)] else []) s t

theorem segEvent_acted {s : State} {i : Nat} (m : Move) (cause : SegCause) (lock : Bool)
    (hi : i < s.segments.length) : SegActed m cause lock i s (segEvent s i m cause lock) := by
  have hself := segEvent_seg s i i m cause lock hi
  rw [if_pos rfl] at hself
  refine ⟨fun k => segEvent_seg s i k m cause lock hi, sameSurround_of_leaves (leaves_segEvent ..), ?_, ?_, ?_⟩
  · unfold segEvent segNotice
    dsimp only
    split <;> exact List.length_set
  · unfold segEvent segNotice
    dsimp only
    split <;> rfl
  · have htold : segTold (segEvent s i m cause lock) i cause = recordTold i cause (revised (s.seg i) m.seg) := by
      rw [segTold, hself]
      rfl
    rw [← htold]
    unfold segEvent
    dsimp only
    split
    · exact (told_segNotice _ i cause).before rfl rfl
    · exact told_of_ports rfl

theorem segments_sized {s : State} {i : Nat} (ht : TablesOk s) (hi : i < 12) : i < s.segments.length := by
  obtain ⟨-, -, -, -, hseg, -⟩ := ht
  omega

theorem revised_eq (old new : Segment) : ∃ r, revised old new = { new with revision := r } := by
  unfold revised
  split
  · exact ⟨_, rfl⟩
  · exact ⟨new.revision, rfl⟩

theorem revisionChange_same (g : Segment) : revisionChange g g = false := by
  simp [revisionChange]

theorem revised_same (g : Segment) : revised g g = g := by
  rw [revised, revisionChange_same]
  rfl

theorem stampDeliveries_same (s : State) (i : Nat) (st : SegState) : stampDeliveries s i st st = [] := by
  cases st <;> rfl

theorem closureDeliveries_same (s : State) (i : Nat) (st : SegState) : closureDeliveries s i st st = [] := by
  cases st <;> rfl

theorem segDeliveries_congr {s t : State} {i : Nat} (h : SameSurround s t) (hseg : t.seg i = s.seg i) (m : Move) :
    segDeliveries t i m = segDeliveries s i m := by
  simp only [segDeliveries, closureDeliveries, stampDeliveries, hseg, State.image, h.loader]

/-- An event that leaves its segment as it is. -/
theorem segActed_refl (s : State) (i : Nat) (cause : SegCause) : SegActed (.still (s.seg i)) cause false i s s := by
  refine ⟨fun k => ?_, sameSurround_refl s, rfl, ?_, ?_⟩
  · split
    · next h => rw [h, Move.still, revised_same]
    · rfl
  · simp [segDeliveries, Move.still, stampDeliveries_same, closureDeliveries_same]
  · simp only [Move.still, revisionChange_same, Bool.or_false, Bool.false_eq_true, if_false]
    exact told_refl s

/-! ## One event at several segments -/

/-- What one event leaves of the segments of a list, each with its move. -/
structure SegsActed (m : Nat → Move) (cause : SegCause) (segs : List Nat) (s t : State) : Prop where
  seg : ∀ k, t.seg k = if k ∈ segs then revised (s.seg k) (m k).seg else s.seg k
  surround : SameSurround s t
  size : t.segments.length = s.segments.length
  deliveries : t.deliveries = s.deliveries ++ segs.flatMap fun i => segDeliveries s i (m i)
  told : Told (segs.flatMap fun i => if revisionChange (s.seg i) (m i).seg then
    [recordTold i cause (revised (s.seg i) (m i).seg)] else []) s t

theorem segsActed_nil (m : Nat → Move) (cause : SegCause) (s : State) : SegsActed m cause [] s s :=
  ⟨fun _ => (if_neg List.not_mem_nil).symm, sameSurround_refl s, rfl, (List.append_nil _).symm, told_refl s⟩

theorem SegsActed.next {m : Nat → Move} {cause : SegCause} {segs : List Nat} {s t u : State} {i : Nat}
    (h : SegsActed m cause segs s t) (hnew : i ∉ segs) (k : SegActed (m i) cause false i t u) :
    SegsActed m cause (segs ++ [i]) s u := by
  have hseg : t.seg i = s.seg i := by rw [h.seg, if_neg hnew]
  have htold := k.told
  have hdel := k.deliveries
  rw [hseg, Bool.or_false] at htold
  rw [segDeliveries_congr h.surround hseg] at hdel
  refine ⟨fun j => ?_, h.surround.trans k.surround, k.size.trans h.size, ?_, ?_⟩
  · have hmem : j ∈ segs ++ [i] ↔ j ∈ segs ∨ j = i := by rw [List.mem_append, List.mem_singleton]
    rw [k.seg, if_congr hmem rfl rfl]
    by_cases hj : j = i
    · subst hj
      rw [if_pos rfl, if_pos (.inr rfl), hseg]
    · rw [if_neg hj, h.seg]
      exact if_congr (by simp [hj]) rfl rfl
  · rw [hdel, h.deliveries]
    simp
  · rw [List.flatMap_append]
    simpa using h.told.trans htold (congrArg Clock.seconds h.surround.clock)

/-- A fold of one event over a list of segments. -/
theorem segsActed_foldl {f : State → Nat → State} {m : Nat → Move} {cause : SegCause} {s : State} (segs : List Nat)
    (hnd : segs.Nodup) (hlt : ∀ i ∈ segs, i < s.segments.length)
    (hf : ∀ t i, i < t.segments.length → SameSurround s t → t.seg i = s.seg i →
      SegActed (m i) cause false i t (f t i)) :
    SegsActed m cause segs s (segs.foldl f s) := by
  induction segs using List.reverseRecOn with
  | nil => exact segsActed_nil m cause s
  | append_singleton segs i ih =>
    obtain ⟨hnd, -, hdisj⟩ := List.nodup_append.1 hnd
    rw [List.foldl_concat]
    have hnew : i ∉ segs := fun h => hdisj i h i (List.mem_singleton_self i) rfl
    have h := ih hnd fun k hk => hlt k (List.mem_append_left _ hk)
    exact h.next hnew (hf _ i (h.size ▸ hlt i (by simp)) h.surround (by rw [h.seg, if_neg hnew]))

/-! ## Gate requests of a move (R56) -/

/-- A move gives the gate requests of its transition and leaves the count of revisions to the event. -/
structure MoveSound (s : State) (i : Nat) (m : Move) : Prop where
  reqs : m.reqs = gateRequests s i (s.seg i).state m.seg.state
  revision : m.seg.revision = (s.seg i).revision

theorem gateRequests_same (s : State) (i : Nat) (st : SegState) : gateRequests s i st st = [] := by
  cases st <;> simp [gateRequests]

theorem enterLowering_state (s : State) (i : Nat) (g : Segment) :
    (enterLowering s i g).seg.state = if loweringDone s i then .closed else .lowering := by
  unfold enterLowering
  dsimp only
  split <;> rfl

theorem enterRaising_state (s : State) (i : Nat) (g : Segment) :
    (enterRaising s i g).seg.state = if raisingDone s i then .opened else .raising := by
  unfold enterRaising
  dsimp only
  split <;> rfl

theorem shorten_state (s : State) (g : Segment) : (shorten s g).state = g.state := by
  unfold shorten
  split <;> rfl

theorem enterLowering_reqs {s : State} {i : Nat} {g : Segment} {old : SegState} (h : old = .prewarn ∨ old = .raising) :
    (enterLowering s i g).reqs = gateRequests s i old (enterLowering s i g).seg.state := by
  have hnew : (enterLowering s i g).seg.state = .lowering ∨ (enterLowering s i g).seg.state = .closed := by
    rw [enterLowering_state]
    split <;> simp
  rw [gateRequests, if_pos ⟨h, hnew⟩]
  simp only [enterLowering, lowerRequests, bne, beq_eq_decide, decide_not]

theorem enterRaising_reqs {s : State} {i : Nat} {g : Segment} {old : SegState} (h : old = .lowering ∨ old = .closed) :
    (enterRaising s i g).reqs = gateRequests s i old (enterRaising s i g).seg.state := by
  have hnew : (enterRaising s i g).seg.state = .raising ∨ (enterRaising s i g).seg.state = .opened := by
    rw [enterRaising_state]
    split <;> simp
  have hno : ¬(old = .prewarn ∨ old = .raising) := by rcases h with h | h <;> simp [h]
  rw [gateRequests, if_neg fun hc => hno hc.1, if_pos ⟨h, hnew⟩]
  simp only [enterRaising, raiseRequests, bne, beq_eq_decide, decide_not]

theorem still_reqs {s : State} {i : Nat} {g : Segment} {old : SegState} (h : gateRequests s i old g.state = []) :
    (Move.still g).reqs = gateRequests s i old (Move.still g).seg.state := h.symm

/-- Every move of the sequencer. -/
theorem SegMove.sound {s : State} {i : Nat} {m : Move} (h : SegMove s i m) : MoveSound s i m := by
  refine ⟨?_, h.revision⟩
  have hstill : ∀ g : Segment, g.state = (s.seg i).state →
      (Move.still g).reqs = gateRequests s i (s.seg i).state (Move.still g).seg.state := fun g hg =>
    still_reqs (by rw [hg]; exact gateRequests_same s i _)
  have hopened : ∀ g : Segment, (s.seg i).state = .prewarn → g.state = .opened →
      (Move.still g).reqs = gateRequests s i (s.seg i).state (Move.still g).seg.state := fun g ho hg =>
    still_reqs (by simp [hg, ho, gateRequests])
  cases h with
  | joins src k im hn =>
    unfold claimJoins
    split
    · next hst =>
      have hst : (s.seg i).state = .opened := hst
      split
      · exact still_reqs (by simp [hst, gateRequests])
      · exact hstill _ rfl
    · split
      · exact hstill _ (shorten_state s _)
      · exact hstill _ rfl
    · exact hstill _ rfl
    · exact hstill _ rfl
    · next hst =>
      split
      · exact enterLowering_reqs (.inr hst)
      · exact hstill _ rfl
  | renewed src k k' im hk =>
    split
    · exact hstill _ (shorten_state s _)
    · exact hstill _ rfl
  | leaves src hk =>
    split
    · unfold setEmptied
      split
      · exact hstill _ rfl
      · exact hstill _ rfl
      · next hst =>
        split
        · exact hstill _ rfl
        · exact hopened _ hst rfl
      · next hst =>
        split
        · exact hstill _ rfl
        · exact enterRaising_reqs (.inl hst)
      · next hst =>
        split
        · exact hstill _ rfl
        · exact enterRaising_reqs (.inr hst)
    · exact hstill _ rfl
  | cleared z ends he =>
    unfold clearanceMove
    split
    · split
      · split
        · exact hstill _ rfl
        · exact hstill _ rfl
      · split
        · next hst => exact hopened _ hst rfl
        · next hst => exact enterRaising_reqs (.inl hst)
        · next hst => exact enterRaising_reqs (.inr hst)
        · exact hstill _ rfl
        · exact hstill _ rfl
    · exact hstill _ rfl
  | locked =>
    split
    · next hst => exact enterLowering_reqs (.inr (by simpa using hst))
    · exact hstill _ rfl
  | dwelled hd => exact enterLowering_reqs (.inl hd)
  | gatesDown hd => exact still_reqs (by simp [hd, gateRequests, enterClosed])
  | gatesUp hd => exact still_reqs (by simp [hd, gateRequests, enterOpen])

theorem moveSound_still (s : State) (i : Nat) : MoveSound s i (.still (s.seg i)) :=
  ⟨still_reqs (gateRequests_same s i _), rfl⟩

/-! ## What one event delivers, in its order (R138) -/

theorem sameForm_iff (img : Image) (a b : SegState) : sameForm a b = true ↔ closureForm img a = closureForm img b := by
  cases a <;> cases b <;> simp [sameForm, closureForm]

theorem filter_eq_and {l : List Nat} (hnd : l.Nodup) (n : Nat) (c : Nat → Bool) :
    l.filter (fun k => k == n && c k) = if n ∈ l ∧ c n = true then [n] else [] := by
  induction l with
  | nil => simp
  | cons x l ih =>
    obtain ⟨hx, hnd⟩ := List.nodup_cons.1 hnd
    rw [List.filter_cons, ih hnd]
    by_cases hxn : x = n
    · subst hxn
      by_cases hc : c x = true <;> simp [hx, hc]
    · have hnx : ¬n = x := fun h => hxn h.symm
      simp [hxn, hnx]

/-- The gate requests of a transition are neither internal deliveries nor placeholder changes. -/
theorem gateRequests_plain (s : State) (i : Nat) (old new : SegState) :
    ∀ c ∈ gateRequests s i old new, deliveredSign c = none ∧ isPlaceholder c = false := by
  intro c hc
  unfold gateRequests at hc
  split at hc
  · obtain ⟨g, -, rfl⟩ := List.mem_map.1 hc
    exact ⟨rfl, rfl⟩
  · split at hc
    · obtain ⟨g, -, rfl⟩ := List.mem_map.1 hc
      exact ⟨rfl, rfl⟩
    · exact absurd hc List.not_mem_nil

theorem stampDeliveries_eq (s : State) (i : Nat) (old new : SegState) : stampDeliveries s i old new =
    if new = .closed ∧ old ≠ .closed then (signList s.image i).map Instr.placeholderChange else [] := by
  simp [stampDeliveries]

theorem stampDeliveries_placeholder (s : State) (i : Nat) (old new : SegState) :
    ∀ c ∈ stampDeliveries s i old new, deliveredSign c = none ∧ isPlaceholder c = true := by
  intro c hc
  rw [stampDeliveries_eq] at hc
  split at hc
  · obtain ⟨g, -, rfl⟩ := List.mem_map.1 hc
    exact ⟨rfl, rfl⟩
  · exact absurd hc List.not_mem_nil

theorem closureDeliveries_internal (s : State) (i : Nat) (old new : SegState) :
    ∀ c ∈ closureDeliveries s i old new, (deliveredSign c).isSome = true ∧ isPlaceholder c = false := by
  intro c hc
  unfold closureDeliveries at hc
  split at hc
  · exact absurd hc List.not_mem_nil
  · obtain ⟨g, -, rfl⟩ := List.mem_map.1 hc
    exact ⟨rfl, rfl⟩

/-- The closure demand that a transition gives one sign. -/
theorem closureDeliveries_sign (s : State) (i : Nat) (old new : SegState) {n : Nat} (hn : n < 24) :
    (closureDeliveries s i old new).filter (fun c => deliveredSign c == some n) =
      if i == (imageSign s.image n).segment && !sameForm old new then
        [Instr.internalDelivery n .closure (closureForm s.image new)] else [] := by
  unfold closureDeliveries
  by_cases hf : sameForm old new = true
  · simp [hf]
  · have hfilter := filter_eq_and (l := List.range 24) List.nodup_range n fun k => (imageSign s.image k).segment == i
    rw [if_neg hf, List.filter_map, signList, List.filter_filter]
    have hpred : (fun k => ((fun c => deliveredSign c == some n) ∘
        fun n => Instr.internalDelivery n .closure (closureContent s.image new)) k &&
        (imageSign s.image k).segment == i) = fun k => k == n && (imageSign s.image k).segment == i := by
      funext k
      simp [deliveredSign]
    rw [hpred, hfilter, closureForm_eq]
    by_cases hi : (imageSign s.image n).segment = i
    · simp [hi, hn, hf]
    · have hi' : ¬i = (imageSign s.image n).segment := fun h => hi h.symm
      simp [hi, hi']

theorem filter_eq_nil_of {l : List Instr} {p : Instr → Bool} (h : ∀ c ∈ l, p c = false) : l.filter p = [] :=
  List.filter_eq_nil_iff.2 fun c hc => by simp [h c hc]

theorem filter_eq_self_of {l : List Instr} {p : Instr → Bool} (h : ∀ c ∈ l, p c = true) : l.filter p = l :=
  List.filter_eq_self.2 h

/-- What one event at several segments delivers stands in the order of one event. -/
theorem inEventOrder_segDeliveries {s : State} {m : Nat → Move} {segs : List Nat} (hnd : segs.Nodup)
    (hm : ∀ i ∈ segs, MoveSound s i (m i)) :
    inEventOrder (segs.flatMap fun i => segDeliveries s i (m i)) =
      (segs.flatMap fun i => gateRequests s i (s.seg i).state (m i).seg.state) ++
      ((List.range 24).flatMap fun n =>
        if (imageSign s.image n).segment ∈ segs ∧
            (!sameForm (s.seg (imageSign s.image n).segment).state (m (imageSign s.image n).segment).seg.state) = true then
          [Instr.internalDelivery n .closure
            (closureForm s.image (m (imageSign s.image n).segment).seg.state)] else []) ++
      segs.flatMap fun i => stampDeliveries s i (s.seg i).state (m i).seg.state := by
  have hplain := fun i => gateRequests_plain s i (s.seg i).state (m i).seg.state
  have hstamp := fun i => stampDeliveries_placeholder s i (s.seg i).state (m i).seg.state
  have hclosure := fun i => closureDeliveries_internal s i (s.seg i).state (m i).seg.state
  rw [inEventOrder, bySign]
  congr 1
  · congr 1
    · rw [List.filter_flatMap]
      refine List.flatMap_congr fun i hi => ?_
      rw [segDeliveries, (hm i hi).reqs, List.filter_append, List.filter_append,
        filter_eq_self_of fun c hc => by simp [hplain i c hc],
        filter_eq_nil_of (l := closureDeliveries ..) fun c hc => by simp [hclosure i c hc],
        filter_eq_nil_of (l := stampDeliveries ..) fun c hc => by simp [hstamp i c hc]]
      simp
    · refine List.flatMap_congr fun n hn => ?_
      rw [List.filter_flatMap]
      have hone : ∀ i ∈ segs, (segDeliveries s i (m i)).filter (fun c => deliveredSign c == some n) =
          if i == (imageSign s.image n).segment && !sameForm (s.seg i).state (m i).seg.state then
            [Instr.internalDelivery n .closure (closureForm s.image (m i).seg.state)] else [] := fun i hi => by
        rw [segDeliveries, (hm i hi).reqs, List.filter_append, List.filter_append,
          filter_eq_nil_of (l := gateRequests ..) fun c hc => by simp [hplain i c hc],
          closureDeliveries_sign s i _ _ (List.mem_range.1 hn),
          filter_eq_nil_of (l := stampDeliveries ..) fun c hc => by simp [hstamp i c hc]]
        simp
      rw [List.flatMap_congr hone, flatMap_ite_eq,
        filter_eq_and hnd _ fun i => !sameForm (s.seg i).state (m i).seg.state]
      split <;> rfl
  · rw [List.filter_flatMap]
    refine List.flatMap_congr fun i hi => ?_
    rw [segDeliveries, (hm i hi).reqs, List.filter_append, List.filter_append,
      filter_eq_nil_of (l := gateRequests ..) fun c hc => by simp [hplain i c hc],
      filter_eq_nil_of (l := closureDeliveries ..) fun c hc => by simp [hclosure i c hc],
      filter_eq_self_of fun c hc => by simp [hstamp i c hc]]
    simp

theorem revised_state (old new : Segment) : (revised old new).state = new.state := by
  obtain ⟨r, h⟩ := revised_eq old new
  rw [h]

/-- Deliveries in the order of one event are those that R66 and R149 ask for. -/
theorem closuresFollow_of {m : Nat → Move} {segs : List Nat} {before : List Instr} {s t : State} (hnd : segs.Nodup)
    (hm : ∀ i ∈ segs, MoveSound s i (m i))
    (hseg : ∀ k, t.seg k = if k ∈ segs then revised (s.seg k) (m k).seg else s.seg k)
    (hdel : t.deliveries = before ++ inEventOrder (segs.flatMap fun i => segDeliveries s i (m i))) :
    ClosuresFollow before segs s t := by
  have hstate : ∀ i ∈ segs, (t.seg i).state = (m i).seg.state := fun i hi => by
    rw [hseg, if_pos hi, revised_state]
  rw [ClosuresFollow, hdel, inEventOrder_segDeliveries hnd hm, ← List.append_assoc, ← List.append_assoc]
  congr 1
  · congr 1
    · congr 1
      exact List.flatMap_congr fun i hi => by rw [hstate i hi]
    · rw [List.filterMap_eq_flatMap_toList]
      refine List.flatMap_congr fun n _ => ?_
      dsimp only
      by_cases hi : (imageSign s.image n).segment ∈ segs
      · rw [hstate _ hi]
        by_cases hf : closureForm s.image (s.seg (imageSign s.image n).segment).state =
            closureForm s.image (m (imageSign s.image n).segment).seg.state
        · rw [if_pos hf, (sameForm_iff s.image _ _).2 hf, if_neg (by simp)]
          rfl
        · have hf' := fun h => hf ((sameForm_iff s.image _ _).1 h)
          rw [if_neg hf, if_pos ⟨hi, by simpa using hf'⟩]
          rfl
      · rw [if_neg fun h => hi h.1, hseg, if_neg hi, if_pos rfl]
        rfl
  · refine List.flatMap_congr fun i hi => ?_
    rw [hstate i hi, stampDeliveries_eq]

/-- What one event at one segment delivers is in order already. -/
theorem inEventOrder_one {s : State} {i : Nat} {m : Move} (hm : MoveSound s i m) :
    inEventOrder (segDeliveries s i m) = segDeliveries s i m := by
  have h := inEventOrder_segDeliveries (s := s) (m := fun _ => m) (List.nodup_singleton i)
    (fun j hj => List.mem_singleton.1 hj ▸ hm)
  simp only [List.flatMap_singleton] at h
  rw [h, segDeliveries, hm.reqs]
  congr 2
  unfold closureDeliveries
  by_cases hf : sameForm (s.seg i).state m.seg.state = true
  · rw [if_pos hf]
    refine List.flatMap_eq_nil_iff.2 fun n _ => ?_
    by_cases hn : (imageSign s.image n).segment = i
    · rw [hn, hf, if_neg (by simp)]
    · rw [if_neg fun h => hn (List.mem_singleton.1 h.1)]
  · rw [if_neg hf, signList, ← closureForm_eq, ← flatMap_ite_eq]
    refine List.flatMap_congr fun n _ => ?_
    by_cases hn : (imageSign s.image n).segment = i
    · rw [hn, if_pos ⟨List.mem_singleton_self i, by simpa using hf⟩, if_pos (beq_self_eq_true i)]
    · rw [if_neg fun h => hn (List.mem_singleton.1 h.1), if_neg (by simpa using hn)]

theorem SegActed.closures {m : Move} {cause : SegCause} {lock : Bool} {i : Nat} {s t : State}
    (h : SegActed m cause lock i s t) (hm : MoveSound s i m) : ClosuresFollow s.deliveries [i] s t := by
  refine closuresFollow_of (m := fun _ => m) (List.nodup_singleton i) (fun j hj => List.mem_singleton.1 hj ▸ hm)
    (fun k => ?_) ?_
  · rw [h.seg, if_congr List.mem_singleton rfl rfl]
    split
    · next hk => rw [hk]
    · rfl
  · rw [h.deliveries, List.flatMap_singleton, inEventOrder_one hm]

/-! ## The notices of changed revisions (R55) -/

theorem revised_revision {old new : Segment} (h : new.revision = old.revision) :
    (revised old new).revision = old.revision ↔ revisionChange old new = false := by
  unfold revised
  by_cases hc : revisionChange old new = true
  · simp [hc]
  · simp [hc, h]

theorem told_changed {s t : State} {m : Nat → Move} {cause : SegCause} {segs : List Nat}
    (hm : ∀ i ∈ segs, MoveSound s i (m i)) (hself : ∀ i ∈ segs, t.seg i = revised (s.seg i) (m i).seg) :
    (segs.flatMap fun i => if revisionChange (s.seg i) (m i).seg then
      [recordTold i cause (revised (s.seg i) (m i).seg)] else []) =
    segs.filterMap fun i => if (t.seg i).revision = (s.seg i).revision then none
      else some (i, .segment (t.seg i).state cause (t.seg i).revision (t.seg i).barrierFault none) := by
  rw [List.filterMap_eq_flatMap_toList]
  refine List.flatMap_congr fun i hi => ?_
  rw [hself i hi]
  by_cases hc : revisionChange (s.seg i) (m i).seg = true
  · rw [if_pos hc, if_neg fun h => by simp [(revised_revision (hm i hi).revision).1 h] at hc]
    rfl
  · rw [if_neg hc, if_pos ((revised_revision (hm i hi).revision).2 (by simpa using hc))]
    rfl

/-- What an accepted command at several segments leaves, delivers and tells. -/
theorem outcome_segsActed {α : Type} {c : Command α} {s : State} {p : Nat} {a : α} {m : Nat → Move} {cause : SegCause}
    {segs : List Nat} {code : Result} {data : List Byte} {u : State} (hnd : segs.Nodup)
    (hm : ∀ i ∈ segs, MoveSound s i (m i))
    (hrun : c.run (popFrame s p) p a = { code, data, state := (popFrame s p).gathered u })
    (hacted : SegsActed m cause segs (popFrame s p) u) (hp : p < s.ports.length) :
    (∀ k, (outcome c s p a).seg k = if k ∈ segs then revised (s.seg k) (m k).seg else s.seg k) ∧
      Replied p c.kind code data s (outcome c s p a) ∧ ClosuresFollow s.deliveries segs s (outcome c s p a) ∧
      SegmentsTold segs cause s (outcome c s p a) ∧ LinesKept s (outcome c s p a) := by
  have htold : Told (segs.flatMap fun i => if revisionChange (s.seg i) (m i).seg then
      [recordTold i cause (revised (s.seg i) (m i).seg)] else []) (popFrame s p) ((popFrame s p).gathered u) :=
    hacted.told.after rfl
  obtain ⟨hnotices, hreply, hlines⟩ := outcome_told hrun htold hp
  have heq := outcome_eq hrun
  have hseg : ∀ k, (outcome c s p a).seg k = if k ∈ segs then revised (s.seg k) (m k).seg else s.seg k := fun k => by
    rw [heq]
    exact hacted.seg k
  refine ⟨hseg, hreply, closuresFollow_of hnd hm hseg ?_, ?_, hlines⟩
  · have hdel : u.deliveries.drop (popFrame s p).deliveries.length = segs.flatMap fun i => segDeliveries s i (m i) := by
      rw [hacted.deliveries, List.drop_left]
      rfl
    rw [heq]
    show (popFrame s p).deliveries ++ inEventOrder (u.deliveries.drop (popFrame s p).deliveries.length) = _
    rw [hdel]
    rfl
  · rw [told_changed (cause := cause) hm fun i hi => (hseg i).trans (if_pos hi)] at hnotices
    exact hnotices

/-! ## What the moves leave of a segment -/

theorem entersClosed_of {s t : State} {i : Nat} {old g : Segment}
    (h : t.seg i = revised old (enterClosed s i g)) : EntersClosed s t i := by
  obtain ⟨r, hr⟩ := revised_eq old (enterClosed s i g)
  have hbar : (enterClosed s i g).barrierFault = true ↔ ∃ y ∈ gateList s.image i, (s.gate y).state = .fault ∨
      (s.gate y).state = .offline ∧ (s.gate y).position ≠ some .down := by
    simp only [enterClosed, barrierDecided, List.any_eq_true]
    refine exists_congr fun y => and_congr_right fun _ => ?_
    unfold Gate.breaksBarrier
    cases (s.gate y).state <;> simp
  rw [EntersClosed, h, hr]
  exact ⟨rfl, rfl, hbar, rfl, Iff.rfl⟩

theorem turnsDown_of {s t : State} {i : Nat} {old g : Segment}
    (h : t.seg i = revised old (enterLowering s i g).seg) (hbar : g.barrierFault = (s.seg i).barrierFault)
    (hstamp : g.stamp = (s.seg i).stamp) : TurnsDown s t i := by
  unfold TurnsDown
  by_cases hd : loweringDone s i = true
  · rw [enterLowering, if_pos hd] at h
    rw [if_pos hd]
    exact entersClosed_of h
  · rw [enterLowering, if_neg hd] at h
    obtain ⟨r, hr⟩ := revised_eq old { g with state := .lowering, dwell := none, reopenPending := false }
    rw [if_neg hd, h, hr]
    exact ⟨rfl, rfl, rfl, hbar, hstamp⟩

theorem enterLowering_claims (s : State) (i : Nat) (g : Segment) :
    (enterLowering s i g).seg.claims = g.claims ∧ (enterLowering s i g).seg.zoneLock = g.zoneLock := by
  unfold enterLowering
  dsimp only
  split <;> exact ⟨rfl, rfl⟩

theorem enterRaising_claims (s : State) (i : Nat) (g : Segment) :
    (enterRaising s i g).seg.claims = g.claims ∧ (enterRaising s i g).seg.zoneLock = g.zoneLock := by
  unfold enterRaising
  dsimp only
  split <;> exact ⟨rfl, rfl⟩

theorem shorten_fields (s : State) (g : Segment) : (shorten s g).claims = g.claims ∧
    (shorten s g).zoneLock = g.zoneLock ∧ (shorten s g).reopenPending = g.reopenPending ∧
    (shorten s g).barrierFault = g.barrierFault ∧ (shorten s g).stamp = g.stamp ∧
    (shorten s g).dwell = if g.state = .prewarn then g.dwell.map (min · s.image.minDwell) else g.dwell := by
  unfold shorten
  by_cases h : g.state = .prewarn <;> simp [h]

theorem claimJoins_claims (s : State) (i : Nat) (was g : Segment) (im : Bool) :
    (claimJoins s i was g im).seg.claims = g.claims ∧ (claimJoins s i was g im).seg.zoneLock = g.zoneLock := by
  obtain ⟨hclaims, hlock, -⟩ := shorten_fields s g
  unfold claimJoins
  split
  · split <;> exact ⟨rfl, rfl⟩
  · cases im
    · exact ⟨rfl, rfl⟩
    · exact ⟨hclaims, hlock⟩
  · exact ⟨rfl, rfl⟩
  · exact ⟨rfl, rfl⟩
  · split
    · exact enterLowering_claims s i g
    · exact ⟨rfl, rfl⟩

theorem revised_claims (old new : Segment) : (revised old new).claims = new.claims ∧
    (revised old new).zoneLock = new.zoneLock := by
  obtain ⟨r, h⟩ := revised_eq old new
  rw [h]
  exact ⟨rfl, rfl⟩

/-- A segment whose record changed but for the dwell, the reopen mark, claims and lock. -/
theorem staysDown_of {s t : State} {i : Nat} {g : Segment} {im : Bool} (h : t.seg i = revised (s.seg i) g)
    (hst : g.state = (s.seg i).state) (hdwell : g.dwell = if (s.seg i).state = .prewarn ∧ im = true then
      (s.seg i).dwell.map (min · s.image.minDwell) else (s.seg i).dwell)
    (hreopen : g.reopenPending = false) (hbar : g.barrierFault = (s.seg i).barrierFault)
    (hstamp : g.stamp = (s.seg i).stamp) : StaysDown s t i im := by
  obtain ⟨r, hr⟩ := revised_eq (s.seg i) g
  rw [StaysDown, h, hr]
  exact ⟨hst, hdwell, hreopen, hbar, hstamp⟩

/-- The record `shorten` leaves where the new claim is immediate. -/
theorem staysDown_shorten {s t : State} {i : Nat} {c : ClaimSet} {im : Bool}
    (h : t.seg i = revised (s.seg i) (if im then shorten s { s.seg i with claims := c } else { s.seg i with claims := c }))
    (hreopen : (s.seg i).reopenPending = false) : StaysDown s t i im := by
  obtain ⟨-, -, hre, hbar, hstamp, hdwell⟩ := shorten_fields s { s.seg i with claims := c }
  have hst := shorten_state s { s.seg i with claims := c }
  cases im with
  | false => exact staysDown_of h rfl (by simp) hreopen rfl rfl
  | true => exact staysDown_of h hst (by simpa using hdwell) (hre.trans hreopen) hbar hstamp

/-- What a joining claim leaves of a consistent segment (R57, R58, R62, R63). -/
theorem claimJoins_row {s t : State} {i : Nat} {c : ClaimSet} {im : Bool} (hok : (s.seg i).ok)
    (h : t.seg i = revised (s.seg i) (claimJoins s i (s.seg i) { s.seg i with claims := c } im).seg) :
    match (s.seg i).state with
    | .opened => (t.seg i).state = .prewarn ∧
      (t.seg i).dwell = some (if im then s.image.minDwell else s.image.preWarning) ∧
      (t.seg i).reopenPending = false ∧ (t.seg i).barrierFault = (s.seg i).barrierFault ∧
      (t.seg i).stamp = (s.seg i).stamp
    | .raising => TurnsDown s t i
    | .prewarn | .lowering | .closed => StaysDown s t i im := by
  obtain ⟨-, -, hempty, -, hreopen, -⟩ := hok
  have hre : (s.seg i).state ≠ .closed → (s.seg i).reopenPending = false := fun hne => by
    simpa [hne] using hreopen
  cases hst : (s.seg i).state with
  | opened =>
    have hmove : (claimJoins s i (s.seg i) { s.seg i with claims := c } im).seg =
        { s.seg i with claims := c, state := .prewarn,
                       dwell := some (if im then s.image.minDwell else s.image.preWarning) } := by
      simp [claimJoins, hst, hempty (.inl hst), Move.still]
    rw [hmove] at h
    obtain ⟨r, hr⟩ := revised_eq (s.seg i) { s.seg i with
      claims := c, state := .prewarn, dwell := some (if im then s.image.minDwell else s.image.preWarning) }
    have hre := hre (by simp [hst])
    dsimp only
    rw [h, hr]
    exact ⟨rfl, rfl, hre, rfl, rfl⟩
  | prewarn =>
    have hmove : (claimJoins s i (s.seg i) { s.seg i with claims := c } im).seg =
        if im then shorten s { s.seg i with claims := c } else { s.seg i with claims := c } := by
      simp [claimJoins, hst, Move.still]
    exact staysDown_shorten (hmove ▸ h) (hre (by simp [hst]))
  | lowering =>
    have hmove : (claimJoins s i (s.seg i) { s.seg i with claims := c } im).seg = { s.seg i with claims := c } := by
      simp [claimJoins, hst, Move.still]
    rw [hmove] at h
    exact staysDown_of h rfl (by simp [hst]) (hre (by simp [hst])) rfl rfl
  | closed =>
    have hmove : (claimJoins s i (s.seg i) { s.seg i with claims := c } im).seg =
        { s.seg i with claims := c, reopenPending := false } := by simp [claimJoins, hst, Move.still]
    rw [hmove] at h
    exact staysDown_of h rfl (by simp [hst]) rfl rfl rfl
  | raising =>
    have hmove : (claimJoins s i (s.seg i) { s.seg i with claims := c } im).seg =
        (enterLowering s i { s.seg i with claims := c }).seg := by
      simp [claimJoins, hst, hempty (.inr hst)]
    rw [hmove] at h
    exact turnsDown_of h rfl rfl

/-- What a renewed claim leaves of a consistent segment. -/
theorem renewed_row {s t : State} {i : Nat} {c : ClaimSet} {im : Bool} (hok : (s.seg i).ok)
    (hclaims : (s.seg i).claims.isEmpty = false)
    (h : t.seg i = revised (s.seg i) (if im then shorten s { s.seg i with claims := c } else { s.seg i with claims := c })) :
    match (s.seg i).state with
    | .opened => (t.seg i).state = .prewarn ∧
      (t.seg i).dwell = some (if im then s.image.minDwell else s.image.preWarning) ∧
      (t.seg i).reopenPending = false ∧ (t.seg i).barrierFault = (s.seg i).barrierFault ∧
      (t.seg i).stamp = (s.seg i).stamp
    | .raising => TurnsDown s t i
    | .prewarn | .lowering | .closed => StaysDown s t i im := by
  obtain ⟨-, -, hempty, -, hreopen, -⟩ := hok
  rw [hclaims] at hempty hreopen
  have hstays := staysDown_shorten h (by simpa using hreopen)
  cases hst : (s.seg i).state with
  | opened => simp [hst] at hempty
  | raising => simp [hst] at hempty
  | _ => exact hstays

/-! ## CLAIM (R46, R47) -/

/-- The move of a CLAIM at one of its segments. -/
def claimMove (s : State) (src : ClaimSource) (reason : Nat) (im : Bool) (i : Nat) : Move :=
  match (s.seg i).claims.get src with
  | none => claimJoins s i (s.seg i) { s.seg i with
      claims := (s.seg i).claims.put src (some { reason, placedAt := s.clock.seconds, immediate := im, zones := [] }) } im
  | some k =>
    Move.still (if im then
      shorten s { s.seg i with
        claims := (s.seg i).claims.put src (some { k with reason := reason, immediate := k.immediate || im }) }
    else { s.seg i with
        claims := (s.seg i).claims.put src (some { k with reason := reason, immediate := k.immediate || im }) })

theorem claimMove_segMove (s : State) (src : ClaimSource) (reason : Nat) (im : Bool) (i : Nat) :
    SegMove s i (claimMove s src reason im i) := by
  unfold claimMove
  split
  · next hn => exact .joins src _ im hn
  · next k hk => exact .renewed src k _ im hk

theorem claimMove_congr {s t : State} {i : Nat} (h : SameSurround s t) (hseg : t.seg i = s.seg i) (src : ClaimSource)
    (reason : Nat) (im : Bool) : claimMove t src reason im i = claimMove s src reason im i := by
  unfold claimMove
  rw [hseg, h.clock]
  simp only [claimJoins_congr h, shorten_congr h]

theorem claimStep_acted {s t : State} {i : Nat} (src : ClaimSource) (reason : Nat) (im : Bool)
    (hi : i < t.segments.length) (h : SameSurround s t) (hseg : t.seg i = s.seg i) :
    SegActed (claimMove s src reason im i) .claim false i t (claimStep src reason im t i) := by
  rw [← claimMove_congr h hseg]
  unfold claimStep claimAt claimMove
  dsimp only
  cases hk : (t.seg i).claims.get src with
  | none => exact segEvent_acted _ _ _ hi
  | some k => exact segEvent_acted _ _ _ hi

theorem claimAt_added (s : State) (i : Nat) (src : ClaimSource) (reason : Nat) (im : Bool) :
    (claimAt s i src reason im).2 = ((s.seg i).claims.get src).isNone := by
  unfold claimAt
  dsimp only
  split
  · next h => rw [h]; rfl
  · next h => rw [h]; rfl

/-- The claims added are those of the listed segments that had none. -/
theorem claimAll_snd (src : ClaimSource) (reason : Nat) (im : Bool) {s : State} (segs : List Nat) (t : State) (n : Nat)
    (hnd : segs.Nodup) (hseg : ∀ i ∈ segs, t.seg i = s.seg i) :
    (claimAll src reason im segs (t, n)).2 = n + (segs.filter fun i => ((s.seg i).claims.get src).isNone).length := by
  induction segs generalizing t n with
  | nil => rfl
  | cons i is ih =>
    obtain ⟨hi, hnd⟩ := List.nodup_cons.1 hnd
    have hrest : ∀ j ∈ is, (claimAt t i src reason im).1.seg j = s.seg j := fun j hj => by
      rcases movesAt_claimStep src reason im t i j with h | ⟨h, -⟩
      · exact h.trans (hseg j (List.mem_cons_of_mem _ hj))
      · exact absurd (h ▸ hj) hi
    rw [claimAll, ih _ _ hnd hrest, claimAt_added, hseg i List.mem_cons_self, List.filter_cons]
    split
    · rw [List.length_cons]
      omega
    · rfl

theorem claimMove_claims {s : State} {i : Nat} (src : AgentSource) (reason : Nat) (im : Bool) (hok : (s.seg i).ok)
    (x : ClaimSource) : (claimMove s (claimSourceFor src) reason im i).seg.claims.get x =
      if x ≠ claimSourceFor src then (s.seg i).claims.get x
      else some { reason
                  placedAt := (((s.seg i).claims.get (claimSourceFor src)).map (·.placedAt)).getD s.clock.seconds
                  immediate := im || ((s.seg i).claims.get (claimSourceFor src)).any (·.immediate)
                  zones := [] } := by
  unfold claimMove
  cases hk : (s.seg i).claims.get (claimSourceFor src) with
  | none =>
    obtain ⟨hclaims, -⟩ := claimJoins_claims s i (s.seg i) { s.seg i with
      claims := (s.seg i).claims.put (claimSourceFor src)
        (some { reason, placedAt := s.clock.seconds, immediate := im, zones := [] }) } im
    dsimp only
    rw [hclaims, ClaimSet.get_put]
    by_cases hx : x = claimSourceFor src <;> simp [hx]
  | some k =>
    have hzones : k.zones = [] := by
      obtain ⟨⟨-, -, hagent⟩, -⟩ := hok
      exact hagent src (by cases src <;> simp) k (by simp [hk])
    have hget : ∀ c : ClaimSet, (Move.still (if im then shorten s { s.seg i with claims := c }
        else { s.seg i with claims := c })).seg.claims = c := fun c => by
      obtain ⟨hclaims, -⟩ := shorten_fields s { s.seg i with claims := c }
      cases im
      · rfl
      · exact hclaims
    dsimp only
    rw [hget, ClaimSet.get_put]
    by_cases hx : x = claimSourceFor src <;> simp [hx, hzones, Bool.or_comm]

theorem claimMove_lock (s : State) (src : ClaimSource) (reason : Nat) (im : Bool) (i : Nat) :
    (claimMove s src reason im i).seg.zoneLock = (s.seg i).zoneLock := by
  unfold claimMove
  split
  · obtain ⟨-, hlock⟩ := claimJoins_claims s i (s.seg i) { s.seg i with
      claims := (s.seg i).claims.put src (some { reason, placedAt := s.clock.seconds, immediate := im, zones := [] }) } im
    exact hlock
  · cases im
    · rfl
    · exact (shorten_fields s _).2.1

theorem segReport_eq (s : State) (segs : List Nat) :
    segReport s segs = segs.flatMap fun i => byteOf (s.seg i).state.code :: be16 (s.seg i).revision := rfl

theorem length_filter_isNone (segs : List Nat) (f : Nat → Option Claim) :
    segs.length - (segs.filter fun i => (f i).isNone).length = (segs.filter fun i => (f i).isSome).length := by
  have h := List.length_eq_length_filter_add (l := segs) fun i => (f i).isSome
  have hnot : (segs.filter fun i => !(f i).isSome) = segs.filter fun i => (f i).isNone := by simp
  rw [hnot] at h
  omega

/-- Settles O18. -/
theorem claimClosesSegments : Obligations.ClaimClosesSegments := by
  intro s p a ht hs hacc
  have hlt := accepted_lt ht hacc
  obtain ⟨body, -, hargs⟩ := accepted_parsed hacc
  obtain ⟨hsegs, hnd⟩ := argsClaim_list hargs
  have hsz : ∀ i ∈ a.segs, i < (popFrame s p).segments.length := fun i hi => segments_sized (s := s) ht (hsegs i hi)
  have hacted := segsActed_foldl (s := popFrame s p) (f := claimStep (claimSourceFor (agentOf s p)) a.reason a.immediate)
    a.segs hnd hsz fun t i => claimStep_acted (s := popFrame s p) (claimSourceFor (agentOf s p)) a.reason a.immediate
  rw [← claimAll_fst (claimSourceFor (agentOf s p)) a.reason a.immediate a.segs (popFrame s p) 0] at hacted
  obtain ⟨hseg, hreply, hclosures, hsent, hlines⟩ := outcome_segsActed (c := claimCommand) (s := s) (p := p) (a := a)
    (m := claimMove s (claimSourceFor (agentOf s p)) a.reason a.immediate) hnd
    (fun i _ => (claimMove_segMove s (claimSourceFor (agentOf s p)) a.reason a.immediate i).sound)
    rfl hacted hlt
  have hself : ∀ i ∈ a.segs, (outcome claimCommand s p a).seg i =
      revised (s.seg i) (claimMove s (claimSourceFor (agentOf s p)) a.reason a.immediate i).seg :=
    fun i hi => (hseg i).trans (if_pos hi)
  refine ⟨_, exec_accepted rfl (fun _ _ => ⟨rfl, rfl, rfl⟩) hacc, fun i _ hi => (hseg i).trans (if_neg hi),
    fun i hi x => ?_, fun i hi => ⟨?_, ?_⟩, ?_, hclosures, hsent, hlines,
    outcome_changesOnly ((leaves_run .claim (popFrame s p) p a).changesOnly (by decide)) (by decide)⟩
  · rw [hself i hi, (revised_claims _ _).1]
    exact claimMove_claims (agentOf s p) a.reason a.immediate (hs i (hsegs i hi)) x
  · rw [hself i hi, (revised_claims _ _).2, claimMove_lock]
  · have h := hself i hi
    unfold claimMove at h
    cases hk : (s.seg i).claims.get (claimSourceFor (agentOf s p)) with
    | none =>
      rw [hk] at h
      exact claimJoins_row (hs i (hsegs i hi)) h
    | some k =>
      rw [hk] at h
      exact renewed_row (hs i (hsegs i hi)) (ClaimSet.isEmpty_false_of_get hk) h
  · have hcount := claimAll_snd (s := s) (claimSourceFor (agentOf s p)) a.reason a.immediate a.segs (popFrame s p) 0 hnd
      fun _ _ => rfl
    have hadded := length_filter_isNone a.segs fun i => (s.seg i).claims.get (claimSourceFor (agentOf s p))
    rw [Nat.zero_add] at hcount
    rw [← hadded, ← hcount]
    exact hreply

/-! ## RELEASE, FORCE RELEASE and RESTART CONFIRM (R48–R50) -/

/-- What the sequencer does where claims have left a segment. -/
def loosened (s : State) (i : Nat) (g : Segment) : Move :=
  if g.claims.isEmpty then setEmptied s i g else Move.still g

theorem clearanceMove_eq (s : State) (i : Nat) (g : Segment) : clearanceMove s i g = loosened s i g := by
  unfold clearanceMove loosened setEmptied
  split
  · cases g.state <;> by_cases hl : g.zoneLock = true <;> simp [hl]
  · rfl

theorem loosened_claims (s : State) (i : Nat) (g : Segment) :
    (loosened s i g).seg.claims = g.claims ∧ (loosened s i g).seg.zoneLock = g.zoneLock := by
  unfold loosened setEmptied
  split
  · split
    · exact ⟨rfl, rfl⟩
    · exact ⟨rfl, rfl⟩
    · split <;> exact ⟨rfl, rfl⟩
    · split
      · exact ⟨rfl, rfl⟩
      · exact enterRaising_claims s i g
    · split
      · exact ⟨rfl, rfl⟩
      · exact enterRaising_claims s i g
  · exact ⟨rfl, rfl⟩

theorem loosened_state {s : State} {i : Nat} {g : Segment} (hst : g.state = (s.seg i).state) :
    (loosened s i g).seg.state = if g.claims.isEmpty then emptiedState s i g.zoneLock else (s.seg i).state := by
  unfold loosened
  split
  · unfold setEmptied emptiedState
    rw [hst]
    cases h : (s.seg i).state with
    | opened => exact hst.trans h
    | raising => exact hst.trans h
    | prewarn => cases g.zoneLock <;> simp [Move.still, hst, h]
    | lowering =>
      cases g.zoneLock
      · exact enterRaising_state s i g
      · exact hst.trans h
    | closed =>
      cases g.zoneLock
      · exact enterRaising_state s i g
      · rfl
  · exact hst

theorem enterRaising_fields (s : State) (i : Nat) (g : Segment) : (enterRaising s i g).seg.stamp = g.stamp ∧
    (enterRaising s i g).seg.state ≠ .prewarn ∧ (enterRaising s i g).seg.barrierFault =
      if (enterRaising s i g).seg.state = .opened then false else g.barrierFault := by
  unfold enterRaising
  dsimp only
  split <;> simp [enterOpen]

/-- A segment that loses claims keeps its stamp, and its dwell while it stays in PREWARN (R59, R61, R62). -/
theorem loosened_fields {s : State} {i : Nat} {g : Segment}
    (hbar : g.state = .opened ∨ g.state = .prewarn → g.barrierFault = false) :
    (loosened s i g).seg.stamp = g.stamp ∧
      ((loosened s i g).seg.state = .prewarn → (loosened s i g).seg.dwell = g.dwell) ∧
      (loosened s i g).seg.barrierFault = if (loosened s i g).seg.state = .opened then false else g.barrierFault := by
  have hstill : ∀ h : Segment, h.stamp = g.stamp → h.dwell = g.dwell → h.state = g.state → h.barrierFault = g.barrierFault →
      (Move.still h).seg.stamp = g.stamp ∧ ((Move.still h).seg.state = .prewarn → (Move.still h).seg.dwell = g.dwell) ∧
      (Move.still h).seg.barrierFault = if (Move.still h).seg.state = .opened then false else g.barrierFault := by
    intro h h1 h2 h3 h4
    refine ⟨h1, fun _ => h2, ?_⟩
    show h.barrierFault = if h.state = .opened then false else g.barrierFault
    split
    · next ho => rw [h4, hbar (.inl (h3 ▸ ho))]
    · exact h4
  have hraise : (enterRaising s i g).seg.stamp = g.stamp ∧
      ((enterRaising s i g).seg.state = .prewarn → (enterRaising s i g).seg.dwell = g.dwell) ∧
      (enterRaising s i g).seg.barrierFault =
        if (enterRaising s i g).seg.state = .opened then false else g.barrierFault := by
    obtain ⟨h1, h2, h3⟩ := enterRaising_fields s i g
    exact ⟨h1, fun h => absurd h h2, h3⟩
  unfold loosened setEmptied
  split
  · split
    · exact hstill g rfl rfl rfl rfl
    · exact hstill g rfl rfl rfl rfl
    · next hst =>
      split
      · exact hstill g rfl rfl rfl rfl
      · exact ⟨rfl, nofun, hbar (.inr hst)⟩
    · split
      · exact hstill g rfl rfl rfl rfl
      · exact hraise
    · split
      · exact hstill _ rfl rfl rfl rfl
      · exact hraise
  · exact hstill g rfl rfl rfl rfl

/-- What is left of a consistent segment that loses claims. -/
theorem opensUp_of {s t : State} {i : Nat} {g : Segment} (hok : (loosened s i g).seg.ok)
    (hold : (s.seg i).ok) (h : t.seg i = revised (s.seg i) (loosened s i g).seg) (hst : g.state = (s.seg i).state)
    (hdwell : g.dwell = (s.seg i).dwell) (hstamp : g.stamp = (s.seg i).stamp)
    (hbar : g.barrierFault = (s.seg i).barrierFault) : OpensUp s t i := by
  obtain ⟨-, -, -, -, -, holdBar⟩ := hold
  obtain ⟨h1, h2, h3⟩ := loosened_fields (s := s) (i := i) (g := g) (by rwa [hst, hbar])
  obtain ⟨-, hd, -, -, hreopen, -⟩ := hok
  obtain ⟨r, hr⟩ := revised_eq (s.seg i) (loosened s i g).seg
  rw [OpensUp, h, hr]
  refine ⟨?_, h1.trans hstamp, hbar ▸ h3, hreopen⟩
  show (loosened s i g).seg.dwell = if (loosened s i g).seg.state = .prewarn then _ else _
  split
  · next hp => rw [h2 hp, hdwell]
  · next hp => simpa using fun hs => hp (hd.1 hs)

/-- The record of a segment without one claim. -/
def withoutClaim (g : Segment) (src : ClaimSource) : Segment := { g with claims := g.claims.put src none }

theorem claimLeaves_of {s t : State} {i : Nat} {src : ClaimSource} (hok : (s.seg i).ok)
    (hsome : ((s.seg i).claims.get src).isSome = true)
    (h : t.seg i = revised (s.seg i) (loosened s i (withoutClaim (s.seg i) src)).seg) : ClaimLeaves s t i src := by
  obtain ⟨hclaims, hlock⟩ := loosened_claims s i (withoutClaim (s.seg i) src)
  have hnew : (loosened s i (withoutClaim (s.seg i) src)).seg.ok := claimLeaves_ok s i src hok hsome
  refine ⟨?_, ?_, ?_, opensUp_of hnew hok h rfl rfl rfl rfl⟩
  · rw [h, (revised_claims _ _).1, hclaims]
    rfl
  · rw [h, (revised_claims _ _).2, hlock]
    rfl
  · rw [h, revised_state, loosened_state (g := withoutClaim (s.seg i) src) rfl]
    rfl

/-- The move of a release at one segment. -/
def releaseMove (s : State) (src : ClaimSource) (i : Nat) : Move :=
  if ((s.seg i).claims.get src).isSome then loosened s i (withoutClaim (s.seg i) src) else Move.still (s.seg i)

theorem loosened_congr {s t : State} (h : SameSurround s t) (i : Nat) (g : Segment) :
    loosened t i g = loosened s i g := by
  simp only [loosened, setEmptied_congr h]

theorem releaseMove_congr {s t : State} {i : Nat} (h : SameSurround s t) (hseg : t.seg i = s.seg i) (src : ClaimSource) :
    releaseMove t src i = releaseMove s src i := by
  simp only [releaseMove, hseg, loosened_congr h]

theorem releaseMove_sound (s : State) (src : ClaimSource) (i : Nat) : MoveSound s i (releaseMove s src i) := by
  unfold releaseMove
  split
  · next h => exact (SegMove.leaves src h).sound
  · exact moveSound_still s i

theorem removeClaim_acted {s : State} {i : Nat} (src : ClaimSource) (cause : SegCause) (hi : i < s.segments.length) :
    SegActed (loosened s i (withoutClaim (s.seg i) src)) cause false i s (removeClaim s i src cause) :=
  segEvent_acted _ cause false hi

theorem releaseStep_acted {s t : State} {i : Nat} (src : ClaimSource) (hi : i < t.segments.length)
    (h : SameSurround s t) (hseg : t.seg i = s.seg i) :
    SegActed (releaseMove s src i) .release false i t (releaseStep src t i) := by
  rw [← releaseMove_congr h hseg]
  unfold releaseStep releaseMove
  split
  · exact removeClaim_acted src .release hi
  · exact segActed_refl t i .release

/-- The claims removed are those of the listed segments that had one. -/
theorem releaseAll_snd (src : ClaimSource) {s : State} (segs : List Nat) (t : State) (n : Nat)
    (hnd : segs.Nodup) (hseg : ∀ i ∈ segs, t.seg i = s.seg i) :
    (releaseAll src segs (t, n)).2 = n + (segs.filter fun i => ((s.seg i).claims.get src).isSome).length := by
  induction segs generalizing t n with
  | nil => rfl
  | cons i is ih =>
    obtain ⟨hi, hnd⟩ := List.nodup_cons.1 hnd
    have hrest : ∀ j ∈ is, (releaseStep src t i).seg j = s.seg j := fun j hj => by
      rcases movesAt_releaseStep src t i j with h | ⟨h, -⟩
      · exact h.trans (hseg j (List.mem_cons_of_mem _ hj))
      · exact absurd (h ▸ hj) hi
    have hhere := hseg i List.mem_cons_self
    rw [releaseAll, List.filter_cons, ← hhere]
    unfold releaseStep at hrest
    split
    · next hsome =>
      rw [if_pos hsome] at hrest
      rw [ih _ _ hnd hrest, List.length_cons]
      omega
    · next hsome =>
      rw [if_neg hsome] at hrest
      exact ih _ _ hnd hrest

/-- What RELEASE leaves (R48). -/
theorem release_row {s : State} {p : Nat} {segs : List Nat} (ht : TablesOk s) (hs : SegmentsOk s)
    (hacc : Accepted releaseCommand s p segs) : ∃ t, exec (.release p) s = .next t ∧
      (∀ i ∈ segs, ((s.seg i).claims.get (claimSourceFor (agentOf s p))).isSome = true →
        ClaimLeaves s t i (claimSourceFor (agentOf s p))) ∧
      (∀ i < 12, i ∉ segs ∨ (s.seg i).claims.get (claimSourceFor (agentOf s p)) = none →
        t.seg i = s.seg i) ∧
      Replied p .release .done
        (byteOf (segs.filter fun i =>
          ((s.seg i).claims.get (claimSourceFor (agentOf s p))).isSome).length ::
         segs.flatMap fun i => byteOf (t.seg i).state.code :: be16 (t.seg i).revision) s t ∧
      ClosuresFollow s.deliveries segs s t ∧ SegmentsTold segs .release s t ∧
      LinesKept s t ∧ ChangesOnly [.ports, .segments, .deliveries] s t := by
  have hlt := accepted_lt ht hacc
  obtain ⟨body, -, hargs⟩ := accepted_parsed hacc
  obtain ⟨hsegs, hnd⟩ := argsSegments_list hargs
  have hsz : ∀ i ∈ segs, i < (popFrame s p).segments.length := fun i hi => segments_sized (s := s) ht (hsegs i hi)
  have hacted := segsActed_foldl (s := popFrame s p) (f := releaseStep (claimSourceFor (agentOf s p)))
    segs hnd hsz fun t i => releaseStep_acted (s := popFrame s p) (claimSourceFor (agentOf s p))
  rw [← releaseAll_fst (claimSourceFor (agentOf s p)) segs (popFrame s p) 0] at hacted
  obtain ⟨hseg, hreply, hclosures, hsent, hlines⟩ := outcome_segsActed (c := releaseCommand) (s := s) (p := p) (a := segs)
    (m := releaseMove s (claimSourceFor (agentOf s p))) hnd
    (fun i _ => releaseMove_sound s (claimSourceFor (agentOf s p)) i) rfl hacted hlt
  refine ⟨_, exec_accepted rfl (fun _ _ => ⟨rfl, rfl, rfl⟩) hacc, fun i hi hsome => ?_, fun i _ hi => ?_, ?_,
    hclosures, hsent, hlines,
    outcome_changesOnly ((leaves_run .release (popFrame s p) p segs).changesOnly (by decide)) (by decide)⟩
  · have h := (hseg i).trans (if_pos hi)
    rw [releaseMove, if_pos hsome] at h
    exact claimLeaves_of (hs i (hsegs i hi)) hsome h
  · rcases hi with hi | hnone
    · exact (hseg i).trans (if_neg hi)
    · rw [hseg, releaseMove, hnone]
      simp [Move.still, revised_same]
  · have hcount := releaseAll_snd (s := s) (claimSourceFor (agentOf s p)) segs (popFrame s p) 0 hnd fun _ _ => rfl
    rw [Nat.zero_add] at hcount
    rw [← hcount]
    exact hreply

theorem dropClaim_removed {s : State} {i : Nat} {src : ClaimSource} {cause : SegCause}
    (h : ((s.seg i).claims.get src).isSome = true) : dropClaim s i src cause =
      .mk .done (segReport (removeClaim s i src cause) [i]) (removeClaim s i src cause) := by
  unfold dropClaim
  exact if_pos h

/-- What FORCE RELEASE and RESTART CONFIRM leave (R49, R50). -/
theorem dropped_row {α : Type} {c : Command α} {s : State} {p : Nat} {a : α} {i : Nat} {src : ClaimSource}
    {cause : SegCause} (ht : TablesOk s) (hok : (s.seg i).ok) (hi : i < 12) (hp : p < s.ports.length)
    (hsome : ((s.seg i).claims.get src).isSome = true)
    (hdrop : c.run (popFrame s p) p a = dropClaim (popFrame s p) i src cause) :
    ClaimLeaves s (outcome c s p a) i src ∧ (∀ j, j ≠ i → (outcome c s p a).seg j = s.seg j) ∧
      Replied p c.kind .done (byteOf ((outcome c s p a).seg i).state.code :: be16 ((outcome c s p a).seg i).revision)
        s (outcome c s p a) ∧
      ClosuresFollow s.deliveries [i] s (outcome c s p a) ∧ SegmentsTold [i] cause s (outcome c s p a) ∧
      LinesKept s (outcome c s p a) := by
  have hrun := hdrop.trans (dropClaim_removed (s := popFrame s p) (cause := cause) hsome)
  have hacted := removeClaim_acted (s := popFrame s p) src cause (segments_sized (s := s) ht hi)
  have hsound : MoveSound s i (loosened s i (withoutClaim (s.seg i) src)) := (SegMove.leaves src hsome).sound
  obtain ⟨hsent, hreply, hlines⟩ := outcome_told hrun hacted.told hp
  have heq := outcome_eq hrun
  have hself : (outcome c s p a).seg i = revised (s.seg i) (loosened s i (withoutClaim (s.seg i) src)).seg := by
    rw [heq]
    exact (hacted.seg i).trans (if_pos rfl)
  refine ⟨claimLeaves_of hok hsome hself, fun j hj => ?_, ?_, ?_, ?_, hlines⟩
  · rw [heq]
    exact (hacted.seg j).trans (if_neg hj)
  · have hdata : segReport (removeClaim (popFrame s p) i src cause) [i] =
        byteOf ((outcome c s p a).seg i).state.code :: be16 ((outcome c s p a).seg i).revision := by
      rw [heq]
      exact List.flatMap_singleton _ _
    rwa [hdata] at hreply
  · rw [heq]
    exact hacted.closures (s := popFrame s p) (i := i) ⟨hsound.reqs, hsound.revision⟩
  · have htold := told_changed (t := outcome c s p a) (m := fun _ => loosened s i (withoutClaim (s.seg i) src))
      (cause := cause) (segs := [i]) (fun j hj => by rw [List.mem_singleton.1 hj]; exact hsound)
      (fun j hj => by rw [List.mem_singleton.1 hj]; exact hself)
    rw [List.flatMap_singleton] at htold
    rw [SegmentsTold, ← htold]
    rw [Bool.or_false] at hsent
    exact hsent

theorem dropClaim_refused {s : State} {i : Nat} {src : ClaimSource} {cause : SegCause}
    (h : ¬((s.seg i).claims.get src).isSome = true) : dropClaim s i src cause = refuse s .state := if_neg h

theorem argsForceRelease_lt {l : List Byte} {i : Nat} {src : ClaimSource} (h : argsForceRelease l = some (i, src)) :
    i < 12 := by
  unfold argsForceRelease at h
  split at h
  · next j c _ =>
    split at h
    · next hj =>
      obtain ⟨x, -, hx⟩ := Option.map_eq_some_iff.1 h
      cases hx
      simpa [segOk] using hj
    · cases h
  · cases h

/-- Settles O19. -/
theorem releasesRemoveClaims : Obligations.ReleasesRemoveClaims := by
  intro s p ht hs
  refine ⟨fun segs hacc => release_row ht hs hacc, fun i src hacc => ?_, fun i hacc => ?_⟩
  · obtain ⟨body, -, hargs⟩ := accepted_parsed hacc
    have hi : i < 12 := argsForceRelease_lt hargs
    have hexec : exec (.forceRelease p) s = .next (outcome forceReleaseCommand s p (i, src)) :=
      exec_accepted rfl (fun _ _ => ⟨rfl, rfl, rfl⟩) hacc
    rw [hexec]
    split
    · next hsome =>
      obtain ⟨hleaves, hrest, hreply, hclosures, hsent, hlines⟩ :=
        dropped_row (c := forceReleaseCommand) (a := (i, src)) (cause := .forceRelease) ht (hs i hi) hi (accepted_lt ht hacc) hsome rfl
      exact ⟨_, rfl, hleaves, hrest, hreply, hclosures, hsent, hlines,
        outcome_changesOnly ((leaves_run .forceRelease (popFrame s p) p (i, src)).changesOnly (by decide)) (by decide)⟩
    · next hsome =>
      rw [outcome_answered (dropClaim_refused (s := popFrame s p) (cause := .forceRelease) hsome)]
      rfl
  · obtain ⟨body, -, hargs⟩ := accepted_parsed hacc
    have hi : i < 12 := by simpa [segOk] using argsIndex_ok hargs
    have hexec : exec (.restartConfirm p) s = .next (outcome restartConfirmCommand s p i) :=
      exec_accepted rfl (fun _ _ => ⟨rfl, rfl, rfl⟩) hacc
    rw [hexec]
    split
    · next hsome =>
      obtain ⟨hleaves, hrest, hreply, hclosures, hsent, hlines⟩ :=
        dropped_row (c := restartConfirmCommand) (a := i) (cause := .restartConfirm) ht (hs i hi) hi (accepted_lt ht hacc) hsome rfl
      exact ⟨_, rfl, hleaves, hrest, hreply, hclosures, hsent, hlines,
        outcome_changesOnly ((leaves_run .restartConfirm (popFrame s p) p i).changesOnly (by decide)) (by decide)⟩
    · next hsome =>
      rw [outcome_answered (dropClaim_refused (s := popFrame s p) (cause := .restartConfirm) hsome)]
      rfl

end Sys2Proof.Machine

/-! PROOF. The events of the zone monitor at a segment, the dwell and gate reports (R51, R52, R58, R64, R65). -/

namespace Sys2Proof.Machine

set_option Elab.async false

open Sys2Proof

/-! ## The notices of one event at a segment (R55) -/

theorem SegActed.self {m : Move} {cause : SegCause} {lock : Bool} {i : Nat} {s t : State}
    (h : SegActed m cause lock i s t) : t.seg i = revised (s.seg i) m.seg := by rw [h.seg, if_pos rfl]

theorem SegActed.other {m : Move} {cause : SegCause} {lock : Bool} {i : Nat} {s t : State}
    (h : SegActed m cause lock i s t) : ∀ j, j ≠ i → t.seg j = s.seg j := fun j hj => by rw [h.seg, if_neg hj]

theorem SegActed.tells {m : Move} {cause : SegCause} {i : Nat} {s t : State} (h : SegActed m cause false i s t)
    (hm : MoveSound s i m) : SegmentsTold [i] cause s t := by
  have htold := told_changed (t := t) (m := fun _ => m) (cause := cause) (segs := [i])
    (fun j hj => by rw [List.mem_singleton.1 hj]; exact hm) (fun j hj => by rw [List.mem_singleton.1 hj]; exact h.self)
  have hsent := h.told.noticesSent
  rw [Bool.or_false] at hsent
  rw [List.flatMap_singleton] at htold
  rw [SegmentsTold, ← htold]
  exact hsent

/-- An event that always tells. -/
theorem SegActed.toldOne {m : Move} {cause : SegCause} {lock : Bool} {i : Nat} {s t : State}
    (h : SegActed m cause lock i s t) (htells : revisionChange (s.seg i) m.seg = true ∨ lock = true) :
    OneNotice none i (.segment (t.seg i).state cause (t.seg i).revision (t.seg i).barrierFault none) s t := by
  have htold := h.told
  rw [if_pos (by simpa using htells), ← h.self] at htold
  exact htold.oneNotice

theorem revised_changed {old new : Segment} (h : revisionChange old new = true) :
    revised old new = { new with revision := old.revision + 1 } := if_pos h

theorem revised_unchanged {old new : Segment} (h : revisionChange old new = false) : revised old new = new :=
  if_neg (by simp [h])

theorem revisionChange_of_state {old new : Segment} (h : old.state ≠ new.state) : revisionChange old new = true := by
  simp [revisionChange, h]

/-! ## Detector events (R51) -/

/-- The move of a detector event at a segment. -/
def detectorMove (s : State) (i z : Nat) : Move :=
  match (s.seg i).claims.det with
  | none => claimJoins s i (s.seg i) { s.seg i with
      claims := (s.seg i).claims.put .det
        (some { reason := 0, placedAt := s.clock.seconds, immediate := true, zones := [z] }) } true
  | some k =>
    if k.zones.contains z then Move.still (s.seg i)
    else Move.still (shorten s { s.seg i with
      claims := (s.seg i).claims.put .det (some { k with zones := k.zones ++ [z] }) })

theorem detectorMove_sound (s : State) (i z : Nat) : MoveSound s i (detectorMove s i z) := by
  unfold detectorMove
  cases hk : (s.seg i).claims.det with
  | none => exact (SegMove.joins .det _ true hk).sound
  | some k =>
    dsimp only
    split
    · exact moveSound_still s i
    · exact (SegMove.renewed .det k _ true hk).sound

theorem detectorAt_acted {s : State} {i : Nat} (z : Nat) (hi : i < s.segments.length) :
    SegActed (detectorMove s i z) .detector false i s (detectorAt s i z) := by
  unfold detectorMove detectorAt
  dsimp only
  cases hk : (s.seg i).claims.det with
  | none => exact segEvent_acted _ _ _ hi
  | some k =>
    dsimp only
    split
    · exact segActed_refl s i .detector
    · exact segEvent_acted _ _ _ hi

theorem detectorMove_claims (s : State) (i z : Nat) :
    (detectorMove s i z).seg.claims = (s.seg i).claims.put .det
      (match (s.seg i).claims.det with
        | none => some { reason := 0, placedAt := s.clock.seconds, immediate := true, zones := [z] }
        | some k => some { k with zones := if z ∈ k.zones then k.zones else k.zones ++ [z] }) ∧
      (detectorMove s i z).seg.zoneLock = (s.seg i).zoneLock := by
  unfold detectorMove
  cases hk : (s.seg i).claims.det with
  | none => exact claimJoins_claims s i _ _ true
  | some k =>
    dsimp only
    by_cases hz : z ∈ k.zones
    · rw [if_pos (by simpa using hz), if_pos hz]
      refine ⟨?_, rfl⟩
      show (s.seg i).claims = { (s.seg i).claims with det := some k }
      rw [← hk]
    · rw [if_neg (by simpa using hz), if_neg hz]
      obtain ⟨hclaims, hlock, -⟩ := shorten_fields s { s.seg i with
        claims := (s.seg i).claims.put .det (some { k with zones := k.zones ++ [z] }) }
      exact ⟨hclaims, hlock⟩

/-- What a detector event leaves of a consistent segment. -/
theorem detector_row {s t : State} {i z : Nat} (hok : (s.seg i).ok)
    (h : t.seg i = revised (s.seg i) (detectorMove s i z).seg) :
    match (s.seg i).state with
    | .opened => (t.seg i).state = .prewarn ∧ (t.seg i).dwell = some s.image.minDwell ∧
      (t.seg i).reopenPending = false ∧ (t.seg i).barrierFault = (s.seg i).barrierFault ∧
      (t.seg i).stamp = (s.seg i).stamp
    | .raising => TurnsDown s t i
    | .prewarn | .lowering | .closed =>
      StaysDown s t i (decide (∀ k ∈ (s.seg i).claims.det.toList, z ∉ k.zones)) := by
  unfold detectorMove at h
  cases hk : (s.seg i).claims.det with
  | none =>
    rw [hk] at h
    have himm : decide (∀ k ∈ (none : Option Claim).toList, z ∉ k.zones) = true := by simp
    rw [himm]
    exact claimJoins_row hok h
  | some k =>
    have hne : (s.seg i).claims.isEmpty = false := ClaimSet.isEmpty_false_of_get (src := .det) hk
    rw [hk] at h
    dsimp only at h
    by_cases hz : z ∈ k.zones
    · have himm : decide (∀ k' ∈ (some k).toList, z ∉ k'.zones) = false := by simp [hz]
      rw [if_pos (by simpa using hz)] at h
      rw [himm]
      have hrow := renewed_row (c := (s.seg i).claims) (im := false) hok hne h
      have hopen : (s.seg i).state ≠ .opened := fun ho => by
        obtain ⟨-, -, hempty, -⟩ := hok
        simp [hempty (.inl ho)] at hne
      cases hst : (s.seg i).state with
      | opened => exact absurd hst hopen
      | _ => rwa [hst] at hrow
    · have himm : decide (∀ k' ∈ (some k).toList, z ∉ k'.zones) = true := by simp [hz]
      rw [if_neg (by simpa using hz)] at h
      rw [himm]
      exact renewed_row (im := true) hok hne h

theorem ClaimSet.get_det (c : ClaimSet) : c.get .det = c.det := rfl

/-- What a detector event leaves of the DET claim (R51). -/
theorem detector_claim {s t : State} {i z : Nat} (hok : (s.seg i).ok)
    (h : t.seg i = revised (s.seg i) (detectorMove s i z).seg) :
    (∃ k, (t.seg i).claims.det = some k ∧ k.immediate = true ∧ k.reason = 0 ∧
      match (s.seg i).claims.det with
      | none => k.zones = [z] ∧ k.placedAt = s.clock.seconds
      | some k' => k.zones = (if z ∈ k'.zones then k'.zones else k'.zones ++ [z]) ∧
          k.placedAt = k'.placedAt) ∧
    (∀ x, x ≠ .det → (t.seg i).claims.get x = (s.seg i).claims.get x) ∧
    (t.seg i).zoneLock = (s.seg i).zoneLock := by
  obtain ⟨hclaims, hlock⟩ := detectorMove_claims s i z
  obtain ⟨⟨hdet, -⟩, -⟩ := hok
  rw [h, (revised_claims _ _).1, (revised_claims _ _).2, hclaims, hlock]
  refine ⟨?_, fun x hx => ?_, rfl⟩
  · rw [← ClaimSet.get_det, ClaimSet.get_put, if_pos rfl]
    cases hk : (s.seg i).claims.det with
    | none => exact ⟨_, rfl, rfl, rfl, rfl, rfl⟩
    | some k =>
      obtain ⟨-, -, hreason, himm⟩ := hdet k (by simp [hk])
      exact ⟨_, rfl, himm, hreason, rfl, rfl⟩
  · rw [ClaimSet.get_put, if_neg hx]

theorem exec_detectorEvent {s : State} {i z : Nat} (hi : segOk i = true) (hz : zoneOk z = true) :
    exec (.detectorEvent i z) s = .next (detectorAt (s.taking (.detectorEvent i z)) i z) := by
  show onObject (segOk i && zoneOk z) _ = _
  rw [hi, hz]
  rfl

/-! ## Zone clearances (R52, R100) -/

theorem clearedDet_eq (z : Nat) (c : Option Claim) : clearedDet z c = match c with
    | none => none
    | some k => if k.zones = [z] then none else some { k with zones := k.zones.erase z } := by
  cases c with
  | none => rfl
  | some k =>
    rw [clearedDet]
    by_cases hz : z ∈ k.zones
    · rw [if_pos (by simpa using hz)]
      refine if_congr ?_ rfl rfl
      rw [List.isEmpty_iff]
      constructor
      · intro he
        have hperm := List.perm_cons_erase hz
        rw [he] at hperm
        exact List.perm_singleton.1 hperm
      · intro he
        rw [he, List.erase_cons_head]
    · have hne : k.zones ≠ [z] := fun he => hz (he ▸ List.mem_singleton_self z)
      show (if k.zones.contains z then _ else some k) =
        if k.zones = [z] then none else some { k with zones := k.zones.erase z }
      rw [if_neg (by simpa using hz), if_neg hne, List.erase_of_not_mem hz]

/-- The record to which the sequencer answers a zone clearance. -/
def clearedSegment (s : State) (i z : Nat) (lockEnds : Bool) : Segment :=
  { s.seg i with claims := { (s.seg i).claims with det := clearedDet z (s.seg i).claims.det },
                 zoneLock := (s.seg i).zoneLock && !(lockEnds && !lockedByZone s i) }

theorem clearance_segMove (s : State) (i z : Nat) (lockEnds : Bool) :
    SegMove s i (loosened s i (clearedSegment s i z lockEnds)) := by
  have h : SegMove s i _ := .cleared z (lockEnds && !lockedByZone s i) (by simp +contextual)
  rw [clearanceMove_eq] at h
  exact h

theorem clearanceAt_acted {s : State} {i : Nat} (z : Nat) (lockEnds : Bool) (hi : i < s.segments.length) :
    SegActed (loosened s i (clearedSegment s i z lockEnds)) .zoneCleared
      ((s.seg i).zoneLock && (lockEnds && !lockedByZone s i)) i s (clearanceAt s i z lockEnds) := by
  rw [← clearanceMove_eq]
  exact segEvent_acted _ _ _ hi

theorem lockedByZone_iff (s : State) (i : Nat) : lockedByZone s i = true ↔
    ∃ y ∈ zoneList s.image i, (s.zone y).state = .work ∨ (s.zone y).state = .sweep := by
  simp [lockedByZone, Zone.locks]

theorem exec_zoneClearanceEvent {s : State} {i z : Nat} (ends : Bool) (hi : segOk i = true) (hz : zoneOk z = true) :
    exec (.zoneClearanceEvent i z ends) s = .next (clearanceAt (s.taking (.zoneClearanceEvent i z ends)) i z ends) := by
  show onObject (segOk i && zoneOk z) _ = _
  rw [hi, hz]
  rfl

/-- What a zone clearance leaves of a consistent segment (R52, R59, R61, R62). -/
theorem clearance_row {s t : State} {i z : Nat} {ends : Bool} (hok : (s.seg i).ok)
    (h : t.seg i = revised (s.seg i) (loosened s i (clearedSegment s i z ends)).seg) :
    ((t.seg i).zoneLock = true ↔ (s.seg i).zoneLock = true ∧ (ends = false ∨
      ∃ y ∈ zoneList s.image i, (s.zone y).state = .work ∨ (s.zone y).state = .sweep)) ∧
    (match (s.seg i).claims.det with
      | none => (t.seg i).claims.det = none
      | some k =>
        if k.zones = [z] then (t.seg i).claims.det = none
        else (t.seg i).claims.det = some { k with zones := k.zones.erase z }) ∧
    (∀ x, x ≠ .det → (t.seg i).claims.get x = (s.seg i).claims.get x) ∧
    (t.seg i).state = (if (t.seg i).claims.isEmpty then emptiedState s i (t.seg i).zoneLock
      else (s.seg i).state) ∧ OpensUp s t i := by
  obtain ⟨hclaims, hlock⟩ := loosened_claims s i (clearedSegment s i z ends)
  have hnew : (loosened s i (clearedSegment s i z ends)).seg.ok := by
    rw [← clearanceMove_eq]
    exact clearanceMove_ok s i z _ hok
  refine ⟨?_, ?_, fun x hx => ?_, ?_, opensUp_of hnew hok h rfl rfl rfl rfl⟩
  · rw [h, (revised_claims _ _).2, hlock, ← lockedByZone_iff]
    simp [clearedSegment]
  · rw [h, (revised_claims _ _).1, hclaims]
    show (match (s.seg i).claims.det with
      | none => clearedDet z (s.seg i).claims.det = none
      | some k => if k.zones = [z] then clearedDet z (s.seg i).claims.det = none
        else clearedDet z (s.seg i).claims.det = some { k with zones := k.zones.erase z })
    rw [clearedDet_eq]
    cases (s.seg i).claims.det with
    | none => rfl
    | some k =>
      by_cases hz : k.zones = [z] <;> simp [hz]
  · rw [h, (revised_claims _ _).1, hclaims]
    cases x <;> first | rfl | exact absurd rfl hx
  · rw [h, revised_state, (revised_claims _ _).1, (revised_claims _ _).2, hclaims, hlock]
    exact loosened_state (g := clearedSegment s i z ends) rfl

theorem clearance_told {s t : State} {i z : Nat} {ends : Bool}
    (h : SegActed (loosened s i (clearedSegment s i z ends)) .zoneCleared
      ((s.seg i).zoneLock && (ends && !lockedByZone s i)) i s t) :
    NoticeIf ((t.seg i).revision ≠ (s.seg i).revision ∨ (t.seg i).zoneLock ≠ (s.seg i).zoneLock) i
      (.segment (t.seg i).state .zoneCleared (t.seg i).revision (t.seg i).barrierFault none) s t := by
  have htold := h.told
  have hself := h.self
  have hlock : (t.seg i).zoneLock = ((s.seg i).zoneLock && !(ends && !lockedByZone s i)) := by
    rw [hself, (revised_claims _ _).2, (loosened_claims _ _ _).2]
    rfl
  have hrev : (t.seg i).revision ≠ (s.seg i).revision ↔
      revisionChange (s.seg i) (loosened s i (clearedSegment s i z ends)).seg = true := by
    rw [hself, ne_eq, revised_revision (clearance_segMove s i z ends).revision]
    simp
  have hcond : ((t.seg i).revision ≠ (s.seg i).revision ∨ (t.seg i).zoneLock ≠ (s.seg i).zoneLock) ↔
      (revisionChange (s.seg i) (loosened s i (clearedSegment s i z ends)).seg ||
        ((s.seg i).zoneLock && (ends && !lockedByZone s i))) = true := by
    rw [hrev, hlock, Bool.or_eq_true]
    refine or_congr_right ?_
    cases (s.seg i).zoneLock <;> simp
  rw [← hself] at htold
  refine Told.noticeIf (c := _ ∨ _) ?_
  rw [if_congr hcond rfl rfl]
  exact htold

/-! ## Lock starts (R64) -/

/-- The move of a lock start at a segment. -/
def lockMove (s : State) (i : Nat) : Move :=
  if (s.seg i).state == .raising then enterLowering s i { s.seg i with zoneLock := true }
  else Move.still { s.seg i with zoneLock := true }

theorem lockStartAt_acted {s : State} {i : Nat} (hi : i < s.segments.length) :
    SegActed (lockMove s i) .zoneLock true i s (lockStartAt s i) := segEvent_acted _ _ _ hi

theorem exec_lockStartEvent {s : State} {i : Nat} (hi : segOk i = true) :
    exec (.lockStartEvent i) s = .next (lockStartAt (s.taking (.lockStartEvent i)) i) := by
  show onObject (segOk i) _ = _
  rw [hi]
  rfl

theorem lock_row {s t : State} {i : Nat} (h : t.seg i = revised (s.seg i) (lockMove s i).seg) :
    (t.seg i).zoneLock = true ∧ (t.seg i).claims = (s.seg i).claims ∧
      (if (s.seg i).state = .raising then TurnsDown s t i else t.seg i = { s.seg i with zoneLock := true }) := by
  have hfields : (lockMove s i).seg.claims = (s.seg i).claims ∧ (lockMove s i).seg.zoneLock = true := by
    unfold lockMove
    split
    · exact enterLowering_claims s i { s.seg i with zoneLock := true }
    · exact ⟨rfl, rfl⟩
  refine ⟨by rw [h, (revised_claims _ _).2, hfields.2], by rw [h, (revised_claims _ _).1, hfields.1], ?_⟩
  unfold lockMove at h
  split
  · next hr =>
    rw [if_pos (by simpa using hr)] at h
    exact turnsDown_of h rfl rfl
  · next hr =>
    rw [if_neg (by simpa using hr)] at h
    rw [h]
    exact revised_unchanged (by simp [revisionChange, Move.still])

/-- Settles O20. -/
theorem zoneEventsReachSegment : Obligations.ZoneEventsReachSegment := by
  intro s i z ht hs hi hz
  have hlt : i < 12 := by simpa [segOk] using hi
  have hsz := segments_sized ht hlt
  refine ⟨?_, fun ends => ?_, ?_⟩
  · have hacted := detectorAt_acted (s := s.taking (.detectorEvent i z)) z hsz
    have hsound := detectorMove_sound (s.taking (.detectorEvent i z)) i z
    obtain ⟨hclaim, hrest, hlock⟩ := detector_claim (s := s.taking (.detectorEvent i z)) (hs i hlt) hacted.self
    exact ⟨_, exec_detectorEvent hi hz, hclaim, hrest, hlock,
      detector_row (s := s.taking (.detectorEvent i z)) (hs i hlt) hacted.self, hacted.other, hacted.tells hsound,
      hacted.closures hsound, hacted.told.linesKept,
      event_changesOnly [.notices, .segments, .deliveries] (exec_detectorEvent hi hz) rfl nofun rfl⟩
  · have hacted := clearanceAt_acted (s := s.taking (.zoneClearanceEvent i z ends)) z ends hsz
    obtain ⟨hlock, hdet, hrest, hstate, hopens⟩ :=
      clearance_row (s := s.taking (.zoneClearanceEvent i z ends)) (hs i hlt) hacted.self
    exact ⟨_, exec_zoneClearanceEvent ends hi hz, hlock, hdet, hrest, hstate, hopens, hacted.other,
      clearance_told (s := s.taking (.zoneClearanceEvent i z ends)) hacted, hacted.closures (clearance_segMove _ i z ends).sound, hacted.told.linesKept,
      event_changesOnly [.notices, .segments, .deliveries] (exec_zoneClearanceEvent ends hi hz) rfl nofun rfl⟩
  · have hacted := lockStartAt_acted (s := s.taking (.lockStartEvent i)) hsz
    obtain ⟨hlock, hclaims, hrow⟩ := lock_row (s := s.taking (.lockStartEvent i)) hacted.self
    exact ⟨_, exec_lockStartEvent hi, hlock, hclaims, hrow, hacted.other, hacted.toldOne (.inr rfl),
      hacted.closures (m := lockMove (s.taking (.lockStartEvent i)) i) SegMove.locked.sound, hacted.told.linesKept,
      event_changesOnly [.notices, .segments, .deliveries] (exec_lockStartEvent hi) rfl nofun rfl⟩

/-! ## The dwell and gate reports (R58, R60, R63, R65) -/

theorem exec_dwellExpiry {s : State} {i : Nat} (hi : segOk i = true) : exec (.dwellExpiry i) s =
    .next (if (s.seg i).state == .prewarn && due (s.seg i).dwell then
      segEvent s i (enterLowering s i (s.seg i)) .dwellExpiry false else s) := by
  show onObject (segOk i) _ = _
  rw [hi]
  rfl

theorem dwell_row {s : State} {i : Nat} (ht : TablesOk s) (hi : segOk i = true) :
    if (s.seg i).state = .prewarn ∧ (s.seg i).dwell = some 0 then
      ∃ t, exec (.dwellExpiry i) s = .next t ∧ TurnsDown s t i ∧
        (t.seg i).claims = (s.seg i).claims ∧ (t.seg i).zoneLock = (s.seg i).zoneLock ∧
        (t.seg i).revision = (s.seg i).revision + 1 ∧
        ClosuresFollow s.deliveries [i] s t ∧
        OneNotice none i (.segment (t.seg i).state .dwellExpiry (t.seg i).revision
          (t.seg i).barrierFault none) s t ∧
        (∀ j, j ≠ i → t.seg j = s.seg j) ∧ LinesKept s t ∧
        ChangesOnly [.ports, .segments, .deliveries] s t
    else exec (.dwellExpiry i) s = .next s := by
  have hexec := exec_dwellExpiry (s := s) hi
  split
  · next h =>
    rw [if_pos (by simpa [due] using h)] at hexec
    have hacted := segEvent_acted (s := s) (i := i) (enterLowering s i (s.seg i)) .dwellExpiry false
      (segments_sized ht (by simpa [segOk] using hi))
    have hchange : revisionChange (s.seg i) (enterLowering s i (s.seg i)).seg = true := by
      refine revisionChange_of_state ?_
      rw [enterLowering_state, h.1]
      split <;> simp
    obtain ⟨hclaims, hlock⟩ := enterLowering_claims s i (s.seg i)
    have hself := hacted.self
    refine ⟨_, hexec, turnsDown_of hself rfl rfl, ?_, ?_, ?_, hacted.closures (SegMove.dwelled h.1).sound,
      hacted.toldOne (.inl hchange), hacted.other, hacted.told.linesKept,
      event_changesOnly [.notices, .segments, .deliveries] hexec rfl nofun rfl⟩
    · rw [hself, (revised_claims _ _).1, hclaims]
    · rw [hself, (revised_claims _ _).2, hlock]
    · rw [hself, revised_changed hchange]
  · next h => rw [hexec, if_neg (by simpa [due] using h)]

theorem exec_gateReportToSegment {s : State} {g : Nat} (hg : gateOk g = true) : exec (.gateReportToSegment g) s =
    .next (match segmentOfGate s g with
      | some i => reportAt (s.taking (.gateReportToSegment g)) i
      | none => s.taking (.gateReportToSegment g)) := by
  show onObject (gateOk g) _ = _
  rw [hg]
  cases h : segmentOfGate s g <;> rfl

/-- The move of a gate report at a segment (R65). -/
def reportedMove (s : State) (i : Nat) : Move × SegCause :=
  if (s.seg i).state = .lowering ∧ loweringDone s i = true then (.still (enterClosed s i (s.seg i)), .gatesDown)
  else if (s.seg i).state = .raising ∧ raisingDone s i = true then (.still (enterOpen (s.seg i)), .gatesUp)
  else (.still (s.seg i), .gatesUp)

theorem reportedMove_sound (s : State) (i : Nat) : MoveSound s i (reportedMove s i).1 := by
  unfold reportedMove
  split
  · next h => exact (SegMove.gatesDown h.1).sound
  · split
    · next h => exact (SegMove.gatesUp h.1).sound
    · exact moveSound_still s i

theorem reportAt_acted {s : State} {i : Nat} (hi : i < s.segments.length) :
    SegActed (reportedMove s i).1 (reportedMove s i).2 false i s (reportAt s i) := by
  unfold reportAt reportedMove
  cases hst : (s.seg i).state with
  | lowering =>
    dsimp only
    by_cases hd : loweringDone s i = true
    · rw [if_pos hd, if_pos ⟨rfl, hd⟩]
      exact segEvent_acted _ _ _ hi
    · rw [if_neg hd, if_neg fun h => hd h.2, if_neg nofun]
      exact segActed_refl s i _
  | raising =>
    dsimp only
    by_cases hd : raisingDone s i = true
    · rw [if_pos hd, if_neg nofun, if_pos ⟨rfl, hd⟩]
      exact segEvent_acted _ _ _ hi
    · rw [if_neg hd, if_neg nofun, if_neg fun h => hd h.2]
      exact segActed_refl s i _
  | opened => exact segActed_refl s i _
  | prewarn => exact segActed_refl s i _
  | closed => exact segActed_refl s i _

/-- What a gate report leaves of its segment. -/
theorem report_row {s t : State} {i : Nat}
    (h : SegActed (reportedMove s i).1 (reportedMove s i).2 false i s t) :
    if (s.seg i).state = .lowering ∧ loweringDone s i = true then
      EntersClosed s t i ∧ (t.seg i).claims = (s.seg i).claims ∧
      (t.seg i).zoneLock = (s.seg i).zoneLock ∧
      OneNotice none i (.segment .closed .gatesDown (t.seg i).revision
        (t.seg i).barrierFault none) s t
    else if (s.seg i).state = .raising ∧ raisingDone s i = true then
      t.seg i = { s.seg i with state := .opened, dwell := none, barrierFault := false,
                               reopenPending := false, revision := (s.seg i).revision + 1 } ∧
      OneNotice none i (.segment .opened .gatesUp (t.seg i).revision false none) s t
    else t.seg i = s.seg i ∧ NoNotice s t := by
  unfold reportedMove at h
  split
  · next hd =>
    rw [if_pos hd] at h
    have hself := h.self
    have hone := h.toldOne (.inl (revisionChange_of_state (by rw [hd.1]; exact nofun)))
    have hclosed := entersClosed_of hself
    obtain ⟨hstate, -⟩ := id hclosed
    rw [hstate] at hone
    exact ⟨hclosed, by rw [hself, (revised_claims _ _).1]; rfl, by rw [hself, (revised_claims _ _).2]; rfl, hone⟩
  · next hd =>
    rw [if_neg hd] at h
    split
    · next hu =>
      rw [if_pos hu] at h
      have hchange : revisionChange (s.seg i) (enterOpen (s.seg i)) = true :=
        revisionChange_of_state (by rw [hu.1]; exact nofun)
      have hself := h.self.trans (revised_changed hchange)
      have hone := h.toldOne (.inl hchange)
      rw [hself] at hone ⊢
      exact ⟨rfl, hone⟩
    · next hu =>
      rw [if_neg hu] at h
      have htold := h.told
      simp only [Move.still, revisionChange_same, Bool.or_false, Bool.false_eq_true, if_false] at htold
      exact ⟨h.self.trans (revised_same _), htold.noNotice⟩

/-- Settles O21. -/
theorem dwellAndGateReportsMoveSegment : Obligations.DwellAndGateReportsMoveSegment := by
  intro s i ht hi
  refine ⟨dwell_row ht hi, fun g hg => ⟨fun hseg => ?_, fun hseg => ?_⟩⟩
  · rw [exec_gateReportToSegment hg, hseg]
  · have hexec : exec (.gateReportToSegment g) s = .next (reportAt (s.taking (.gateReportToSegment g)) i) := by
      rw [exec_gateReportToSegment hg, hseg]
    have hacted := reportAt_acted (s := s.taking (.gateReportToSegment g)) (i := i)
      (segments_sized (s := s) ht (by simpa [segOk] using hi))
    exact ⟨_, hexec, hacted.other, hacted.closures (reportedMove_sound _ i), hacted.told.linesKept,
      event_changesOnly [.notices, .segments, .deliveries] hexec rfl nofun rfl,
      report_row (s := s.taking (.gateReportToSegment g)) hacted⟩

end Sys2Proof.Machine

/-! PROOF. The zone monitor (chapter 05): the deciding zone (R103), the demands of an event at one zone (R104,
R105, R138), and the commands of the zones (R96–R102). -/

namespace Sys2Proof.Machine

set_option Elab.async false

open Sys2Proof

/-! ## The deciding zone (R103) -/

/-- The place of a zone state in the order of R103. -/
def statePlace (st : ZoneState) : Nat := [ZoneState.tripped, .sweep, .work, .watch, .quiet].idxOf st

theorem statePlace_eq (st : ZoneState) : statePlace st = 4 - st.urgency := by cases st <;> rfl

theorem urgency_le (st : ZoneState) : st.urgency ≤ 4 := by cases st <;> decide

theorem urgency_pos {st : ZoneState} (h : st ≠ .quiet) : 0 < st.urgency := by
  cases st <;> first | exact absurd rfl h | decide

theorem urgency_inj {a b : ZoneState} (h : a.urgency = b.urgency) : a = b := by
  cases a <;> cases b <;> first | rfl | exact absurd h (by decide)

/-- A candidate goes before another zone. -/
def GoesBefore (s : State) (d : Deciding) (y : Nat) : Prop :=
  statePlace d.state < statePlace (s.zone y).state ∨
    d.state = (s.zone y).state ∧
      ((s.zone y).level < d.level ∨ d.level = (s.zone y).level ∧ d.zone < y)

/-- A candidate stands for its zone. -/
structure Candidate (s : State) (d : Deciding) : Prop where
  state : d.state = (s.zone d.zone).state
  level : d.level = (s.zone d.zone).level
  active : d.state ≠ .quiet

/-- The first of the zones of a list by R103. -/
def FirstOf (s : State) (l : List Nat) : Option Deciding → Prop
  | none => ∀ z ∈ l, (s.zone z).state = .quiet
  | some d => d.zone ∈ l ∧ Candidate s d ∧ ∀ y ∈ l, y ≠ d.zone → GoesBefore s d y

/-- A zone as a candidate. -/
def candidateOf (s : State) (z : Nat) : Deciding := { zone := z, state := (s.zone z).state, level := (s.zone z).level }

/-- The choice among the zones so far and one more. -/
def chosen (s : State) (best : Option Deciding) (z : Nat) : Option Deciding :=
  if (candidateOf s z).state == .quiet then best
  else match best with
    | none => some (candidateOf s z)
    | some b => some (moreUrgent b (candidateOf s z))

theorem decidingZone_eq (s : State) (i : Nat) : decidingZone s i = (zoneList s.image i).foldl (chosen s) none := rfl

/-- One more zone, of a higher index than those before, is taken into the choice. -/
theorem firstOf_next {s : State} {l : List Nat} {best : Option Deciding} {z : Nat} (h : FirstOf s l best)
    (hz : ∀ y ∈ l, y < z) : FirstOf s (l ++ [z]) (chosen s best z) := by
  have hmem : ∀ y, y ∈ l ++ [z] ↔ y ∈ l ∨ y = z := by simp
  have hquiet : ZoneState.quiet.urgency = 0 := rfl
  unfold chosen candidateOf
  dsimp only
  by_cases hq : (s.zone z).state = .quiet
  · rw [if_pos (by simpa using hq)]
    cases best with
    | none => exact fun y hy => ((hmem y).1 hy).elim (h y) fun he => he ▸ hq
    | some b =>
      obtain ⟨hb, hcand, hbest⟩ := h
      refine ⟨(hmem _).2 (.inl hb), hcand, fun y hy hne => ((hmem y).1 hy).elim (hbest y · hne) fun he => ?_⟩
      subst he
      have hpos := urgency_pos hcand.active
      refine .inl ?_
      rw [hq, statePlace_eq, statePlace_eq]
      have := urgency_le b.state
      omega
  · rw [if_neg (by simpa using hq)]
    cases best with
    | none =>
      refine ⟨(hmem _).2 (.inr rfl), ⟨rfl, rfl, hq⟩, fun y hy hne => ((hmem y).1 hy).elim (fun hy => ?_) fun he => absurd he hne⟩
      refine .inl ?_
      rw [h y hy, statePlace_eq, statePlace_eq]
      have := urgency_pos hq
      have := urgency_le (s.zone z).state
      dsimp only
      omega
    | some b =>
      obtain ⟨hb, ⟨hbst, hblv, hbq⟩, hbest⟩ := h
      have hle := urgency_le b.state
      have hle' := urgency_le (s.zone z).state
      have hbefore : ∀ y ∈ l, y ≠ b.zone → b.state.urgency < (s.zone z).state.urgency →
          statePlace (s.zone z).state < statePlace (s.zone y).state := fun y hy hne hu => by
        have hyb := hbest y hy hne
        have hley := urgency_le (s.zone y).state
        rw [statePlace_eq, statePlace_eq]
        rcases hyb with hlt | ⟨heq, -⟩
        · rw [statePlace_eq, statePlace_eq] at hlt
          omega
        · rw [← heq]
          omega
      unfold moreUrgent
      dsimp only
      by_cases hu : b.state.urgency < (s.zone z).state.urgency
      · rw [if_pos hu]
        refine ⟨(hmem _).2 (.inr rfl), ⟨rfl, rfl, hq⟩, fun y hy hne => ((hmem y).1 hy).elim (fun hy => .inl ?_) fun he => absurd he hne⟩
        by_cases hyb : y = b.zone
        · rw [hyb, ← hbst, statePlace_eq, statePlace_eq]
          dsimp only
          omega
        · exact hbefore y hy hyb hu
      · rw [if_neg hu]
        by_cases hsame : (s.zone z).state = b.state ∧ b.level < (s.zone z).level
        · obtain ⟨hst, hlv⟩ := hsame
          rw [if_pos (by simp [hst, hlv])]
          refine ⟨(hmem _).2 (.inr rfl), ⟨rfl, rfl, hq⟩, fun y hy hne => ((hmem y).1 hy).elim (fun hy => ?_) fun he => absurd he hne⟩
          by_cases hyb : y = b.zone
          · subst hyb
            exact .inr ⟨hst.trans hbst, .inl (hblv ▸ hlv)⟩
          · rcases hbest y hy hyb with hlt | ⟨heq, hrest⟩
            · exact .inl (by rw [hst]; exact hlt)
            · refine .inr ⟨hst.trans heq, .inl ?_⟩
              dsimp only
              rcases hrest with hlt | ⟨he, -⟩ <;> omega
        · rw [if_neg fun hc => hsame (by
            simp only [Bool.and_eq_true, beq_iff_eq, decide_eq_true_eq] at hc
            exact ⟨urgency_inj hc.1, hc.2⟩)]
          refine ⟨(hmem _).2 (.inl hb), ⟨hbst, hblv, hbq⟩, fun y hy hne => ((hmem y).1 hy).elim (hbest y · hne) fun he => ?_⟩
          subst he
          by_cases hst : (s.zone y).state = b.state
          · refine .inr ⟨hst.symm, ?_⟩
            have hnlt : ¬b.level < (s.zone y).level := fun h => hsame ⟨hst, h⟩
            by_cases hlv : (s.zone y).level = b.level
            · exact .inr ⟨hlv.symm, hz _ hb⟩
            · exact .inl (by omega)
          · refine .inl ?_
            have hne : (s.zone y).state.urgency ≠ b.state.urgency := fun h => hst (urgency_inj h)
            rw [statePlace_eq, statePlace_eq]
            omega

theorem decides_decidingZone (s : State) (i : Nat) : Decides s i (decidingZone s i) := by
  have hgen : ∀ l : List Nat, l.Pairwise (· < ·) → FirstOf s l (l.foldl (chosen s) none) := by
    intro l
    induction l using List.reverseRecOn with
    | nil => exact fun _ z hz => absurd hz List.not_mem_nil
    | append_singleton l z ih =>
      intro hp
      obtain ⟨hp, -, hlt⟩ := List.pairwise_append.1 hp
      rw [List.foldl_concat]
      exact firstOf_next (ih hp) fun y hy => hlt y hy z (List.mem_singleton_self z)
  have hfirst := hgen (zoneList s.image i) (List.pairwise_lt_range.filter _)
  rw [← decidingZone_eq] at hfirst
  cases hd : decidingZone s i with
  | none =>
    rw [hd] at hfirst
    exact hfirst
  | some d =>
    rw [hd] at hfirst
    obtain ⟨hmem, ⟨hst, hlv, hq⟩, hbest⟩ := hfirst
    exact ⟨hmem, hst, hlv, hq, hbest⟩

theorem zonesDecided_of_ok {s : State} (h : ZonesOk s) : ZonesDecided s := fun i hi => by
  rw [h.2.2 i hi]
  exact decides_decidingZone s i

theorem zoneForm_eq (img : Image) (d : Deciding) : zoneForm img d = zoneContent img d := by
  unfold zoneForm zoneContent
  cases d.state <;> simp

/-! ## The demands of an event at one zone (R104, R138) -/

/-- The demands that the threatened segments give. -/
def demandsFor (s : State) (l : List Nat) : List Instr :=
  l.flatMap fun i => if s.shownZone i = decidingZone s i then [] else zoneDeliveries s i (decidingZone s i)

theorem redecide_collects {s : State} (l : List Nat) (hnd : l.Nodup) (r : State × List Instr)
    (hr : DecidedFrom s r) (hshown : ∀ i ∈ l, r.1.shownZone i = s.shownZone i) :
    (l.foldl redecideSegment r).2 = r.2 ++ demandsFor s l := by
  induction l generalizing r with
  | nil => exact (List.append_nil _).symm
  | cons i l ih =>
    obtain ⟨hi, hnd⟩ := List.nodup_cons.1 hnd
    have hstep : (redecideSegment r i).2 =
        r.2 ++ if s.shownZone i = decidingZone s i then [] else zoneDeliveries s i (decidingZone s i) := by
      unfold redecideSegment
      rw [hshown i List.mem_cons_self, hr.decidingZone]
      dsimp only
      split
      · exact (List.append_nil _).symm
      · rw [zoneDeliveries, hr.2.2.2]
        rfl
    rw [List.foldl_cons, ih hnd _ (hr.step i) fun j hj => by
      have hji : j ≠ i := fun h => hi (h ▸ hj)
      rw [redecideSegment_ne hji, hshown j (List.mem_cons_of_mem _ hj)], hstep, demandsFor,
      demandsFor, List.flatMap_cons, List.append_assoc]

theorem zoneDeliveries_sign (s : State) (i : Nat) (d : Option Deciding) {n : Nat} (hn : n < 24) :
    (zoneDeliveries s i d).filter (fun c => deliveredSign c == some n) =
      if (imageSign s.image n).segment = i then [.internalDelivery n .zone (d.map (zoneForm s.image))] else [] := by
  have hfilter := filter_eq_and (l := List.range 24) List.nodup_range n fun k => (imageSign s.image k).segment == i
  have hform : (zoneContent s.image : Deciding → DemandContent) = zoneForm s.image :=
    funext fun d => (zoneForm_eq s.image d).symm
  unfold zoneDeliveries
  rw [List.filter_map, signList, List.filter_filter, hform]
  have hpred : (fun k => ((fun c => deliveredSign c == some n) ∘
      fun n => Instr.internalDelivery n .zone (d.map (zoneForm s.image))) k &&
      (imageSign s.image k).segment == i) = fun k => k == n && (imageSign s.image k).segment == i := by
    funext k
    simp [deliveredSign]
  rw [hpred, hfilter]
  by_cases hi : (imageSign s.image n).segment = i <;> simp [hi, hn]

theorem bySign_demandsFor {s : State} {l : List Nat} (hnd : l.Nodup) :
    bySign (demandsFor s l) = (List.range 24).flatMap fun n =>
      if (imageSign s.image n).segment ∈ l ∧
          s.shownZone (imageSign s.image n).segment ≠ decidingZone s (imageSign s.image n).segment then
        [Instr.internalDelivery n .zone ((decidingZone s (imageSign s.image n).segment).map (zoneForm s.image))]
      else [] := by
  refine List.flatMap_congr fun n hn => ?_
  have hone : ∀ i ∈ l, ((if s.shownZone i = decidingZone s i then []
      else zoneDeliveries s i (decidingZone s i)).filter fun c => deliveredSign c == some n) =
      if i == (imageSign s.image n).segment && decide (s.shownZone i ≠ decidingZone s i) then
        [Instr.internalDelivery n .zone ((decidingZone s i).map (zoneForm s.image))] else [] := fun i _ => by
    by_cases hs : s.shownZone i = decidingZone s i
    · simp [hs]
    · rw [if_neg hs, zoneDeliveries_sign s i _ (List.mem_range.1 hn)]
      by_cases hi : (imageSign s.image n).segment = i
      · simp [hi, hs]
      · have hi' : ¬i = (imageSign s.image n).segment := fun h => hi h.symm
        simp [hi, hi']
  rw [demandsFor, List.filter_flatMap, List.flatMap_congr hone, flatMap_ite_eq,
    filter_eq_and hnd _ fun i => decide (s.shownZone i ≠ decidingZone s i)]
  by_cases hmem : (imageSign s.image n).segment ∈ l ∧
      s.shownZone (imageSign s.image n).segment ≠ decidingZone s (imageSign s.image n).segment
  · rw [if_pos hmem, if_pos ⟨hmem.1, by simpa using hmem.2⟩]
    rfl
  · rw [if_neg hmem, if_neg fun h => hmem ⟨h.1, by simpa using h.2⟩]
    rfl

/-- What is delivered when the deciding zones of one zone's segments are determined afresh. -/
theorem redecide_deliveries {s : State} (ht : TablesOk s) (z : Nat) :
    (redecide s z).deliveries = s.deliveries ++ zoneDemands s (redecide s z) := by
  obtain ⟨-, hnd⟩ := imageZone_threatened ht.1 z
  have hnd : (threatened s z).Nodup := hnd
  have hbase : ((threatened s z).foldl redecideSegment (s, [])).1.deliveries = s.deliveries :=
    (leaves_foldl_redecideSegment (threatened s z) (s, [])).kept .deliveries (by decide)
  have hcollected := redecide_collects (s := s) (threatened s z) hnd (s, []) ⟨rfl, rfl, rfl, rfl⟩ fun _ _ => rfl
  show ((threatened s z).foldl redecideSegment (s, [])).1.deliveries ++
    bySign ((threatened s z).foldl redecideSegment (s, [])).2 = _
  rw [hbase, hcollected, List.nil_append, bySign_demandsFor hnd, zoneDemands, List.filterMap_eq_flatMap_toList]
  congr 1
  refine List.flatMap_congr fun n _ => ?_
  dsimp only
  rw [redecide_shownZone ht]
  by_cases hi : (imageSign s.image n).segment ∈ threatened s z
  · simp only [hi, true_and, if_true]
    by_cases hs : s.shownZone (imageSign s.image n).segment = decidingZone s (imageSign s.image n).segment
    · rw [if_neg fun h => h hs, if_pos hs.symm]
      rfl
    · rw [if_pos hs, if_neg fun h => hs h.symm]
      rfl
  · simp only [hi, false_and, if_false, if_true]
    rfl

theorem zoneDemands_congr {s u t : State} (himg : u.image = s.image) (hshown : ∀ i, u.shownZone i = s.shownZone i) :
    zoneDemands u t = zoneDemands s t := by
  simp only [zoneDemands, himg, hshown]

theorem zoneDemands_same {s t : State} (hshown : ∀ i, t.shownZone i = s.shownZone i) : zoneDemands s t = [] := by
  simp [zoneDemands, hshown]

/-- What one event at a zone leaves: its record, the deliveries of the event and then the zone demands. -/
structure ZoneWritten (z : Nat) (r : Zone) (ds : List Instr) (s t : State) : Prop where
  zone : ∀ y, t.zone y = if y = z then r else s.zone y
  lines : t.zones.lines = s.zones.lines
  deliveries : t.deliveries = s.deliveries ++ ds ++ zoneDemands s t
  told : Told [] s t
  clock : t.clock = s.clock

theorem zones_sized {s : State} {z : Nat} (ht : TablesOk s) (hz : z < 10) : z < s.zones.zones.length := by
  obtain ⟨-, -, -, -, -, -, hlen, -⟩ := ht
  omega

theorem setZone_zone_of_lt {s : State} {z : Nat} (hz : z < s.zones.zones.length) (y : Nat) (r : Zone) :
    (s.setZone z r).zone y = if y = z then r else s.zone y := by
  split
  · next h => rw [h, State.setZone_zone_self s z r hz]
  · next h => rw [State.setZone_zone_ne s z y r h]

theorem redecide_written {s : State} {z : Nat} (r : Zone) (ds : List Instr) (ht : TablesOk s) (hz : z < 10) :
    ZoneWritten z r ds s (redecide ((s.setZone z r).deliver ds) z) := by
  have htu : TablesOk ((s.setZone z r).deliver ds) :=
    ((leaves_setZone s z r).mono.andThen (leaves_deliver _ ds) (l' := zoneAreas)).tablesOk ht
  have hleaves := leaves_redecide ((s.setZone z r).deliver ds) z
  have hports := hleaves.changesOnly (bs := [.zones, .deliveries]) (by decide) (by decide) .ports (by decide)
  refine ⟨fun y => ?_, (redecide_zones _ z).2.1, redecide_deliveries htu z, told_of_ports hports,
    hleaves.kept .clock (by decide)⟩
  rw [redecide_zone]
  exact setZone_zone_of_lt (zones_sized ht hz) y r

theorem zoneEnters_written {s : State} {z : Nat} (r : Zone) (ht : TablesOk s) (hz : z < 10) :
    ZoneWritten z r [] s (zoneEnters s z r) := by
  have h := redecide_written r [] ht hz
  have hnil : (s.setZone z r).deliver [] = s.setZone z r := by
    rw [State.deliver, List.append_nil]
  rwa [hnil] at h

namespace ZoneWritten

set_option Elab.async false

variable {z : Nat} {r : Zone} {ds : List Instr} {s t : State}

theorem self (h : ZoneWritten z r ds s t) : t.zone z = r := by rw [h.zone, if_pos rfl]

theorem other (h : ZoneWritten z r ds s t) : ∀ y, y ≠ z → t.zone y = s.zone y := fun y hy => by
  rw [h.zone, if_neg hy]

/-- The notice of the event, behind what it did. -/
theorem notice (h : ZoneWritten z r ds s t) (cause : ZoneCause) (l : Option (Nat × LineState)) (b : Option Nat) :
    Told [(z, .zone r.state cause r.level r.degraded l b)] s (zoneNotice t z cause l b) := by
  have hnotice := told_notify t z (.zone (t.zone z).state cause (t.zone z).level (t.zone z).degraded l b)
  rw [h.self] at hnotice
  have hboth := h.told.trans hnotice (congrArg Clock.seconds h.clock)
  rw [zoneNotice, h.self]
  exact hboth

end ZoneWritten

end Sys2Proof.Machine

/-! PROOF. The commands of the zones: SET LEVEL, BEGIN SWEEP, ZONE CLEAR and the permits (R96–R102). -/

namespace Sys2Proof.Machine

set_option Elab.async false

open Sys2Proof

/-! ## SET LEVEL and BEGIN SWEEP (R96, R97, R106) -/

theorem levelled_eq (s : State) (r : Zone) (v : Nat) : levelled s r v = { r with
    level := v, state := if r.state = .quiet ∨ r.state = .watch then
      (if s.image.watchThreshold ≤ v then .watch else .quiet) else r.state } := by
  unfold levelled stateOfLevel
  cases r.state <;> simp

/-- The state that SET LEVEL leaves where it changes the zone. -/
def levelState (s : State) (z : Nat) (new : Zone) : State :=
  zoneNotice (if (s.zone z).level = new.level then zoneEnters s z new
    else (zoneEnters s z new).deliver (levelDeliveries s z)) z .level none none

theorem runSetLevel_same {s : State} {p z v : Nat} (h : s.zone z = levelled s (s.zone z) v) :
    runSetLevel s p (z, v) = .mk .done [byteOf (levelled s (s.zone z) v).level, (levelled s (s.zone z) v).state.code] s := by
  unfold runSetLevel
  dsimp only
  rw [if_pos h]

theorem runSetLevel_changed {s : State} {p z v : Nat} (h : s.zone z ≠ levelled s (s.zone z) v) :
    runSetLevel s p (z, v) = .mk .done [byteOf (levelled s (s.zone z) v).level, (levelled s (s.zone z) v).state.code]
      (levelState s z (levelled s (s.zone z) v)) := by
  unfold runSetLevel
  dsimp only
  rw [if_neg h]
  rfl

/-- What SET LEVEL leaves where it changes the zone (R96, R106). -/
theorem levelState_row {s : State} {z : Nat} (new : Zone) (ht : TablesOk s) (hz : z < 10) :
    (∀ y, (levelState s z new).zone y = if y = z then new else s.zone y) ∧
      (levelState s z new).zones.lines = s.zones.lines ∧
      (levelState s z new).deliveries = s.deliveries ++ zoneDemands s (levelState s z new) ++
        (if new.level = (s.zone z).level then [] else levelDeliveries s z) ∧
      Told [(z, .zone new.state .level new.level new.degraded none none)] s (levelState s z new) := by
  have h := zoneEnters_written new ht hz
  have hdel := h.deliveries
  rw [List.append_nil] at hdel
  unfold levelState
  by_cases hl : (s.zone z).level = new.level
  · rw [if_pos hl, if_pos hl.symm, List.append_nil]
    exact ⟨h.zone, h.lines, hdel, h.notice _ _ _⟩
  · rw [if_neg hl, if_neg fun he => hl he.symm]
    refine ⟨h.zone, h.lines, congrArg (· ++ levelDeliveries s z) hdel, ?_⟩
    have hnotice := told_notify ((zoneEnters s z new).deliver (levelDeliveries s z)) z
      (.zone ((zoneEnters s z new).zone z).state .level ((zoneEnters s z new).zone z).level
        ((zoneEnters s z new).zone z).degraded none none)
    have hquiet : Told [] s ((zoneEnters s z new).deliver (levelDeliveries s z)) := h.told.after rfl
    have hboth := hquiet.trans hnotice (congrArg Clock.seconds h.clock)
    rw [h.self] at hboth
    rw [zoneNotice]
    show Told _ s (State.notify _ z (.zone ((zoneEnters s z new).zone z).state .level
      ((zoneEnters s z new).zone z).level ((zoneEnters s z new).zone z).degraded none none))
    rw [h.self]
    exact hboth

theorem setLevel_row {s : State} {p z v : Nat} (ht : TablesOk s) (hs : ZonesOk s)
    (hacc : Accepted setLevelCommand s p (z, v)) : ∃ t, exec (.setLevel p) s = .next t ∧
      t.zone z = { s.zone z with
        level := v,
        state := if (s.zone z).state = .quiet ∨ (s.zone z).state = .watch then
          (if s.image.watchThreshold ≤ v then .watch else .quiet) else (s.zone z).state } ∧
      v ≤ 5 ∧ (∀ y, y ≠ z → t.zone y = s.zone y) ∧ t.zones.lines = s.zones.lines ∧
      t.deliveries = s.deliveries ++ zoneDemands s t ++
        (if v = (s.zone z).level then [] else (imageZone s.image z).threatened.flatMap fun i =>
          (signList s.image i).map Instr.placeholderChange) ∧
      ZonesDecided t ∧
      Replied p .setLevel .done [byteOf v, (t.zone z).state.code] s t ∧
      NoticeIf (t.zone z ≠ s.zone z) z
        (.zone (t.zone z).state .level v (s.zone z).degraded none none) s t ∧
      LinesKept s t ∧ ChangesOnly [.ports, .zones, .deliveries] s t := by
  have hlt := accepted_lt ht hacc
  obtain ⟨body, -, hargs⟩ := accepted_parsed hacc
  obtain ⟨hz, hv⟩ := argsLevel_ok hargs
  have hexec : exec (.setLevel p) s = .next (outcome setLevelCommand s p (z, v)) :=
    exec_accepted rfl (fun _ _ => ⟨rfl, rfl, rfl⟩) hacc
  have hdecided := zonesDecided_of_ok (exec_zonesOk (c := .setLevel p) nofun ht hs hexec)
  have hchanges : ChangesOnly [.ports, .zones, .deliveries] s (outcome setLevelCommand s p (z, v)) :=
    outcome_changesOnly ((leaves_run .setLevel (popFrame s p) p (z, v)).changesOnly (by decide)) (by decide)
  have hnew := levelled_eq s (s.zone z) v
  have hlevel : (levelled s (s.zone z) v).level = v := by rw [hnew]
  have hdegraded : (levelled s (s.zone z) v).degraded = (s.zone z).degraded := by rw [hnew]
  by_cases hsame : s.zone z = levelled s (s.zone z) v
  · have hrun : setLevelCommand.run (popFrame s p) p (z, v) = _ := runSetLevel_same (s := popFrame s p) (p := p) hsame
    obtain ⟨hnotices, hreply, hlines⟩ := outcome_told hrun (told_refl _) hlt
    have hv' : v = (s.zone z).level := by rw [hsame, hlevel]
    have heq := outcome_eq hrun
    have hzone : ∀ y, (outcome setLevelCommand s p (z, v)).zone y = s.zone y := fun y => by rw [heq]; rfl
    have hshown : ∀ i, (outcome setLevelCommand s p (z, v)).shownZone i = s.shownZone i := fun i => by rw [heq]; rfl
    refine ⟨_, hexec, ?_, hv, fun y _ => hzone y, by rw [heq]; rfl, ?_, hdecided, ?_, ⟨fun h => absurd (hzone z) h,
      fun _ => noNotice_of_noticesSent hnotices⟩, hlines, hchanges⟩
    · rw [hzone, ← hnew]
      exact hsame
    · rw [zoneDemands_same hshown, if_pos hv', heq]
      simp [State.owe, popFrame]
    · rw [hzone]
      have hreply : Replied p .setLevel .done [byteOf (levelled s (s.zone z) v).level,
        (levelled s (s.zone z) v).state.code] s (outcome setLevelCommand s p (z, v)) := hreply
      rwa [hlevel, ← hsame] at hreply
  · have hrun : setLevelCommand.run (popFrame s p) p (z, v) = _ := runSetLevel_changed (s := popFrame s p) (p := p) hsame
    obtain ⟨hzone, hrest, hdel, htold⟩ :=
      levelState_row (s := popFrame s p) (levelled s (s.zone z) v) ((leaves_popFrame s p).tablesOk ht) hz
    obtain ⟨hnotices, hreply, hlines⟩ := outcome_told hrun htold hlt
    have heq := outcome_eq hrun
    have hself : (outcome setLevelCommand s p (z, v)).zone z = levelled s (s.zone z) v := by
      rw [heq]
      exact (hzone z).trans (if_pos rfl)
    refine ⟨_, hexec, by rw [hself, hnew], hv, fun y hy => ?_, by rw [heq]; exact hrest, ?_, hdecided, ?_,
      ⟨fun _ => ?_, fun h => absurd (fun he => hsame (he.symm.trans hself)) h⟩, hlines, hchanges⟩
    · rw [heq]
      exact (hzone y).trans (if_neg hy)
    · have hdel' := hdel
      rw [hlevel] at hdel'
      rw [heq]
      exact hdel'
    · rw [hself]
      have hreply : Replied p .setLevel .done [byteOf (levelled s (s.zone z) v).level,
        (levelled s (s.zone z) v).state.code] s (outcome setLevelCommand s p (z, v)) := hreply
      rwa [hlevel] at hreply
    · rw [hself]
      have hone := oneNotice_of_noticesSent hnotices
      rwa [hlevel, hdegraded] at hone

/-- The state that BEGIN SWEEP leaves. -/
def sweepState (s : State) (z : Nat) : State :=
  zoneNotice (redecide ((s.setZone z { s.zone z with state := .sweep }).deliver (lockDeliveries s z)) z) z .sweep none none

theorem runBeginSweep_tripped {s : State} {p z : Nat} (h : (s.zone z).state = .tripped) :
    runBeginSweep s p z = .mk .done [ZoneState.sweep.code] (sweepState s z) := by
  unfold runBeginSweep
  rw [h]
  rfl

theorem runBeginSweep_refused {s : State} {p z : Nat} (h : (s.zone z).state ≠ .tripped) :
    runBeginSweep s p z = refuse s .state := by
  unfold runBeginSweep
  exact if_neg (by simpa using h)

/-- Settles O28. -/
theorem levelAndSweepCommands : Obligations.LevelAndSweepCommands := by
  intro s p ht hs
  refine ⟨fun z v hacc => setLevel_row ht hs hacc, fun z hacc => ?_⟩
  have hlt := accepted_lt ht hacc
  obtain ⟨body, -, hargs⟩ := accepted_parsed hacc
  have hz : z < 10 := by simpa [zoneOk] using argsIndex_ok hargs
  have hexec : exec (.beginSweep p) s = .next (outcome beginSweepCommand s p z) :=
    exec_accepted rfl (fun _ _ => ⟨rfl, rfl, rfl⟩) hacc
  split
  · next hst =>
    have hrun : beginSweepCommand.run (popFrame s p) p z = _ := runBeginSweep_tripped (s := popFrame s p) (p := p) hst
    have hwritten := redecide_written (s := popFrame s p) { s.zone z with state := .sweep } (lockDeliveries s z)
      ((leaves_popFrame s p).tablesOk ht) hz
    obtain ⟨hnotices, hreply, hlines⟩ := outcome_told hrun (hwritten.notice .sweep none none) hlt
    have heq := outcome_eq hrun
    refine ⟨_, hexec, by rw [heq]; exact hwritten.self, fun y hy => by rw [heq]; exact hwritten.other y hy,
      by rw [heq]; exact hwritten.lines, by rw [heq]; exact hwritten.deliveries,
      zonesDecided_of_ok (exec_zonesOk (c := .beginSweep p) nofun ht hs hexec), hreply,
      oneNotice_of_noticesSent hnotices, hlines,
      outcome_changesOnly ((leaves_run .beginSweep (popFrame s p) p z).changesOnly (by decide)) (by decide)⟩
  · next hst =>
    rw [hexec, outcome_answered (runBeginSweep_refused (s := popFrame s p) (p := p) hst)]
    rfl

/-! ## ZONE CLEAR (R98, R99, R107) -/

theorem badLines_eq (s : State) (z : Nat) : badLines s z = Refusing s z := by
  refine List.filter_congr fun l _ => ?_
  rw [Bool.eq_iff_iff]
  simp [Line.refusesClear, or_assoc]

theorem told_lineNotices (z : Nat) (st : LineState) (ls : List Nat) (t : State) :
    Told (ls.map fun l => (z, .zone (t.zone z).state .line (t.zone z).level (t.zone z).degraded (some (l, st)) none))
      t (ls.foldl (fun t l => zoneNotice t z .line (some (l, st)) none) t) := by
  induction ls generalizing t with
  | nil => exact told_refl t
  | cons l ls ih =>
    have hone : Told [(z, .zone (t.zone z).state .line (t.zone z).level (t.zone z).degraded (some (l, st)) none)] t
        (zoneNotice t z .line (some (l, st)) none) := told_notify t z _
    exact hone.trans (ih (zoneNotice t z .line (some (l, st)) none)) rfl

theorem runZoneClear_refused {s : State} {p z : Nat} {b : Bool} (h : (s.zone z).state ≠ .sweep) :
    runZoneClear s p (z, b) = refuse s .state := by
  unfold runZoneClear
  exact if_pos (by simpa using h)

theorem runZoneClear_lines {s : State} {p z : Nat} {b : Bool} (h : (s.zone z).state = .sweep)
    (hls : Refusing s z ≠ [] ∧ b = false) : runZoneClear s p (z, b) = .mk .line
      (byteOf (Refusing s z).length :: (Refusing s z).flatMap fun l => [byteOf l, (s.line l).state.code]) s := by
  have hbad : (!(badLines s z).isEmpty && !b) = true := by simp [badLines_eq, hls]
  unfold runZoneClear
  rw [if_neg (by simp [h])]
  dsimp only
  rw [if_pos hbad, lineData, badLines_eq]

theorem runZoneClear_cleared {s : State} {p z : Nat} {b : Bool} (h : (s.zone z).state = .sweep)
    (hls : ¬(Refusing s z ≠ [] ∧ b = false)) : runZoneClear s p (z, b) = .mk .done
      [byteOf (Refusing s z).length, ((clearZone s z (Refusing s z)).zone z).state.code]
      (clearZone s z (Refusing s z)) := by
  have hbad : ¬(!(badLines s z).isEmpty && !b) = true := by
    rw [badLines_eq]
    simpa using hls
  unfold runZoneClear
  rw [if_neg (by simp [h])]
  dsimp only
  rw [if_neg hbad, badLines_eq]

/-- What the clearance of a zone leaves (R98, R99, R107). -/
theorem clearZone_row {s : State} {z : Nat} (ht : TablesOk s) (hz : z < 10) :
    let ls := Refusing s z
    let t := clearZone s z ls
    (t.zone z).state = (if s.image.watchThreshold ≤ (s.zone z).level then .watch else .quiet) ∧
      (t.zone z).fired = [] ∧ (t.zone z).level = (s.zone z).level ∧
      (∀ y, y ≠ z → t.zone y = s.zone y) ∧
      (∀ l < 24, t.line l = if l ∈ ls then
        { state := .bypassed, pending := none, confirm := 0 } else s.line l) ∧
      t.deliveries = s.deliveries ++
        ((imageZone s.image z).threatened.map fun i =>
          Instr.zoneClearanceEvent i z (!lockedByOther s z i)) ++ zoneDemands s t ∧
      Told ((z, .zone (t.zone z).state .cleared (s.zone z).level (t.zone z).degraded none (some ls.length)) ::
          ((List.range 4).flatMap fun inp => ls.filter fun l => inputOf s l = inp).map fun l =>
            (z, .zone (t.zone z).state .line (s.zone z).level (t.zone z).degraded
              (some (l, .bypassed)) none)) s t := by
  dsimp only
  have hlen : s.zones.lines.length = 24 := by
    obtain ⟨-, -, -, -, -, -, -, hlen, -⟩ := ht
    exact hlen
  have hmem : ∀ l ∈ Refusing s z, l < s.zones.lines.length := fun l hl => by
    rw [hlen]
    exact (mem_lineList.1 (List.mem_filter.1 hl).1).1
  obtain ⟨hzones, hshown, himg, hline⟩ := foldl_bypass (Refusing s z) s hmem
  have hleaves : Leaves [.zones] s ((Refusing s z).foldl bypass s) :=
    leaves_foldl bypass (fun u l => leaves_setLine u l _) (Refusing s z) s
  have hports : ((Refusing s z).foldl bypass s).ports = s.ports :=
    hleaves.changesOnly (bs := [.zones]) (by decide) (by decide) .ports (by decide)
  have hdel : ((Refusing s z).foldl bypass s).deliveries = s.deliveries := hleaves.kept .deliveries (by decide)
  have hclock : ((Refusing s z).foldl bypass s).clock = s.clock := hleaves.kept .clock (by decide)
  have hinput : (byInput s (Refusing s z)) =
      (List.range 4).flatMap fun inp => (Refusing s z).filter fun l => inputOf s l = inp := by
    simp only [byInput, beq_eq_decide]
  rw [← hinput]
  generalize hls : Refusing s z = ls at *
  generalize hb : ls.foldl bypass s = b at *
  have hbz : z < b.zones.zones.length := by
    rw [hzones]
    exact zones_sized ht hz
  have hzone : ∀ y, b.zone y = s.zone y := fun y => by rw [State.zone, hzones]; rfl
  have hderived : ∀ y, (deriveDegraded b z).zone y = if y = z then { s.zone z with degraded := degradedNow b z } else s.zone y :=
    fun y => by
      rw [← hzone z, ← hzone y]
      exact setZone_zone_of_lt hbz y _
  have htd : TablesOk (deriveDegraded b z) := (hleaves.andThen (leaves_setZone b z _) (l' := [.zones])).tablesOk ht
  have hself := hderived z
  rw [if_pos rfl] at hself
  have hclear : clearZone s z ls = (byInput s ls).foldl (fun t l => zoneNotice t z .line (some (l, .bypassed)) none)
      (zoneNotice (redecide (((deriveDegraded b z).setZone z
        { s.zone z with degraded := degradedNow b z, fired := [], state := stateOfLevel s (s.zone z).level }).deliver
          (clearanceDeliveries s z)) z) z .cleared none (some ls.length)) := by
    unfold clearZone
    dsimp only
    rw [hb, hself]
  rw [hclear]
  generalize byInput s ls = order
  have hwritten := redecide_written (s := deriveDegraded b z)
    { s.zone z with degraded := degradedNow b z, fired := [], state := stateOfLevel s (s.zone z).level }
    (clearanceDeliveries s z) htd hz
  clear hclear
  generalize redecide (((deriveDegraded b z).setZone z
    { s.zone z with degraded := degradedNow b z, fired := [], state := stateOfLevel s (s.zone z).level }).deliver
      (clearanceDeliveries s z)) z = w at *
  have hfold := told_lineNotices z .bypassed order (zoneNotice w z .cleared none (some ls.length))
  have hkept := zones_foldl_zoneNotice order (zoneNotice w z .cleared none (some ls.length)) z .bypassed
  have hdelivered : (order.foldl (fun t l => zoneNotice t z .line (some (l, .bypassed)) none)
      (zoneNotice w z .cleared none (some ls.length))).deliveries = w.deliveries :=
    (leaves_foldl (l := [.notices]) _ (fun t l => leaves_zoneNotice t z .line (some (l, .bypassed)) none) order
      (zoneNotice w z .cleared none (some ls.length))).kept .deliveries (by decide)
  generalize order.foldl (fun t l => zoneNotice t z .line (some (l, .bypassed)) none)
    (zoneNotice w z .cleared none (some ls.length)) = t at *
  have htz : ∀ y, t.zone y = w.zone y := fun y => by rw [State.zone, hkept]; rfl
  have htself : t.zone z = { s.zone z with degraded := degradedNow b z, fired := [], state := stateOfLevel s (s.zone z).level } :=
    (htz z).trans hwritten.self
  have hbase : Told [] s (deriveDegraded b z) := told_of_ports hports
  rw [htself]
  refine ⟨rfl, rfl, rfl, fun y hy => ?_, fun l _ => ?_, ?_, ?_⟩
  · rw [htz, hwritten.other y hy, hderived, if_neg hy]
  · rw [← hline l, State.line, hkept]
    show w.zones.lines.getD l default = _
    rw [hwritten.lines]
    rfl
  · have hdemands : zoneDemands (deriveDegraded b z) w = zoneDemands s t := by
      rw [zoneDemands_congr (s := s) (u := deriveDegraded b z) himg fun i => by
        show b.zones.shown.getD i none = _
        rw [hshown]
        rfl]
      simp only [zoneDemands, State.shownZone, hkept]
      rfl
    rw [hdelivered, hwritten.deliveries, hdemands]
    show b.deliveries ++ _ ++ _ = _
    rw [hdel]
    rfl
  · have hcleared := hwritten.notice .cleared none (some ls.length)
    have htwo := (hbase.trans hcleared (congrArg Clock.seconds hclock)).trans hfold
      ((congrArg Clock.seconds hwritten.clock).trans (congrArg Clock.seconds hclock))
    have hnotice : ∀ y, (zoneNotice w z .cleared none (some ls.length)).zone y = w.zone y := fun _ => rfl
    rw [hnotice, hwritten.self] at htwo
    exact htwo

theorem degradedByLines_of_ok {s : State} {z : Nat} (h : ZonesOk s) (hz : z < 10) : DegradedByLines s z := by
  obtain ⟨-, hdeg⟩ := (zoneOk_iff s z).1 (h.1 z hz)
  rw [DegradedByLines, hdeg, degradedNow, List.any_eq_true]
  simp [Line.degrades]

/-- Settles O29. -/
theorem zoneClearReleasesZone : Obligations.ZoneClearReleasesZone := by
  intro s p z b ht hs hacc
  have hlt := accepted_lt ht hacc
  obtain ⟨body, -, hargs⟩ := accepted_parsed hacc
  have hz : z < 10 := argsZoneClear_ok hargs
  have hexec : exec (.zoneClear p) s = .next (outcome zoneClearCommand s p (z, b)) :=
    exec_accepted rfl (fun _ _ => ⟨rfl, rfl, rfl⟩) hacc
  dsimp only
  split
  · next hst =>
    rw [hexec, outcome_answered (runZoneClear_refused (s := popFrame s p) (p := p) (b := b) hst)]
    rfl
  · next hst =>
    have hst : (s.zone z).state = .sweep := not_not.1 hst
    split
    · next hls =>
      rw [hexec, outcome_answered (runZoneClear_lines (s := popFrame s p) (p := p) hst hls)]
      rfl
    · next hls =>
      have hrun : zoneClearCommand.run (popFrame s p) p (z, b) = _ :=
        runZoneClear_cleared (s := popFrame s p) (p := p) hst hls
      obtain ⟨hstate, hfired, hlevel, hother, hlines, hdel, htold⟩ :=
        clearZone_row (s := popFrame s p) ((leaves_popFrame s p).tablesOk ht) hz
      obtain ⟨hnotices, hreply, hkept⟩ := outcome_told hrun htold hlt
      have heq := outcome_eq hrun
      have hok := exec_zonesOk (c := .zoneClear p) nofun ht hs hexec
      have hzone : ∀ y, (outcome zoneClearCommand s p (z, b)).zone y =
          (clearZone (popFrame s p) z (Refusing (popFrame s p) z)).zone y := fun y => by rw [heq]; rfl
      refine ⟨_, hexec, by rw [hzone]; exact hstate, by rw [hzone]; exact hfired, by rw [hzone]; exact hlevel,
        fun y hy => by rw [hzone]; exact hother y hy, fun l hl => by rw [heq]; exact hlines l hl,
        by rw [heq]; exact hdel, zonesDecided_of_ok hok, degradedByLines_of_ok hok hz, ?_, ?_, hkept,
        outcome_changesOnly ((leaves_run .zoneClear (popFrame s p) p (z, b)).changesOnly (by decide)) (by decide)⟩
      · rw [hzone]
        exact hnotices
      · rw [hzone]
        exact hreply

/-! ## Permits (R100–R102) -/

/-- What the lock starts of a granted permit deliver and tell, at segments that are CLOSED (R55, R64, R100). -/
structure LocksStarted (l : List Nat) (s t : State) : Prop where
  seg : ∀ j, t.seg j = if j ∈ l then { s.seg j with zoneLock := true } else s.seg j
  size : t.segments.length = s.segments.length
  deliveries : t.deliveries = s.deliveries
  clock : t.clock = s.clock
  told : Told ((l.filter fun i => (s.seg i).zoneLock = false).map fun i =>
    (i, .segment .closed .zoneLock (s.seg i).revision false none)) s t

theorem locksStarted_nil (s : State) : LocksStarted [] s s :=
  ⟨fun _ => (if_neg List.not_mem_nil).symm, rfl, rfl, rfl, told_refl s⟩

theorem LocksStarted.next {l : List Nat} {s t : State} {i : Nat} (h : LocksStarted l s t) (hnew : i ∉ l)
    (hi : i < s.segments.length) (hst : (s.seg i).state = .closed) (hbar : (s.seg i).barrierFault = false) :
    LocksStarted (l ++ [i]) s (lockIfFree t i) := by
  have hseg : t.seg i = s.seg i := by rw [h.seg, if_neg hnew]
  have hmem : ∀ j, j ∈ l ++ [i] ↔ j ∈ l ∨ j = i := by simp
  have hit : i < t.segments.length := h.size ▸ hi
  have hrecords : ∀ j, (lockIfFree t i).seg j =
      if j ∈ l ++ [i] then { s.seg j with zoneLock := true } else s.seg j := fun j => by
    rw [if_congr (hmem j) rfl rfl]
    by_cases hj : j = i
    · subst hj
      rw [if_pos (.inr rfl), lockIfFree_seg_self hit (hseg ▸ hst), hseg]
    · rw [lockIfFree_seg_ne hj, h.seg]
      exact if_congr (by simp [hj]) rfl rfl
  have hleaves := leaves_lockIfFree t i
  have hsize : (lockIfFree t i).segments.length = t.segments.length := by
    have hsizes := (hleaves.tables).2
    simp only [tableSizes, List.cons.injEq] at hsizes
    exact hsizes.2.2.2.1
  refine ⟨hrecords, hsize.trans h.size, ?_, (hleaves.kept .clock (by decide)).trans h.clock, ?_⟩
  · refine Eq.trans ?_ h.deliveries
    unfold lockIfFree
    split
    · rfl
    · have hacted := lockStartAt_acted hit
      have hmove : lockMove t i = .still { s.seg i with zoneLock := true } := by
        simp [lockMove, hseg, hst]
      rw [hacted.deliveries, hmove]
      simp [segDeliveries, Move.still, hseg, closureDeliveries_same, stampDeliveries_same]
  · rw [List.filter_append, List.map_append]
    refine h.told.trans ?_ (congrArg Clock.seconds h.clock)
    unfold lockIfFree
    rw [hseg]
    by_cases hl : (s.seg i).zoneLock = true
    · simp only [hl, if_true]
      simpa [hl] using told_refl t
    · have hl' : (s.seg i).zoneLock = false := by simpa using hl
      have hacted := lockStartAt_acted hit
      have hmove : lockMove t i = .still { s.seg i with zoneLock := true } := by
        simp [lockMove, hseg, hst]
      have htold := hacted.told
      have hrevised : revised (t.seg i) (lockMove t i).seg = { s.seg i with zoneLock := true } := by
        rw [hmove, hseg]
        exact revised_unchanged (by simp [revisionChange, Move.still])
      rw [Bool.or_true, if_pos rfl, hrevised] at htold
      rw [hl', if_neg Bool.false_ne_true]
      have hfilter : [i].filter (fun i => (s.seg i).zoneLock = false) = [i] := by simp [hl']
      rw [hfilter]
      simpa [recordTold, hst, hbar] using htold

theorem locksStarted_foldl {s : State} (l : List Nat) (hnd : l.Nodup) (hlt : ∀ i ∈ l, i < s.segments.length)
    (hshut : ∀ i ∈ l, (s.seg i).state = .closed ∧ (s.seg i).barrierFault = false) :
    LocksStarted l s (l.foldl lockIfFree s) := by
  induction l using List.reverseRecOn with
  | nil => exact locksStarted_nil s
  | append_singleton l i ih =>
    obtain ⟨hnd, -, hdisj⟩ := List.nodup_append.1 hnd
    have hsub : ∀ k ∈ l, k ∈ l ++ [i] := fun k hk => List.mem_append_left _ hk
    rw [List.foldl_concat]
    exact (ih hnd (fun k hk => hlt k (hsub k hk)) fun k hk => hshut k (hsub k hk)).next
      (fun h => hdisj i h i (List.mem_singleton_self i) rfl) (hlt i (by simp)) (hshut i (by simp)).1 (hshut i (by simp)).2

theorem notShut_eq (s : State) (z : Nat) : notShut s z = (imageZone s.image z).threatened.find? fun i =>
    (s.seg i).state ≠ .closed ∨ (s.seg i).barrierFault = true := by
  unfold notShut threatened
  congr 1
  funext i
  rw [Bool.eq_iff_iff]
  simp

/-- The record of a zone under a permit. -/
def permitted (r : Zone) (minutes : Nat) : Zone := { r with state := .work, permit := some (60 * minutes) }

theorem grantPermit_renewed {s : State} {z minutes : Nat} (h : (s.zone z).state = .work) : grantPermit s z minutes =
    zoneNotice (s.setZone z (permitted (s.zone z) minutes)) z .permitRenewed none none := by
  unfold grantPermit
  rw [h]
  rfl

theorem grantPermit_granted {s : State} {z minutes : Nat} (h : (s.zone z).state ≠ .work) : grantPermit s z minutes =
    zoneNotice (zoneEnters ((threatened s z).foldl lockIfFree s) z (permitted (s.zone z) minutes)) z .permit
      none none := by
  unfold grantPermit
  exact if_neg (by simpa using h)

/-- What a permit leaves, granted or renewed (R100, R101). -/
theorem grantPermit_row {s : State} {z minutes : Nat} (ht : TablesOk s) (hz : z < 10) (hshut : notShut s z = none) :
    let t := grantPermit s z minutes
    t.zone z = permitted (s.zone z) minutes ∧ (∀ y, y ≠ z → t.zone y = s.zone y) ∧
      ((s.zone z).state ≠ .work → ∀ i ∈ (imageZone s.image z).threatened,
        t.seg i = { s.seg i with zoneLock := true }) ∧
      (∀ i < 12, i ∉ (imageZone s.image z).threatened ∨ (s.zone z).state = .work → t.seg i = s.seg i) ∧
      t.deliveries = s.deliveries ++ zoneDemands s t ∧
      Told (if (s.zone z).state = .work then
          [(z, .zone .work .permitRenewed (s.zone z).level (s.zone z).degraded none none)]
        else (((imageZone s.image z).threatened.filter fun i => (s.seg i).zoneLock = false).map fun i =>
            (i, .segment .closed .zoneLock (s.seg i).revision false none)) ++
          [(z, .zone .work .permit (s.zone z).level (s.zone z).degraded none none)]) s t := by
  dsimp only
  by_cases hw : (s.zone z).state = .work
  · rw [grantPermit_renewed hw, if_pos hw]
    have hset := setZone_zone_of_lt (zones_sized ht hz)
    have hself : (s.setZone z (permitted (s.zone z) minutes)).zone z = permitted (s.zone z) minutes := by
      rw [hset, if_pos rfl]
    refine ⟨hself, fun y hy => (hset y _).trans (if_neg hy), fun h => absurd hw h, fun _ _ _ => rfl, ?_, ?_⟩
    · have hnone : zoneDemands s (zoneNotice (s.setZone z (permitted (s.zone z) minutes)) z .permitRenewed none none) = [] :=
        zoneDemands_same fun _ => rfl
      rw [hnone, List.append_nil]
      rfl
    · have htold := told_notify (s.setZone z (permitted (s.zone z) minutes)) z
        (.zone ((s.setZone z (permitted (s.zone z) minutes)).zone z).state .permitRenewed
          ((s.setZone z (permitted (s.zone z) minutes)).zone z).level
          ((s.setZone z (permitted (s.zone z) minutes)).zone z).degraded none none)
      have hboth := htold.before (s := s) rfl rfl
      rw [zoneNotice, hself]
      rw [hself] at hboth
      exact hboth
  · rw [grantPermit_granted hw, if_neg hw]
    obtain ⟨hlt, hnd⟩ := imageZone_threatened ht.1 z
    have hlocks := locksStarted_foldl (s := s) (threatened s z) hnd (fun i hi => segments_sized ht (hlt i hi))
      (notShut_none hshut)
    have hleaves := leaves_foldl lockIfFree leaves_lockIfFree (threatened s z) s
    have hzones := hleaves.kept .zones (by decide)
    have himg := hleaves.image
    have htl := hleaves.tablesOk ht
    generalize (threatened s z).foldl lockIfFree s = u at *
    have hwritten := zoneEnters_written (permitted (s.zone z) minutes) htl hz
    have hkept := (leaves_zoneEnters u z (permitted (s.zone z) minutes)).kept .segments (by decide)
    have hseg : ∀ j, (zoneEnters u z (permitted (s.zone z) minutes)).seg j = u.seg j := fun j => by
      rw [State.seg, hkept]
      rfl
    refine ⟨hwritten.self, fun y hy => (hwritten.other y hy).trans (zone_of_zones hzones y), fun _ i hi => ?_,
      fun i _ hi => ?_, ?_, ?_⟩
    · exact (hseg i).trans ((hlocks.seg i).trans (if_pos hi))
    · exact (hseg i).trans ((hlocks.seg i).trans (if_neg fun hm => hi.elim (fun h => h hm) hw))
    · have hdel := hwritten.deliveries
      rw [List.append_nil, hlocks.deliveries,
        zoneDemands_congr himg fun i => shownZone_of_zones hzones i] at hdel
      exact hdel
    · exact hlocks.told.trans (hwritten.notice .permit none none) (congrArg Clock.seconds hlocks.clock)

theorem argsPermit_minutes {l : List Byte} {z minutes : Nat} (h : argsPermit l = some (z, minutes)) :
    1 ≤ minutes ∧ minutes = min (l.getD 1 0).toNat 120 := by
  match l, h with
  | [a, b], h =>
    simp only [argsPermit, args2] at h
    split at h
    · next hm =>
      simp only [Bool.and_eq_true, decide_eq_true_eq] at hm
      cases h
      refine ⟨?_, rfl⟩
      omega
    · cases h

theorem runPermitRequest_sweep {s : State} {p z minutes : Nat} (h : (s.zone z).state = .sweep) :
    runPermitRequest s p (z, minutes) = refuse s .state := by
  unfold runPermitRequest
  exact if_pos (by simpa using h)

theorem runPermitRequest_open {s : State} {p z minutes i : Nat} (h : (s.zone z).state ≠ .sweep)
    (hopen : notShut s z = some i) : runPermitRequest s p (z, minutes) = .mk .state [byteOf i] s := by
  unfold runPermitRequest
  rw [if_neg (by simpa using h)]
  dsimp only
  rw [hopen]

theorem runPermitRequest_granted {s : State} {p z minutes : Nat} (h : (s.zone z).state ≠ .sweep)
    (hopen : notShut s z = none) : runPermitRequest s p (z, minutes) =
      .mk .done [byteOf minutes] (grantPermit s z minutes) := by
  unfold runPermitRequest
  rw [if_neg (by simpa using h)]
  dsimp only
  rw [hopen]

theorem permitRequest_row {s : State} {p z minutes : Nat} (ht : TablesOk s) (hs : ZonesOk s)
    (hacc : Accepted permitRequestCommand s p (z, minutes)) (hz : z < 10) :
    if (s.zone z).state = .sweep then
      exec (.permitRequest p) s = .next (answered s p .permitRequest .state [])
    else match notShut s z with
      | some i =>
        exec (.permitRequest p) s = .next (answered s p .permitRequest .state [byteOf i])
      | none =>
        ∃ t, exec (.permitRequest p) s = .next t ∧
          t.zone z = permitted (s.zone z) minutes ∧
          (∀ y, y ≠ z → t.zone y = s.zone y) ∧
          ((s.zone z).state ≠ .work → ∀ i ∈ (imageZone s.image z).threatened,
            t.seg i = { s.seg i with zoneLock := true }) ∧
          (∀ i < 12, i ∉ (imageZone s.image z).threatened ∨ (s.zone z).state = .work →
            t.seg i = s.seg i) ∧
          t.deliveries = s.deliveries ++ zoneDemands s t ∧ ZonesDecided t ∧
          (if (s.zone z).state = .work then
            OneNotice none z
              (.zone .work .permitRenewed (s.zone z).level (s.zone z).degraded none none) s t
          else NoticesSent
            ((((imageZone s.image z).threatened.filter fun i => (s.seg i).zoneLock = false).map fun i =>
                (i, .segment .closed .zoneLock (s.seg i).revision false none)) ++
              [(z, .zone .work .permit (s.zone z).level (s.zone z).degraded none none)]) s t) ∧
          Replied p .permitRequest .done [byteOf minutes] s t ∧
          LinesKept s t ∧ ChangesOnly [.ports, .segments, .zones, .deliveries] s t := by
  have hlt := accepted_lt ht hacc
  have hexec : exec (.permitRequest p) s = .next (outcome permitRequestCommand s p (z, minutes)) :=
    exec_accepted rfl (fun _ _ => ⟨rfl, rfl, rfl⟩) hacc
  split
  · next hst =>
    rw [hexec, outcome_answered (runPermitRequest_sweep (s := popFrame s p) (p := p) hst)]
    rfl
  · next hst =>
    split
    · next i hopen =>
      rw [hexec, outcome_answered (runPermitRequest_open (s := popFrame s p) (p := p) hst hopen)]
      rfl
    · next hopen =>
      have hrun : permitRequestCommand.run (popFrame s p) p (z, minutes) = _ :=
        runPermitRequest_granted (s := popFrame s p) (p := p) hst hopen
      obtain ⟨hself, hother, hlocked, hseg, hdel, htold⟩ :=
        grantPermit_row (s := popFrame s p) (minutes := minutes) ((leaves_popFrame s p).tablesOk ht) hz hopen
      obtain ⟨hnotices, hreply, hlines⟩ := outcome_told hrun htold hlt
      have heq := outcome_eq hrun
      refine ⟨_, hexec, by rw [heq]; exact hself, fun y hy => by rw [heq]; exact hother y hy,
        fun hw i hi => by rw [heq]; exact hlocked hw i hi, fun i hi hn => by rw [heq]; exact hseg i hi hn,
        by rw [heq]; exact hdel, zonesDecided_of_ok (exec_zonesOk (c := .permitRequest p) nofun ht hs hexec), ?_, hreply, hlines,
        outcome_changesOnly ((leaves_run .permitRequest (popFrame s p) p (z, minutes)).changesOnly (by decide)) (by decide)⟩
      have hstate : (popFrame s p).zone z = s.zone z := rfl
      rw [hstate] at hnotices
      split
      · next hw =>
        rw [if_pos hw] at hnotices
        exact oneNotice_of_noticesSent hnotices
      · next hw =>
        rw [if_neg hw] at hnotices
        exact hnotices

/-- What the end of a permit leaves (R102). -/
theorem endPermit_row {s : State} {z : Nat} (cause : ZoneCause) (ht : TablesOk s) (hz : z < 10) :
    let t := endPermit s z cause
    t.zone z = { s.zone z with state := .sweep, permit := none } ∧ (∀ y, y ≠ z → t.zone y = s.zone y) ∧
      t.deliveries = s.deliveries ++ zoneDemands s t ∧
      Told [(z, .zone .sweep cause (s.zone z).level (s.zone z).degraded none none)] s t := by
  have hwritten := zoneEnters_written { s.zone z with state := .sweep, permit := none } ht hz
  have hdel := hwritten.deliveries
  rw [List.append_nil] at hdel
  exact ⟨hwritten.self, hwritten.other, hdel, hwritten.notice cause none none⟩

theorem runPermitEnd_work {s : State} {p z : Nat} (h : (s.zone z).state = .work) :
    runPermitEnd s p z = .mk .done [ZoneState.sweep.code] (endPermit s z .permitEnd) := by
  unfold runPermitEnd
  exact if_pos (by simpa using h)

theorem runPermitEnd_refused {s : State} {p z : Nat} (h : (s.zone z).state ≠ .work) :
    runPermitEnd s p z = refuse s .state := by
  unfold runPermitEnd
  exact if_neg (by simpa using h)

theorem exec_permitExpiry {s : State} {z : Nat} (hz : zoneOk z = true) : exec (.permitExpiry z) s =
    .next (if (s.zone z).state == .work && due (s.zone z).permit then endPermit s z .permitExpiry else s) := by
  show onObject (zoneOk z) _ = _
  rw [hz]
  rfl

/-- Settles O30. -/
theorem permitsOpenAndEnd : Obligations.PermitsOpenAndEnd := by
  intro s z ht hs hzone
  have hz : z < 10 := by simpa [zoneOk] using hzone
  dsimp only
  rw [← notShut_eq]
  refine ⟨fun p minutes hacc => ?_, fun p hacc => ?_, ?_⟩
  · obtain ⟨body, hbody, hargs⟩ := accepted_parsed hacc
    obtain ⟨hpos, hmin⟩ := argsPermit_minutes hargs
    refine ⟨hpos, fun b hb => ?_, permitRequest_row ht hs hacc hz⟩
    rw [hbody] at hb
    cases hb
    exact hmin
  · have hlt := accepted_lt ht hacc
    have hexec : exec (.permitEnd p) s = .next (outcome permitEndCommand s p z) :=
      exec_accepted rfl (fun _ _ => ⟨rfl, rfl, rfl⟩) hacc
    split
    · next hst =>
      have hrun : permitEndCommand.run (popFrame s p) p z = _ := runPermitEnd_work (s := popFrame s p) (p := p) hst
      obtain ⟨hself, hother, hdel, htold⟩ :=
        endPermit_row (s := popFrame s p) .permitEnd ((leaves_popFrame s p).tablesOk ht) hz
      obtain ⟨hnotices, hreply, -⟩ := outcome_told hrun htold hlt
      have heq := outcome_eq hrun
      exact ⟨_, hexec, by rw [heq]; exact hself, fun y hy => by rw [heq]; exact hother y hy, hreply,
        by rw [heq]; exact hdel, zonesDecided_of_ok (exec_zonesOk (c := .permitEnd p) nofun ht hs hexec),
        oneNotice_of_noticesSent hnotices,
        outcome_changesOnly ((leaves_run .permitEnd (popFrame s p) p z).changesOnly (by decide)) (by decide)⟩
    · next hst =>
      rw [hexec, outcome_answered (runPermitEnd_refused (s := popFrame s p) (p := p) hst)]
      rfl
  · have hexec := exec_permitExpiry (s := s) hzone
    split
    · next h =>
      rw [if_pos (by simpa [due] using h)] at hexec
      obtain ⟨hself, hother, hdel, htold⟩ := endPermit_row .permitExpiry ht hz
      exact ⟨_, hexec, hself, hother, hdel, zonesDecided_of_ok (exec_zonesOk (c := .permitExpiry z) nofun ht hs hexec),
        htold.oneNotice, event_changesOnly [.notices, .zones, .deliveries] hexec rfl nofun rfl⟩
    · next h => rw [hexec, if_neg (by simpa [due] using h)]

end Sys2Proof.Machine

/-! PROOF. Trip lines (R90–R95): what one change of a line does at its zone, and what an event of a TRIP station
does at every line and zone it reaches. -/

namespace Sys2Proof.Machine

set_option Elab.async false

open Sys2Proof

/-! ## One change of a line (R90, R93–R95) -/

theorem handToZone_line (s : State) (z l k : Nat) (st : LineState) : (handToZone s z l st).line k = s.line k := by
  have htrip : (tripZone s z l st).line k = s.line k := redecide_line _ z k
  unfold handToZone
  split
  · split
    · exact htrip
    · exact htrip
    · rfl
    · rfl
    · rfl
  · rfl

theorem lineEnters_line {s : State} {l : Nat} (st : LineState) (hl : l < s.zones.lines.length) (k : Nat) :
    (lineEnters s l st).line k = if k = l then { state := st, pending := none, confirm := 0 } else s.line k := by
  have hset : (s.setLine l { state := st, pending := none, confirm := 0 }).line k =
      if k = l then { state := st, pending := none, confirm := 0 } else s.line k := by
    split
    · next h => rw [h, State.setLine_line_self s l _ hl]
    · next h => rw [State.setLine_line_ne s l k _ h]
  rw [← hset]
  unfold lineEnters
  dsimp only
  split
  · rfl
  · rw [handToZone_line]
    rfl

/-- A line's change as its zone has it. -/
structure LineHanded (s t : State) (l z : Nat) (st : LineState) : Prop where
  level : (t.zone z).level = (s.zone z).level
  permit : (t.zone z).permit = (s.zone z).permit
  other : ∀ y, y ≠ z → t.zone y = s.zone y
  fired : (t.zone z).fired = if fires s z st ∧ (s.zone z).state ≠ .sweep ∧ l ∉ (s.zone z).fired then
    (s.zone z).fired ++ [l] else (s.zone z).fired
  trips : fires s z st = true ∧ ((s.zone z).state = .quiet ∨ (s.zone z).state = .watch) →
    (t.zone z).state = .tripped ∧
    t.deliveries = s.deliveries ++
      ((imageZone s.image z).threatened.map fun i => Instr.detectorEvent i z) ++ zoneDemands s t ∧
    Told [(z, .zone .tripped .trip (s.zone z).level (t.zone z).degraded (some (l, st)) none)] s t
  stands : ¬(fires s z st = true ∧ ((s.zone z).state = .quiet ∨ (s.zone z).state = .watch)) →
    (t.zone z).state = (s.zone z).state ∧ t.deliveries = s.deliveries ∧
    (∀ i, t.shownZone i = s.shownZone i) ∧
    Told [(z, .zone (s.zone z).state .line (s.zone z).level (t.zone z).degraded (some (l, st)) none)] s t

theorem fire_fired (l : Nat) (r : Zone) : (fire l r).fired = if l ∉ r.fired then r.fired ++ [l] else r.fired := by
  unfold fire
  by_cases h : l ∈ r.fired <;> simp [h]

/-- A change that trips its zone (R95). -/
theorem tripZone_handed {s : State} {z l : Nat} {st : LineState} (ht : TablesOk s) (hz : z < 10)
    (hfires : fires s z st = true) (hst : (s.zone z).state = .quiet ∨ (s.zone z).state = .watch) :
    LineHanded s (tripZone s z l st) l z st := by
  have hwritten := redecide_written { fire l (s.zone z) with state := .tripped }
    ((threatened s z).map fun i => Instr.detectorEvent i z) ht hz
  obtain ⟨hlevel, -, hpermit, -⟩ := fire_fields l (s.zone z)
  have hself : (tripZone s z l st).zone z = { fire l (s.zone z) with state := .tripped } := hwritten.self
  have hsweep : (s.zone z).state ≠ .sweep := by rcases hst with h | h <;> simp [h]
  refine ⟨?_, ?_, hwritten.other, ?_, fun _ => ⟨?_, hwritten.deliveries, ?_⟩, fun h => absurd ⟨hfires, hst⟩ h⟩
  · rw [hself]; exact hlevel
  · rw [hself]; exact hpermit
  · rw [hself]
    exact (fire_fired l (s.zone z)).trans (if_congr (by simp [hfires, hsweep]) rfl rfl)
  · rw [hself]
  · rw [hself]
    have htold := hwritten.notice .trip (some (l, st)) none
    rw [hlevel] at htold
    exact htold

/-- A change that joins the list of its zone alone. -/
theorem joinZone_handed {s : State} {z l : Nat} {st : LineState} (ht : TablesOk s) (hz : z < 10)
    (hfires : fires s z st = true) (hst : (s.zone z).state = .tripped ∨ (s.zone z).state = .work) :
    LineHanded s (zoneNotice (s.setZone z (fire l (s.zone z))) z .line (some (l, st)) none) l z st := by
  obtain ⟨hlevel, hstate, hpermit, -⟩ := fire_fields l (s.zone z)
  have hset := setZone_zone_of_lt (zones_sized ht hz)
  have hself : (s.setZone z (fire l (s.zone z))).zone z = fire l (s.zone z) := by rw [hset, if_pos rfl]
  have hself' : (zoneNotice (s.setZone z (fire l (s.zone z))) z .line (some (l, st)) none).zone z = fire l (s.zone z) := hself
  have hsweep : (s.zone z).state ≠ .sweep := by rcases hst with h | h <;> simp [h]
  have hquiet : ¬((s.zone z).state = .quiet ∨ (s.zone z).state = .watch) := by rcases hst with h | h <;> simp [h]
  refine ⟨?_, ?_, fun y hy => (hset y _).trans (if_neg hy), ?_, fun h => absurd h.2 hquiet,
    fun _ => ⟨?_, rfl, fun _ => rfl, ?_⟩⟩
  · rw [hself']; exact hlevel
  · rw [hself']; exact hpermit
  · rw [hself']
    exact (fire_fired l (s.zone z)).trans (if_congr (by simp [hfires, hsweep]) rfl rfl)
  · rw [hself']; exact hstate
  · have htold := told_notify (s.setZone z (fire l (s.zone z))) z (.zone ((s.setZone z (fire l (s.zone z))).zone z).state .line
      ((s.setZone z (fire l (s.zone z))).zone z).level ((s.setZone z (fire l (s.zone z))).zone z).degraded (some (l, st)) none)
    have hbefore := htold.before (s := s) rfl rfl
    rw [hself']
    rw [zoneNotice]
    rw [hself] at hbefore ⊢
    rw [hstate, hlevel] at hbefore ⊢
    exact hbefore

/-- A change that its zone only tells. -/
theorem tellZone_handed {s : State} {z l : Nat} {st : LineState}
    (h : ¬(fires s z st = true ∧ (s.zone z).state ≠ .sweep)) :
    LineHanded s (zoneNotice s z .line (some (l, st)) none) l z st :=
  ⟨rfl, rfl, fun _ _ => rfl, (if_neg fun hf => h ⟨hf.1, hf.2.1⟩).symm,
    fun ht => absurd ⟨ht.1, by rcases ht.2 with h | h <;> simp [h]⟩ h,
    fun _ => ⟨rfl, rfl, fun _ => rfl, told_notify s z _⟩⟩

theorem handToZone_handed {s : State} {z l : Nat} (st : LineState) (ht : TablesOk s) (hz : z < 10) :
    LineHanded s (handToZone s z l st) l z st := by
  unfold handToZone
  by_cases hf : fires s z st = true
  · rw [if_pos hf]
    cases hst : (s.zone z).state with
    | quiet => exact tripZone_handed ht hz hf (.inl hst)
    | watch => exact tripZone_handed ht hz hf (.inr hst)
    | tripped => exact joinZone_handed ht hz hf (.inl hst)
    | work => exact joinZone_handed ht hz hf (.inr hst)
    | sweep => exact tellZone_handed fun h => h.2 hst
  · rw [if_neg hf]
    exact tellZone_handed fun h => hf h.1

/-- What the change of a line does at its zone. -/
theorem lineEnters_handed {s : State} {l z : Nat} (st : LineState) (ht : TablesOk s)
    (hzone : (imageLine s.image l).zone = some z) : LineHanded s (lineEnters s l st) l z st := by
  have hz : z < 10 := imageLine_zone ht.1 hzone
  have hline : lineEnters s l st =
      handToZone (deriveDegraded (s.setLine l { state := st, pending := none, confirm := 0 }) z) z l st := by
    unfold lineEnters
    rw [hzone]
  have hderived := deriveDegraded_zone (s.setLine l { state := st, pending := none, confirm := 0 }) z
  have htd : TablesOk (deriveDegraded (s.setLine l { state := st, pending := none, confirm := 0 }) z) :=
    ((leaves_setLine s l _).andThen (leaves_setZone _ z _) (l' := [.zones])).tablesOk ht
  have hother : ∀ y, y ≠ z →
      (deriveDegraded (s.setLine l { state := st, pending := none, confirm := 0 }) z).zone y = s.zone y := fun y hy =>
    State.setZone_zone_ne _ z y _ hy
  have hself := hderived z (zones_sized (s := s) ht hz)
  rw [if_pos rfl] at hself
  rw [hline]
  obtain ⟨h1, h2, h3, h4, h5, h6⟩ := handToZone_handed (l := l) st htd hz
  rw [hself] at h1 h2 h4 h5 h6
  exact ⟨h1, h2, fun y hy => (h3 y hy).trans (hother y hy), h4, h5, h6⟩

theorem linesKept_of_leaves {l : List Area} {s t : State} (h : Leaves l s t) (hl : Area.lines ∉ l := by decide) :
    LinesKept s t := fun q _ => by
  have hq := h.kept .lines hl q
  exact ⟨hq.assembly, hq.crcErrors, hq.subscription, hq.lastSent⟩

/-! ## Every line of a station (R90–R92) -/

theorem counted_confirm_of_same {r : Line} {c : Condition} (h : differs r.state c = false) : (Counted r c).confirm = 0 := by
  simp [Counted, h]

theorem lineReport_eq {s : State} (ht : TablesOk s) (l : Nat) (c : Condition) : lineReport s l c =
    if s.image.debounce ≤ (Counted (s.line l) c).confirm then lineEnters s l (stateOf c)
    else s.setLine l (Counted (s.line l) c) := by
  have hdb := imageAccepted_debounce ht.1
  unfold lineReport Counted
  by_cases hd : differs (s.line l).state c = true
  · simp only [hd, if_true]
  · rw [if_neg hd, if_neg hd, if_neg (by dsimp only; omega)]

/-- The record that one report leaves of a line (R90). -/
def reportedLine (debounce : Nat) (c : Condition) (r : Line) : Line :=
  if debounce ≤ (Counted r c).confirm then { state := stateOf c, pending := none, confirm := 0 } else Counted r c

theorem lines_sized {s : State} {l : Nat} (ht : TablesOk s) (hl : l < 24) : l < s.zones.lines.length := by
  obtain ⟨-, -, -, -, -, -, -, hlen, -⟩ := ht
  omega

theorem lineReport_line {s : State} {l : Nat} (ht : TablesOk s) (hl : l < 24) (c : Condition) (k : Nat) :
    (lineReport s l c).line k = if k = l then reportedLine s.image.debounce c (s.line l) else s.line k := by
  rw [lineReport_eq ht, reportedLine]
  split
  · exact lineEnters_line _ (lines_sized ht hl) k
  · split
    · next h => rw [h, State.setLine_line_self s l _ (lines_sized ht hl)]
    · next h => rw [State.setLine_line_ne s l k _ h]

theorem stationReport_line {s : State} (ht : TablesOk s) (x : Nat) (r : TripReport) (k : Nat) :
    (stationReport s x r).line k = if k ∈ stationLines s.image x then
      reportedLine s.image.debounce (conditionAt r (inputOf s k)) (s.line k) else s.line k := by
  have hlt : ∀ l ∈ stationLines s.image x, l < 24 := fun l hl => (mem_stationLines.1 hl).1
  show ((stationLines s.image x).foldl (fun t l => lineReport t l (conditionAt r (inputOf s l))) s).line k = _
  exact foldl_record (get := State.line) (g := fun l => reportedLine s.image.debounce (conditionAt r (inputOf s l)))
    (R := fun u => TablesOk u ∧ u.image = s.image) (stationLines_nodup _ _)
    (fun u l _ hu => ⟨(leaves_lineReport u l _).tablesOk hu.1, (leaves_lineReport u l _).image.trans hu.2⟩)
    (fun u l hl hu => by rw [lineReport_line hu.1 (hlt l hl), if_pos rfl, hu.2])
    (fun u l hl hu j hj => by rw [lineReport_line hu.1 (hlt l hl), if_neg hj]) s ⟨ht, rfl⟩ k

theorem lineLost_line {s : State} {l : Nat} (ht : TablesOk s) (hl : l < 24) (k : Nat) :
    (lineLost s l).line k = if k = l ∧ (s.line l).state ≠ .unmonitored then
      { state := .unmonitored, pending := none, confirm := 0 } else s.line k := by
  unfold lineLost
  by_cases h : (s.line l).state = .unmonitored
  · rw [if_pos (by simpa using h), if_neg fun hc => hc.2 h]
  · rw [if_neg (by simpa using h), lineEnters_line _ (lines_sized ht hl)]
    exact if_congr (by simp [h]) rfl rfl

theorem tripLost_line {s : State} (ht : TablesOk s) (x k : Nat) :
    (tripLost s x).line k = if k ∈ stationLines s.image x ∧ (s.line k).state ≠ .unmonitored then
      { state := .unmonitored, pending := none, confirm := 0 } else s.line k := by
  have hlt : ∀ l ∈ stationLines s.image x, l < 24 := fun l hl => (mem_stationLines.1 hl).1
  have hfold := foldl_record (f := lineLost) (get := State.line)
    (g := fun _ r => if r.state ≠ .unmonitored then { state := .unmonitored, pending := none, confirm := 0 } else r)
    (R := TablesOk) (stationLines_nodup s.image x)
    (fun u l _ hu => Leaves.tablesOk (l := zoneAreas) (by
      unfold lineLost
      exact leaves_ite (leaves_refl _ u) (leaves_lineEnters ..)) hu)
    (fun u l hl hu => by
      rw [lineLost_line hu (hlt l hl)]
      exact if_congr (by simp) rfl rfl)
    (fun u l hl hu j hj => by rw [lineLost_line hu (hlt l hl), if_neg fun h => hj h.1]) s ht k
  refine hfold.trans ?_
  by_cases hk : k ∈ stationLines s.image x <;> simp [hk]

theorem exec_tripReport {s : State} {x : Nat} (r : TripReport) (hx : stationOk x = true) :
    exec (.tripReport x r) s = .next (stationReport (s.taking (.tripReport x r)) x r) := by
  show onObject (stationOk x) _ = _
  rw [hx]
  rfl

theorem exec_tripStationReturn {s : State} {x : Nat} (r : TripReport) (hx : stationOk x = true) :
    exec (.tripStationReturn x r) s = .next (stationReport (s.taking (.tripStationReturn x r)) x r) := by
  show onObject (stationOk x) _ = _
  rw [hx]
  rfl

theorem exec_tripStationLost {s : State} {x : Nat} (hx : stationOk x = true) :
    exec (.tripStationLost x) s = .next (tripLost (s.taking (.tripStationLost x)) x) := by
  show onObject (stationOk x) _ = _
  rw [hx]
  rfl

/-- What a report does at the lines. -/
theorem stationReport_row {s : State} {c : Instr} {x : Nat} (r : TripReport) (ht : TablesOk s)
    (hexec : exec c s = .next (stationReport (s.taking c) x r)) :
    ∃ t, exec c s = .next t ∧
      (∀ l < 24, l ∉ stationLines s.image x → t.line l = s.line l) ∧
      (∀ l ∈ stationLines s.image x,
        let n := Counted (s.line l) (conditionAt r (inputOf s l))
        t.line l =
          if s.image.debounce ≤ n.confirm then
            { state := stateOf (conditionAt r (inputOf s l)), pending := none, confirm := 0 }
          else n) ∧ LinesKept s t := by
  have hline := stationReport_line (s := s.taking c) ht x r
  exact ⟨_, hexec, fun l _ hl => (hline l).trans (if_neg hl), fun l hl => (hline l).trans (if_pos hl),
    linesKept_of_leaves (s := s.taking c) (leaves_stationReport (s.taking c) x r)⟩

/-- Settles O26. -/
theorem tripStationsReportAndFail : Obligations.TripStationsReportAndFail := by
  refine ⟨fun s x r ht hx c hc => ?_, fun s x ht hs hx => ?_⟩
  · rcases List.mem_cons.1 hc with rfl | hc
    · obtain ⟨t, hexec, h1, h2, h3⟩ := stationReport_row r ht (exec_tripReport r hx)
      exact ⟨t, hexec, h1, h2, h3, event_changesOnly [.notices, .zones, .deliveries] hexec rfl nofun rfl⟩
    · obtain rfl := List.mem_singleton.1 hc
      obtain ⟨t, hexec, h1, h2, h3⟩ := stationReport_row r ht (exec_tripStationReturn r hx)
      exact ⟨t, hexec, h1, h2, h3, event_changesOnly [.notices, .zones, .deliveries] hexec rfl nofun rfl⟩
  · have hexec := exec_tripStationLost (s := s) hx
    have hok := exec_zonesOk (c := .tripStationLost x) nofun ht hs hexec
    have himg : (tripLost (s.taking (.tripStationLost x)) x).image = s.image :=
      (exec_tables (c := .tripStationLost x) nofun hexec ht).2
    refine ⟨_, hexec, fun l _ => tripLost_line (s := s.taking (.tripStationLost x)) ht x l, fun z hz => ?_,
      linesKept_of_leaves (s := s.taking (.tripStationLost x)) (leaves_tripLost (s.taking (.tripStationLost x)) x),
      event_changesOnly [.notices, .zones, .deliveries] hexec rfl nofun rfl⟩
    have hdeg := degradedByLines_of_ok hok hz
    rwa [DegradedByLines, himg] at hdeg

/-! ## Every zone an event of a TRIP station reaches (R94, R95, R103–R105) -/

/-- The lines of a zone that fire in a list of changes. -/
def firingLines (s : State) (changes : List (Nat × LineState)) (z : Nat) : List Nat :=
  (changes.filter fun x => (imageLine s.image x.1).zone = some z ∧ fires s z x.2 = true).map (·.1)

/-- The zone trips by a list of changes. -/
def Trips (s : State) (changes : List (Nat × LineState)) (z : Nat) : Prop :=
  firingLines s changes z ≠ [] ∧ ((s.zone z).state = .quiet ∨ (s.zone z).state = .watch)

/-- What a list of changes has made of one zone. -/
structure ZoneFollowed (s t : State) (changes : List (Nat × LineState)) (z : Nat) : Prop where
  level : (t.zone z).level = (s.zone z).level
  permit : (t.zone z).permit = (s.zone z).permit
  tripped : Trips s changes z → (t.zone z).state = .tripped
  stands : ¬Trips s changes z → (t.zone z).state = (s.zone z).state
  fired : (t.zone z).fired = if (s.zone z).state = .sweep then (s.zone z).fired
    else (s.zone z).fired ++ (firingLines s changes z).filter fun l => l ∉ (s.zone z).fired

/-- What a list of changes has delivered: the detector events of the zones that tripped, and the zone demands. -/
structure ChangesDelivered (s t : State) (zs : List Nat) (d : List Instr) : Prop where
  deliveries : t.deliveries = s.deliveries ++ d
  kinds : ∀ c ∈ d, (∃ i z, c = .detectorEvent i z) ∨ ∃ n e, c = .internalDelivery n .zone e
  detectors : d.filter (fun c => (deliveredSign c).isNone && !isPlaceholder c) =
    zs.flatMap fun z => (imageZone s.image z).threatened.map fun i => Instr.detectorEvent i z
  last : ∀ n < 24, t.shownZone (imageSign s.image n).segment = s.shownZone (imageSign s.image n).segment ∨
    (d.filter fun c => deliveredSign c == some n).getLast? =
      some (Instr.internalDelivery n .zone ((t.shownZone (imageSign s.image n).segment).map (zoneForm s.image)))

/-- What a list of changes has done, line by line. -/
structure LinesFollowed (s t : State) (changes : List (Nat × LineState)) (zs : List Nat) (d : List Instr) : Prop where
  sound : ZonesSound t
  image : t.image = s.image
  zone : ∀ z < 10, ZoneFollowed s t changes z
  delivered : ChangesDelivered s t zs d
  nodup : zs.Nodup
  tripped : ∀ z, z ∈ zs ↔ z < 10 ∧ Trips s changes z

theorem linesFollowed_nil {s : State} (hs : ZonesSound s) : LinesFollowed s s [] [] [] := by
  have hno : ∀ z, ¬Trips s [] z := fun z h => h.1 rfl
  refine ⟨hs, rfl, fun z _ => ⟨rfl, rfl, fun h => absurd h (hno z), fun _ => rfl, ?_⟩,
    ⟨(List.append_nil _).symm, fun c hc => absurd hc List.not_mem_nil, rfl, fun _ _ => .inl rfl⟩, List.nodup_nil,
    fun z => ⟨fun h => absurd h List.not_mem_nil, fun h => absurd h.2 (hno z)⟩⟩
  split
  · rfl
  · exact (List.append_nil _).symm

theorem firingLines_next (s : State) (changes : List (Nat × LineState)) (l z : Nat) (st : LineState) :
    firingLines s (changes ++ [(l, st)]) z = firingLines s changes z ++
      if (imageLine s.image l).zone = some z ∧ fires s z st = true then [l] else [] := by
  unfold firingLines
  rw [List.filter_append, List.map_append]
  congr 1
  by_cases h : (imageLine s.image l).zone = some z ∧ fires s z st = true
  · rw [if_pos h, List.filter_cons_of_pos (by simpa using h)]
    rfl
  · rw [if_neg h, List.filter_cons_of_neg (by simpa using h)]
    rfl

theorem mem_firingLines {s : State} {changes : List (Nat × LineState)} {z l : Nat}
    (h : l ∈ firingLines s changes z) : ∃ x ∈ changes, x.1 = l := by
  obtain ⟨x, hx, rfl⟩ := List.mem_map.1 h
  exact ⟨x, (List.mem_filter.1 hx).1, rfl⟩

/-- A zone whose line does not fire. -/
theorem ZoneFollowed.same {s t u : State} {changes changes' : List (Nat × LineState)} {z : Nat}
    (h : ZoneFollowed s t changes z) (hzone : u.zone z = t.zone z)
    (hfiring : firingLines s changes' z = firingLines s changes z) : ZoneFollowed s u changes' z := by
  have htrips : Trips s changes' z ↔ Trips s changes z := by rw [Trips, Trips, hfiring]
  obtain ⟨h1, h2, h3, h4, h5⟩ := h
  exact ⟨hzone ▸ h1, hzone ▸ h2, fun ht => hzone ▸ h3 (htrips.1 ht), fun ht => hzone ▸ h4 fun hc => ht (htrips.2 hc),
    by rw [hzone, h5, hfiring]⟩

theorem zoneDemands_sign (s t : State) {n : Nat} (hn : n < 24) :
    (zoneDemands s t).filter (fun c => deliveredSign c == some n) =
      if t.shownZone (imageSign s.image n).segment = s.shownZone (imageSign s.image n).segment then []
      else [Instr.internalDelivery n .zone ((t.shownZone (imageSign s.image n).segment).map (zoneForm s.image))] := by
  have heach : ∀ k, ((if t.shownZone (imageSign s.image k).segment = s.shownZone (imageSign s.image k).segment then none
      else some (Instr.internalDelivery k .zone ((t.shownZone (imageSign s.image k).segment).map (zoneForm s.image)))).toList.filter
        fun c => deliveredSign c == some n) =
      if k == n && decide (t.shownZone (imageSign s.image k).segment ≠ s.shownZone (imageSign s.image k).segment) then
        [Instr.internalDelivery k .zone ((t.shownZone (imageSign s.image k).segment).map (zoneForm s.image))] else [] := fun k => by
    by_cases hs : t.shownZone (imageSign s.image k).segment = s.shownZone (imageSign s.image k).segment
    · simp [hs]
    · by_cases hk : k = n
      · subst hk
        simp [hs, deliveredSign]
      · simp [hs, hk, deliveredSign]
  rw [zoneDemands, List.filterMap_eq_flatMap_toList, List.filter_flatMap, List.flatMap_congr fun k _ => heach k,
    flatMap_ite_eq, filter_eq_and List.nodup_range n fun k =>
      decide (t.shownZone (imageSign s.image k).segment ≠ s.shownZone (imageSign s.image k).segment)]
  by_cases hs : t.shownZone (imageSign s.image n).segment = s.shownZone (imageSign s.image n).segment <;> simp [hs, hn]

theorem zoneDemands_kinds (s t : State) : ∀ c ∈ zoneDemands s t, ∃ n e, c = .internalDelivery n .zone e := by
  intro c hc
  obtain ⟨n, -, hn⟩ := List.mem_filterMap.1 hc
  dsimp only at hn
  split at hn
  · cases hn
  · exact ⟨n, _, (Option.some.inj hn).symm⟩

/-- A change that delivers nothing. -/
theorem ChangesDelivered.same {s t u : State} {zs : List Nat} {d : List Instr} (h : ChangesDelivered s t zs d)
    (hdel : u.deliveries = t.deliveries) (hshown : ∀ i, u.shownZone i = t.shownZone i) :
    ChangesDelivered s u zs d :=
  ⟨hdel.trans h.deliveries, h.kinds, h.detectors, fun n hn => by rw [hshown]; exact h.last n hn⟩

/-- A change that trips a zone. -/
theorem ChangesDelivered.next {s t u : State} {zs : List Nat} {d : List Instr} (h : ChangesDelivered s t zs d) {z : Nat}
    (himg : t.image = s.image) (hdel : u.deliveries = t.deliveries ++
      ((imageZone s.image z).threatened.map fun i => Instr.detectorEvent i z) ++ zoneDemands t u) :
    ChangesDelivered s u (zs ++ [z])
      (d ++ (((imageZone s.image z).threatened.map fun i => Instr.detectorEvent i z) ++ zoneDemands t u)) := by
  have hdetector : ∀ c ∈ (imageZone s.image z).threatened.map fun i => Instr.detectorEvent i z,
      deliveredSign c = none ∧ isPlaceholder c = false := fun c hc => by
    obtain ⟨i, -, rfl⟩ := List.mem_map.1 hc
    exact ⟨rfl, rfl⟩
  refine ⟨?_, fun c hc => ?_, ?_, fun n hn => ?_⟩
  · rw [hdel, h.deliveries]
    simp only [List.append_assoc]
  · rcases List.mem_append.1 hc with hc | hc
    · exact h.kinds c hc
    · rcases List.mem_append.1 hc with hc | hc
      · obtain ⟨i, -, rfl⟩ := List.mem_map.1 hc
        exact .inl ⟨i, z, rfl⟩
      · exact .inr (zoneDemands_kinds t u c hc)
  · rw [List.filter_append, List.filter_append, h.detectors, filter_eq_self_of fun c hc => by simp [hdetector c hc],
      filter_eq_nil_of fun c hc => by
        obtain ⟨n, e, rfl⟩ := zoneDemands_kinds t u c hc
        rfl, List.flatMap_append, List.flatMap_singleton, List.append_nil]
  · rw [List.filter_append, List.filter_append, filter_eq_nil_of (l := (imageZone s.image z).threatened.map fun i => Instr.detectorEvent i z)
        fun c hc => by simp [hdetector c hc], List.nil_append,
      zoneDemands_sign t u hn, himg]
    by_cases hs : u.shownZone (imageSign s.image n).segment = t.shownZone (imageSign s.image n).segment
    · rw [if_pos hs, List.append_nil, hs]
      exact h.last n hn
    · rw [if_neg hs]
      exact .inr List.getLast?_concat

theorem fires_congr {s t : State} (himg : t.image = s.image) (z : Nat) (st : LineState) : fires t z st = fires s z st := by
  unfold fires
  rw [himg]

/-- One more change at one line. -/
theorem LinesFollowed.enters {s t : State} {changes : List (Nat × LineState)} {zs : List Nat} {d : List Instr}
    (h : LinesFollowed s t changes zs d) {l : Nat} (st : LineState) (hl : l < 24) (hnew : ∀ x ∈ changes, x.1 ≠ l) :
    ∃ zs' d', LinesFollowed s (lineEnters t l st) (changes ++ [(l, st)]) zs' d' := by
  have hsound : ZonesSound (lineEnters t l st) :=
    ⟨(leaves_lineEnters t l st).tablesOk h.sound.1, zonesOk_lineEnters st h.sound.1 hl h.sound.2⟩
  have himg : (lineEnters t l st).image = s.image := (leaves_lineEnters t l st).image.trans h.image
  have hfiring := firingLines_next s changes l
  cases hzone : (imageLine s.image l).zone with
  | none =>
    have hstep : lineEnters t l st = t.setLine l { state := st, pending := none, confirm := 0 } := by
      unfold lineEnters
      rw [h.image, hzone]
    have hsame : ∀ z, firingLines s (changes ++ [(l, st)]) z = firingLines s changes z := fun z => by
      rw [hfiring, if_neg (by simp [hzone]), List.append_nil]
    refine ⟨zs, d, hsound, himg, fun z hz => (h.zone z hz).same (by rw [hstep]; rfl) (hsame z),
      h.delivered.same (by rw [hstep]; rfl) (fun i => by rw [hstep]; rfl), h.nodup, fun z => ?_⟩
    rw [h.tripped z, Trips, Trips, hsame]
  | some z0 =>
    have hz0 : z0 < 10 := imageLine_zone h.sound.1.1 (by rw [h.image]; exact hzone)
    have hhanded := lineEnters_handed st h.sound.1 (l := l) (z := z0) (by rw [h.image]; exact hzone)
    have hother : ∀ z, z ≠ z0 → firingLines s (changes ++ [(l, st)]) z = firingLines s changes z := fun z hz => by
      have hne : ¬z0 = z := fun he => hz he.symm
      rw [hfiring, if_neg (by simp [hzone, hne]), List.append_nil]
    have hself : firingLines s (changes ++ [(l, st)]) z0 =
        firingLines s changes z0 ++ if fires s z0 st = true then [l] else [] := by
      rw [hfiring]
      simp only [hzone, true_and]
    have hfollowed := h.zone z0 hz0
    have hf := hhanded.fired
    have htrip := hhanded.trips
    have hstand := hhanded.stands
    rw [fires_congr h.image] at hf htrip hstand
    rw [h.image] at htrip
    have hsweep : (t.zone z0).state = .sweep ↔ (s.zone z0).state = .sweep := by
      by_cases ht : Trips s changes z0
      · rw [hfollowed.tripped ht]
        rcases ht.2 with hq | hq <;> simp [hq]
      · rw [hfollowed.stands ht]
    have hquiet : ((t.zone z0).state = .quiet ∨ (t.zone z0).state = .watch) ↔
        ¬Trips s changes z0 ∧ ((s.zone z0).state = .quiet ∨ (s.zone z0).state = .watch) := by
      by_cases ht : Trips s changes z0
      · simp [hfollowed.tripped ht, ht]
      · simp [hfollowed.stands ht, ht]
    have htrips : Trips s (changes ++ [(l, st)]) z0 ↔
        Trips s changes z0 ∨ fires s z0 st = true ∧ ((s.zone z0).state = .quiet ∨ (s.zone z0).state = .watch) := by
      rw [Trips, Trips, hself]
      by_cases hfs : fires s z0 st = true <;> by_cases hq : (s.zone z0).state = .quiet ∨ (s.zone z0).state = .watch <;>
        simp [hfs, hq]
    have hfresh : l ∉ firingLines s changes z0 := fun hm => by
      obtain ⟨x, hx, he⟩ := mem_firingLines hm
      exact hnew x hx he
    have hfired : ((lineEnters t l st).zone z0).fired = if (s.zone z0).state = .sweep then (s.zone z0).fired
        else (s.zone z0).fired ++ (firingLines s (changes ++ [(l, st)]) z0).filter fun k => k ∉ (s.zone z0).fired := by
      rw [hf, hself, hfollowed.fired]
      by_cases hsw : (s.zone z0).state = .sweep
      · rw [if_pos hsw, if_pos hsw, if_neg fun hc => hc.2.1 (hsweep.2 hsw)]
      · have hsw' : (t.zone z0).state ≠ .sweep := fun hc => hsw (hsweep.1 hc)
        rw [if_neg hsw, if_neg hsw]
        by_cases hfs : fires s z0 st = true
        · by_cases hm : l ∈ (s.zone z0).fired
          · rw [if_neg fun hc => hc.2.2 (List.mem_append_left _ hm)]
            simp [hfs, hm]
          · rw [if_pos ⟨hfs, hsw', fun hc => (List.mem_append.1 hc).elim hm fun hc => hfresh (List.mem_filter.1 hc).1⟩]
            simp [hfs, hm]
        · rw [if_neg fun hc => hfs hc.1]
          simp [hfs]
    by_cases hnow : fires s z0 st = true ∧ ((t.zone z0).state = .quiet ∨ (t.zone z0).state = .watch)
    · obtain ⟨hstate, hdel, -⟩ := htrip hnow
      obtain ⟨hnot, hq⟩ := hquiet.1 hnow.2
      have htripped : Trips s (changes ++ [(l, st)]) z0 := htrips.2 (.inr ⟨hnow.1, hq⟩)
      have hz0new : z0 ∉ zs := fun hm => hnot ((h.tripped z0).1 hm).2
      refine ⟨_, _, hsound, himg, fun z hz => ?_, h.delivered.next h.image hdel,
        List.nodup_append'.2 ⟨h.nodup, by simp, by simpa using hz0new⟩, fun z => ?_⟩
      · by_cases hzz : z = z0
        · subst hzz
          exact ⟨hhanded.level.trans hfollowed.level, hhanded.permit.trans hfollowed.permit, fun _ => hstate,
            fun hc => absurd htripped hc, hfired⟩
        · exact (h.zone z hz).same (hhanded.other z hzz) (hother z hzz)
      · rw [List.mem_append, List.mem_singleton, h.tripped z]
        by_cases hzz : z = z0
        · subst hzz
          exact ⟨fun _ => ⟨hz0, htripped⟩, fun _ => .inr rfl⟩
        · rw [Trips, Trips, hother z hzz]
          simp [hzz]
    · obtain ⟨hstate, hdel, hshown, -⟩ := hstand hnow
      have hsameTrips : Trips s (changes ++ [(l, st)]) z0 ↔ Trips s changes z0 := by
        rw [htrips]
        refine ⟨fun hc => hc.elim id fun hc => ?_, .inl⟩
        by_contra hno
        exact hnow ⟨hc.1, hquiet.2 ⟨hno, hc.2⟩⟩
      refine ⟨zs, d, hsound, himg, fun z hz => ?_, h.delivered.same hdel hshown, h.nodup, fun z => ?_⟩
      · by_cases hzz : z = z0
        · subst hzz
          exact ⟨hhanded.level.trans hfollowed.level, hhanded.permit.trans hfollowed.permit,
            fun hc => hstate.trans (hfollowed.tripped (hsameTrips.1 hc)),
            fun hc => hstate.trans (hfollowed.stands fun ht => hc (hsameTrips.2 ht)), hfired⟩
        · exact (h.zone z hz).same (hhanded.other z hzz) (hother z hzz)
      · rw [h.tripped z]
        by_cases hzz : z = z0
        · subst hzz
          rw [hsameTrips]
        · rw [Trips, Trips, hother z hzz]

/-- A step that reaches no zone. -/
structure ZonesStand (t u : State) : Prop where
  sound : ZonesSound t → ZonesSound u
  image : u.image = t.image
  zone : ∀ z, u.zone z = t.zone z
  deliveries : u.deliveries = t.deliveries
  shown : ∀ i, u.shownZone i = t.shownZone i

theorem LinesFollowed.stands {s t u : State} {changes : List (Nat × LineState)} {zs : List Nat} {d : List Instr}
    (h : LinesFollowed s t changes zs d) (hu : ZonesStand t u) : LinesFollowed s u changes zs d :=
  ⟨hu.sound h.sound, hu.image.trans h.image, fun z hz => (h.zone z hz).same (hu.zone z) rfl,
    h.delivered.same hu.deliveries hu.shown, h.nodup, h.tripped⟩

/-- What one line's share of an event does: the line enters a state, or no zone is reached. -/
structure LineStep (s : State) (f : State → Nat → State) (ch : Nat → Option LineState) (l : Nat) : Prop where
  enters : ∀ t st, TablesOk t → t.image = s.image → t.line l = s.line l → ch l = some st → f t l = lineEnters t l st
  stands : ∀ t, TablesOk t → t.image = s.image → t.line l = s.line l → ch l = none → ZonesStand t (f t l)
  other : ∀ t, TablesOk t → ∀ k, k ≠ l → (f t l).line k = t.line k

theorem linesFollowed_foldl {s : State} {f : State → Nat → State} {ch : Nat → Option LineState} (hs : ZonesSound s)
    (l : List Nat) (hnodup : l.Nodup) (hlt : ∀ k ∈ l, k < 24) (hstep : ∀ k ∈ l, LineStep s f ch k) :
    ∃ zs d, LinesFollowed s (l.foldl f s) (l.filterMap fun k => (ch k).map fun st => (k, st)) zs d ∧
      ∀ k, k ∉ l → (l.foldl f s).line k = s.line k := by
  induction l using List.reverseRecOn with
  | nil => exact ⟨[], [], linesFollowed_nil hs, fun _ _ => rfl⟩
  | append_singleton l k ih =>
    obtain ⟨hnd, -, hnew⟩ := List.nodup_append.1 hnodup
    have hk : k ∉ l := fun hm => hnew k hm k (List.mem_singleton_self k) rfl
    obtain ⟨zs, d, hfollowed, hline⟩ := ih hnd (fun j hj => hlt j (List.mem_append_left _ hj))
      fun j hj => hstep j (List.mem_append_left _ hj)
    have hmem : k ∈ l ++ [k] := List.mem_append_right _ (List.mem_singleton_self k)
    obtain ⟨henters, hstands, hother⟩ := hstep k hmem
    have htables := hfollowed.sound.1
    rw [List.foldl_concat, List.filterMap_append]
    have hlines : ∀ j, j ∉ l ++ [k] → (f (l.foldl f s) k).line j = s.line j := fun j hj =>
      (hother _ htables j fun he => hj (he ▸ hmem)).trans (hline j fun hm => hj (List.mem_append_left _ hm))
    cases hc : ch k with
    | some st =>
      rw [henters _ st htables hfollowed.image (hline k hk) hc] at hlines ⊢
      have hfresh : ∀ x ∈ l.filterMap fun k => (ch k).map fun st => (k, st), x.1 ≠ k := fun x hx he => by
        obtain ⟨j, hj, hx⟩ := List.mem_filterMap.1 hx
        obtain ⟨st', -, rfl⟩ := Option.map_eq_some_iff.1 hx
        exact hk (he ▸ hj)
      obtain ⟨zs', d', hnext⟩ := hfollowed.enters st (hlt k hmem) hfresh
      refine ⟨zs', d', ?_, hlines⟩
      simpa [hc] using hnext
    | none =>
      refine ⟨zs, d, ?_, hlines⟩
      simpa [hc] using hfollowed.stands (hstands _ htables hfollowed.image (hline k hk) hc)

theorem lineReport_step {s : State} {l : Nat} (c : Nat → Condition) (hl : l < 24) :
    LineStep s (fun t k => lineReport t k (c k))
      (fun k => if s.image.debounce ≤ (Counted (s.line k) (c k)).confirm then some (stateOf (c k)) else none) l := by
  refine ⟨fun t st ht himg hline hch => ?_, fun t ht himg hline hch => ?_, fun t ht k hk => ?_⟩
  · rw [lineReport_eq ht, himg, hline]
    split at hch
    · next h => rw [if_pos h, Option.some.inj hch]
    · cases hch
  · have hquiet : lineReport t l (c l) = t.setLine l (Counted (s.line l) (c l)) := by
      rw [lineReport_eq ht, himg, hline]
      split at hch
      · cases hch
      · next h => rw [if_neg h]
    refine ⟨fun hs => ⟨(leaves_lineReport t l _).tablesOk ht, zonesOk_lineReport _ ht hl hs.2⟩, by rw [hquiet]; rfl,
      by rw [hquiet]; exact fun _ => rfl, by rw [hquiet]; rfl, by rw [hquiet]; exact fun _ => rfl⟩
  · rw [lineReport_line ht hl, if_neg hk]

theorem lineLost_step {s : State} {l : Nat} (hl : l < 24) : LineStep s lineLost
    (fun k => if (s.line k).state = .unmonitored then none else some .unmonitored) l := by
  refine ⟨fun t st _ _ hline hch => ?_, fun t ht himg hline hch => ?_, fun t ht k hk => ?_⟩
  · split at hch
    · cases hch
    · next h =>
      obtain rfl := Option.some.inj hch
      unfold lineLost
      rw [hline, if_neg (by simpa using h)]
  · split at hch
    · next h =>
      have hsame : lineLost t l = t := by
        unfold lineLost
        rw [hline, if_pos (by simpa using h)]
      rw [hsame]
      exact ⟨id, rfl, fun _ => rfl, rfl, fun _ => rfl⟩
    · cases hch
  · rw [lineLost_line ht hl, if_neg fun h => hk h.1]

theorem flatMap_of_single {α β : Type} {l : List α} {n : α} {f : α → List β} (hnd : l.Nodup) (hn : n ∈ l)
    (h : ∀ k ∈ l, k ≠ n → f k = []) : l.flatMap f = f n := by
  obtain ⟨a, b, rfl⟩ := List.append_of_mem hn
  obtain ⟨-, hb, hab⟩ := List.nodup_append.1 hnd
  have ha : a.flatMap f = [] := List.flatMap_eq_nil_iff.2 fun k hk =>
    h k (by simp [hk]) fun he => hab k hk n (by simp) he
  have hb' : b.flatMap f = [] := List.flatMap_eq_nil_iff.2 fun k hk =>
    h k (by simp [hk]) fun he => (List.nodup_cons.1 hb).1 (he ▸ hk)
  rw [List.flatMap_append, List.flatMap_cons, ha, hb', List.nil_append, List.append_nil]

theorem bySign_filter (d : List Instr) {n : Nat} (hn : n < 24) :
    (bySign d).filter (fun c => deliveredSign c == some n) = d.filter fun c => deliveredSign c == some n := by
  rw [bySign, List.filter_flatMap, flatMap_of_single List.nodup_range (List.mem_range.2 hn) fun k _ hk => ?_,
    List.filter_filter]
  · exact List.filter_congr fun c _ => Bool.and_self _
  · refine filter_eq_nil_of fun c hc => ?_
    have hk' := (List.mem_filter.1 hc).2
    rw [beq_iff_eq] at hk'
    simp [hk', hk]

theorem mem_bySign {d : List Instr} {c : Instr} (h : c ∈ bySign d) : c ∈ d ∧ (deliveredSign c).isSome := by
  obtain ⟨n, -, hc⟩ := List.mem_flatMap.1 h
  obtain ⟨hmem, hn⟩ := List.mem_filter.1 hc
  rw [beq_iff_eq] at hn
  exact ⟨hmem, by rw [hn]; rfl⟩

theorem bySign_sorted (d : List Instr) : ((bySign d).filterMap deliveredSign).Pairwise (· ≤ ·) := by
  have hsign : ∀ n, ∀ c ∈ d.filter (fun c => deliveredSign c == some n), deliveredSign c = some n := fun n c hc =>
    beq_iff_eq.1 (List.mem_filter.1 hc).2
  rw [List.pairwise_filterMap, bySign, List.pairwise_flatMap]
  refine ⟨fun n _ => List.pairwise_of_forall_mem_list fun a ha b hb i hi j hj => ?_,
    List.Pairwise.imp (fun {m n} hmn a ha b hb i hi j hj => ?_) (List.pairwise_lt_range (n := 24))⟩
  · rw [hsign n a ha] at hi
    rw [hsign n b hb] at hj
    exact (Option.some.inj (hi.symm.trans hj)).le
  · rw [hsign m a ha] at hi
    rw [hsign n b hb] at hj
    rw [← Option.some.inj hi, ← Option.some.inj hj]
    exact hmn.le

/-- What the changes of one event come to, once they are gathered in the event's order. -/
theorem LinesFollowed.zonesFollowLines {s t : State} {changes : List (Nat × LineState)} {zs : List Nat} {d : List Instr}
    (h : LinesFollowed s t changes zs d) (hok : ZonesOk (s.gathered t)) :
    ZonesFollowLines s.deliveries changes s (s.gathered t) := by
  have hplain : d.filter isPlaceholder = [] := filter_eq_nil_of fun c hc => by
    rcases h.delivered.kinds c hc with ⟨i, z, rfl⟩ | ⟨n, e, rfl⟩ <;> rfl
  have hdel : (s.gathered t).deliveries = s.deliveries ++ inEventOrder d := by
    show s.deliveries ++ inEventOrder (t.deliveries.drop s.deliveries.length) = _
    rw [h.delivered.deliveries, List.drop_left]
  rw [inEventOrder, hplain, h.delivered.detectors, List.append_nil] at hdel
  refine ⟨fun z hz => ?_, ⟨zs, bySign d, h.nodup, h.tripped, ?_, bySign_sorted d, fun c hc => ?_, fun n hn => ?_⟩,
    zonesDecided_of_ok hok⟩
  · obtain ⟨hlevel, hpermit, htripped, hstands, hfired⟩ := h.zone z hz
    exact ⟨hlevel, hpermit, htripped, hstands, hfired, degradedByLines_of_ok hok hz⟩
  · rw [hdel, List.append_assoc]
  · obtain ⟨hmem, hsign⟩ := mem_bySign hc
    rcases h.delivered.kinds c hmem with ⟨i, z, rfl⟩ | hkind
    · cases hsign
    · exact hkind
  · intro i hchanged
    have hfilter := bySign_filter d hn
    rcases h.delivered.last n hn with hsame | hlast
    · exact absurd hsame hchanged
    · have hdecide : (bySign d).filter (fun c => decide (deliveredSign c = some n)) =
          (bySign d).filter fun c => deliveredSign c == some n :=
        List.filter_congr fun c _ => by rw [Bool.eq_iff_iff, decide_eq_true_iff, beq_iff_eq]
      exact (congrArg List.getLast? (hdecide.trans hfilter)).trans hlast

theorem followed_row {s : State} {c : Instr} {t u : State} (hc : c ≠ .startUp) (ht : TablesOk s) (hs : ZonesOk s)
    {changes : List (Nat × LineState)} (hu : u = (s.taking c).gathered t)
    (hexec : exec c s = .next u) (h : ∃ zs d, LinesFollowed (s.taking c) t changes zs d) :
    ZonesFollowLines (s.taking c).deliveries changes s u := by
  have hok : ZonesOk u := exec_zonesOk hc ht hs hexec
  subst hu
  obtain ⟨zs, d, h⟩ := h
  exact h.zonesFollowLines hok

theorem stationReport_followed {s : State} {c : Instr} {x : Nat} (r : TripReport) (hc : c ≠ .startUp) (ht : TablesOk s)
    (hs : ZonesOk s) (hexec : exec c s = .next (stationReport (s.taking c) x r)) :
    ZonesFollowLines (s.taking c).deliveries (lineChanges s (.tripReport x r)) s (stationReport (s.taking c) x r) := by
  obtain ⟨zs, d, hfollowed, -⟩ := linesFollowed_foldl (s := s.taking c) ⟨ht, hs⟩ (stationLines s.image x)
    (stationLines_nodup _ _) (fun l hl => (mem_stationLines.1 hl).1)
    fun l hl => lineReport_step (fun l => conditionAt r (inputOf s l)) (mem_stationLines.1 hl).1
  refine followed_row hc ht hs rfl hexec ?_
  have hchanges : lineChanges s (.tripReport x r) = (stationLines s.image x).filterMap fun l =>
      (if s.image.debounce ≤ (Counted (s.line l) (conditionAt r (inputOf s l))).confirm then
        some (stateOf (conditionAt r (inputOf s l))) else none).map fun st => (l, st) := by
    refine List.filterMap_congr fun l _ => ?_
    dsimp only
    split <;> rfl
  rw [hchanges]
  exact ⟨zs, d, hfollowed⟩

/-- Settles O27. -/
theorem firingLineTripsZone : Obligations.FiringLineTripsZone := by
  refine ⟨fun s l z st ht hs hl hzone => ?_, fun s x ht hs hx c hc => ?_⟩
  · have hl' : l < 24 := by simpa [lineOk] using hl
    have hz : z < 10 := imageLine_zone ht.1 hzone
    have himg : (lineEnters s l st).image = s.image := (leaves_lineEnters s l st).image
    have hok : ZonesOk (lineEnters s l st) := zonesOk_lineEnters st ht hl' hs
    obtain ⟨hlevel, hpermit, hother, hfired, htrips, hstands⟩ := lineEnters_handed st ht hzone
    refine ⟨(lineEnters_line st (lines_sized ht hl') l).trans (if_pos rfl), hlevel, hpermit, hother,
      degradedByLines_of_ok hok hz, zonesDecided_of_ok hok, hfired, ?_⟩
    split
    · next h =>
      obtain ⟨hstate, hdel, htold⟩ := htrips h
      exact ⟨hstate, hdel, htold.oneNotice⟩
    · next h =>
      obtain ⟨hstate, hdel, -, htold⟩ := hstands h
      exact ⟨hstate, hdel, htold.oneNotice⟩
  · rcases hc with rfl | ⟨r, rfl | rfl⟩
    · have hexec := exec_tripStationLost (s := s) hx
      obtain ⟨zs, d, hfollowed, -⟩ := linesFollowed_foldl (s := s.taking (.tripStationLost x)) ⟨ht, hs⟩
        (stationLines s.image x) (stationLines_nodup _ _) (fun l hl => (mem_stationLines.1 hl).1)
        fun l hl => lineLost_step (mem_stationLines.1 hl).1
      have hchanges : lineChanges s (.tripStationLost x) = (stationLines s.image x).filterMap fun l =>
          (if (s.line l).state = .unmonitored then none else some LineState.unmonitored).map fun st => (l, st) := by
        refine List.filterMap_congr fun l _ => ?_
        split <;> rfl
      refine ⟨_, hexec, followed_row (c := .tripStationLost x) nofun ht hs rfl hexec ?_, linesKept_of_leaves (s := s.taking (.tripStationLost x))
        (leaves_tripLost (s.taking (.tripStationLost x)) x),
        event_changesOnly [.notices, .zones, .deliveries] hexec rfl nofun rfl⟩
      rw [hchanges]
      exact ⟨zs, d, hfollowed⟩
    · have hexec := exec_tripReport (s := s) r hx
      exact ⟨_, hexec, stationReport_followed (c := _) r nofun ht hs hexec, linesKept_of_leaves (s := s.taking (.tripReport x r))
        (leaves_stationReport (s.taking (.tripReport x r)) x r),
        event_changesOnly [.notices, .zones, .deliveries] hexec rfl nofun rfl⟩
    · have hexec := exec_tripStationReturn (s := s) r hx
      exact ⟨_, hexec, stationReport_followed (c := _) r nofun ht hs hexec,
        linesKept_of_leaves (s := s.taking (.tripStationReturn x r))
          (leaves_stationReport (s.taking (.tripStationReturn x r)) x r),
        event_changesOnly [.notices, .zones, .deliveries] hexec rfl nofun rfl⟩

end Sys2Proof.Machine

/-! PROOF. One event at a channel (R112–R118): what it makes of the record, what it tells the sign arbiter and the
ports; FORCE CHANNEL and UNFORCE. -/

namespace Sys2Proof.Machine

set_option Elab.async false

open Sys2Proof

theorem showsNumber_iff (r : Channel) : r.showsNumber = true ↔ ShowsNumber r := by
  unfold Channel.showsNumber
  cases hs : r.status <;> cases hf : r.forced <;> simp [ShowsNumber, hs, hf]

theorem tables_channels {s : State} (ht : TablesOk s) : s.weather.channels.length = 24 := by
  obtain ⟨-, -, -, -, -, -, -, -, -, -, hchannels, -⟩ := ht
  exact hchannels

theorem tables_heads {s : State} (ht : TablesOk s) : s.weather.heads.length = 8 := by
  obtain ⟨-, -, -, -, -, -, -, -, -, hheads, -⟩ := ht
  exact hheads

theorem channels_sized {s : State} {c : Nat} {e : ChannelEntry} (ht : TablesOk s)
    (he : imageChannel s.image c = some e) : c < s.weather.channels.length := by
  rw [tables_channels ht]
  exact imageChannel_lt ht.1 he

theorem effective_of {s : State} {c : Nat} {e : ChannelEntry} (he : imageChannel s.image c = some e) :
    effective s c = some (effectiveOf e (s.channel c)) := by
  rw [effective, he]
  rfl

/-- One event at a fitted channel: the channel, what is told of it, and nothing else. -/
structure ChannelGiven (s t : State) (c : Nat) (e : ChannelEntry) (new : Channel) (cause : ChannelCause) : Prop where
  self : t.channel c = new
  other : ∀ k, k ≠ c → t.channel k = s.channel k
  beside : t.weather = { s.weather with channels := t.weather.channels }
  effective : effective t c = some (effectiveOf e new)
  deliveries : t.deliveries = s.deliveries ++ placeholdersOf s t c
  told : Told (if (s.channel c).status ≠ new.status ∨ cause = .forced then
    [(c, .channel new.status cause (some (effectiveOf e new)))] else []) s t
  image : t.image = s.image
  clock : t.clock = s.clock

/-- Whether a change reaches the sign arbiter, from the records before and after. -/
theorem shownChange_iff (e : ChannelEntry) (old new : Channel) : shownChange e old new = true ↔
    ¬(some (effectiveOf e new) = some (effectiveOf e old) ∧ (ShowsNumber new ↔ ShowsNumber old)) := by
  unfold shownChange
  rw [Bool.or_eq_true, bne_iff_ne, bne_iff_ne, not_and_or, Option.some_inj, ne_eq, ne_eq, eq_comm, Bool.eq_iff_iff,
    showsNumber_iff, showsNumber_iff]
  exact or_congr Iff.rfl (not_congr Iff.comm)

theorem channelEvent_deliveries (s : State) (c : Nat) (e : ChannelEntry) (new : Channel) (cause : ChannelCause) :
    (channelEvent s c e new cause).deliveries = s.deliveries ++ if shownChange e (s.channel c) new = true then
      (signsOfChannel s.image c).map Instr.placeholderChange else [] := by
  unfold channelEvent
  dsimp only
  split <;> split <;> first | rfl | exact (List.append_nil _).symm

theorem signsOfChannel_placeholders (img : Image) (c : Nat) : (signsOfChannel img c).map Instr.placeholderChange =
    ((List.range 12).filter fun i => (imageSegment img i).ts = some c).flatMap fun i =>
      (signList img i).map Instr.placeholderChange := by
  rw [signsOfChannel, List.map_flatMap]
  refine congrArg (List.flatMap _) (List.filter_congr fun i _ => ?_)
  rw [Bool.eq_iff_iff, beq_iff_eq, decide_eq_true_iff]

theorem channelEvent_given {s : State} {c : Nat} {e : ChannelEntry} (new : Channel) (cause : ChannelCause)
    (ht : TablesOk s) (he : imageChannel s.image c = some e) :
    ChannelGiven s (channelEvent s c e new cause) c e new cause := by
  have hself := channelEvent_channel_self s c e new cause (channels_sized ht he)
  have himg := channelEvent_image s c e new cause
  have heff : effective (channelEvent s c e new cause) c = some (effectiveOf e new) := by
    rw [effective_of (himg.symm ▸ he), hself]
  refine ⟨hself, fun k hk => channelEvent_channel_ne s c e new cause k hk, ?_, heff, ?_, ?_, himg,
    (leaves_channelEvent s c e new cause).kept .clock (by decide)⟩
  · rw [channelEvent_weather]
    rfl
  · rw [channelEvent_deliveries, placeholdersOf, heff, effective_of he, hself, signsOfChannel_placeholders]
    by_cases hshown : shownChange e (s.channel c) new = true
    · rw [if_pos hshown, if_neg ((shownChange_iff ..).1 hshown)]
    · rw [if_neg hshown, if_pos (not_not.1 fun h => hshown ((shownChange_iff ..).2 h))]
  · have hports := channelEvent_ports s c e new cause
    split
    · next h =>
      rw [if_pos h] at hports
      exact (told_notify s c _).after hports
    · next h =>
      rw [if_neg h] at hports
      exact told_of_ports hports

/-! ## FORCE CHANNEL and UNFORCE (R117, R118) -/

theorem runForceChannel_refused {s : State} {p c : Nat} {v : Option Int} (h : imageChannel s.image c = none) :
    runForceChannel s p (c, v) = .mk .state [] s := by
  unfold runForceChannel
  rw [h]
  rfl

theorem runForceChannel_done {s : State} {p c : Nat} {v : Option Int} {e : ChannelEntry}
    (h : imageChannel s.image c = some e) :
    runForceChannel s p (c, v) = .mk .done
      (3#8 :: (encForced (forcedContent e v) ++
        encWeather (some (effectiveOf e { s.channel c with forced := forcedContent e v, status := .forced }))))
      (channelEvent s c e { s.channel c with forced := forcedContent e v, status := .forced } .forced) := by
  unfold runForceChannel
  rw [h]
  rfl

theorem runUnforce_refused {s : State} {p c : Nat}
    (h : ¬((imageChannel s.image c).isSome = true ∧ (s.channel c).status = .forced)) :
    runUnforce s p c = .mk .state [] s := by
  unfold runUnforce
  cases he : imageChannel s.image c with
  | none => rfl
  | some e =>
    have hf : ¬(s.channel c).status = .forced := fun hf => h ⟨by rw [he]; rfl, hf⟩
    simp [hf, refuse]

/-- The record that UNFORCE leaves of a channel (R118). -/
def unforced (r : Channel) : Channel :=
  { r with forced := .absent, status := if r.stale = none then .stale else .fresh }

theorem unforced_eq (r : Channel) :
    { r with forced := .absent, status := if r.stale.isSome then .fresh else .stale } = unforced r := by
  unfold unforced
  cases r.stale <;> rfl

theorem runUnforce_done {s : State} {p c : Nat} {e : ChannelEntry} (he : imageChannel s.image c = some e)
    (hf : (s.channel c).status = .forced) :
    runUnforce s p c = .mk .done
      ((unforced (s.channel c)).status.code :: encWeather (some (effectiveOf e (unforced (s.channel c)))))
      (channelEvent s c e (unforced (s.channel c)) .unforced) := by
  unfold runUnforce
  rw [he]
  dsimp only
  rw [if_pos (by simpa using hf), unforced_eq]
  unfold unforced
  cases (s.channel c).stale <;> rfl

theorem encWeather_value (v : Option Int) : encWeather v = weatherValue v := by
  cases v
  · decide
  · rfl

theorem forcedContent_eq (e : ChannelEntry) (v : Option Int) : forcedContent e v =
    match v.map fun x => max (typeLow e.type) (min (typeHigh e.type) x) with
    | some x => .value x
    | none => .failure := by
  cases v with
  | none => rfl
  | some x => exact congrArg Forced.value (congrArg (max _) (min_comm ..))

/-- The settled row of FORCE CHANNEL. -/
theorem forceChannel_row {s : State} {p c : Nat} {v : Option Int} {e : ChannelEntry} (ht : TablesOk s)
    (hacc : Accepted forceChannelCommand s p (c, v)) (he : imageChannel s.image c = some e) :
    let clamped := v.map fun x => max (typeLow e.type) (min (typeHigh e.type) x)
    ∃ t, exec (.forceChannel p) s = .next t ∧
      t.channel c = { s.channel c with
        status := .forced,
        forced := match clamped with
          | some x => .value x
          | none => .failure } ∧
      effective t c = some (clamped.getD (faultValue e (s.channel c))) ∧
      Replied p .forceChannel .done
        ([3#8, if clamped.isSome then 1 else 2] ++ weatherValue clamped ++ weatherValue (effective t c)) s t ∧
      OneNotice none c (.channel .forced .forced (effective t c)) s t ∧
      t.deliveries = s.deliveries ++ placeholdersOf s t c ∧
      t.weather = { s.weather with channels := t.weather.channels } ∧
      (∀ k, k ≠ c → t.channel k = s.channel k) ∧ LinesKept s t ∧
      ChangesOnly [.ports, .weather, .deliveries] s t := by
  intro clamped
  have hrun : forceChannelCommand.run (popFrame s p) p (c, v) = _ :=
    runForceChannel_done (s := popFrame s p) (p := p) (v := v) he
  have hgiven := channelEvent_given (s := popFrame s p)
    { s.channel c with forced := forcedContent e v, status := .forced } .forced ((leaves_popFrame s p).tablesOk ht) he
  have htold := hgiven.told
  rw [if_pos (.inr rfl)] at htold
  obtain ⟨hnotices, hreply, hlines⟩ := outcome_told hrun htold (accepted_lt ht hacc)
  have heq := outcome_eq hrun
  have heffective : effective (outcome forceChannelCommand s p (c, v)) c =
      some (effectiveOf e { s.channel c with forced := forcedContent e v, status := .forced }) := by
    rw [heq]; exact hgiven.effective
  refine ⟨_, exec_accepted rfl (fun _ _ => ⟨rfl, rfl, rfl⟩) hacc, ?_, ?_, ?_, ?_, ?_, ?_, ?_, hlines,
    outcome_changesOnly ((leaves_run .forceChannel (popFrame s p) p (c, v)).changesOnly (by decide)) (by decide)⟩
  · rw [heq, ← forcedContent_eq]; exact hgiven.self
  · rw [heffective]
    cases v <;> simp [clamped, forcedContent, effectiveOf, faultValue, clampInt, min_comm]
  · rw [heffective, ← encWeather_value (some _), ← encWeather_value]
    have hdata : encForced (forcedContent e v) = (if clamped.isSome then 1 else 2) :: encWeather clamped := by
      cases v with
      | none => rfl
      | some x => simp [clamped, forcedContent, encForced, clampInt, min_comm]
    rw [hdata] at hreply
    exact hreply
  · rw [heffective]; exact oneNotice_of_noticesSent hnotices
  · rw [heq]; exact hgiven.deliveries
  · rw [heq]; exact hgiven.beside
  · rw [heq]; exact hgiven.other

/-- The settled row of UNFORCE. -/
theorem unforce_row {s : State} {p c : Nat} {e : ChannelEntry} (ht : TablesOk s) (hacc : Accepted unforceCommand s p c)
    (he : imageChannel s.image c = some e) (hf : (s.channel c).status = .forced) :
    ∃ t, exec (.unforce p) s = .next t ∧ t.channel c = unforced (s.channel c) ∧
      Replied p .unforce .done
        ((if (s.channel c).stale = none then 1#8 else 0#8) :: weatherValue (effective t c)) s t ∧
      OneNotice none c (.channel (t.channel c).status .unforced (effective t c)) s t ∧
      t.deliveries = s.deliveries ++ placeholdersOf s t c ∧
      t.weather = { s.weather with channels := t.weather.channels } ∧
      (∀ k, k ≠ c → t.channel k = s.channel k) ∧ LinesKept s t ∧
      ChangesOnly [.ports, .weather, .deliveries] s t := by
  have hrun : unforceCommand.run (popFrame s p) p c = _ := runUnforce_done (s := popFrame s p) (p := p) he hf
  have hgiven := channelEvent_given (s := popFrame s p) (unforced (s.channel c)) .unforced
    ((leaves_popFrame s p).tablesOk ht) he
  have hchanged : (s.channel c).status ≠ (unforced (s.channel c)).status := by
    rw [hf]
    unfold unforced
    cases (s.channel c).stale <;> simp
  have htold := hgiven.told
  rw [if_pos (.inl hchanged)] at htold
  obtain ⟨hnotices, hreply, hlines⟩ := outcome_told hrun htold (accepted_lt ht hacc)
  have heq := outcome_eq hrun
  have heffective : effective (outcome unforceCommand s p c) c = some (effectiveOf e (unforced (s.channel c))) := by
    rw [heq]; exact hgiven.effective
  have hself : (outcome unforceCommand s p c).channel c = unforced (s.channel c) := by
    rw [heq]; exact hgiven.self
  refine ⟨_, exec_accepted rfl (fun _ _ => ⟨rfl, rfl, rfl⟩) hacc, hself, ?_, ?_, ?_, ?_, ?_, hlines,
    outcome_changesOnly ((leaves_run .unforce (popFrame s p) p c).changesOnly (by decide)) (by decide)⟩
  · rw [heffective, ← encWeather_value]
    have hcode : (unforced (s.channel c)).status.code = if (s.channel c).stale = none then 1#8 else 0#8 := by
      unfold unforced
      cases (s.channel c).stale <;> rfl
    rw [← hcode]
    exact hreply
  · rw [heffective, hself]; exact oneNotice_of_noticesSent hnotices
  · rw [heq]; exact hgiven.deliveries
  · rw [heq]; exact hgiven.beside
  · rw [heq]; exact hgiven.other

/-- Settles O34. -/
theorem forcingDecidesEffectiveValue : Obligations.ForcingDecidesEffectiveValue := by
  refine fun s p c ht => ⟨fun v hacc => ?_, fun hacc => ?_⟩
  · have hexec : exec (.forceChannel p) s = .next (outcome forceChannelCommand s p (c, v)) :=
      exec_accepted rfl (fun _ _ => ⟨rfl, rfl, rfl⟩) hacc
    cases he : imageChannel s.image c with
    | none =>
      dsimp only
      rw [hexec, outcome_answered (runForceChannel_refused (s := popFrame s p) (p := p) he)]
      rfl
    | some e => exact forceChannel_row ht hacc he
  · have hexec : exec (.unforce p) s = .next (outcome unforceCommand s p c) :=
      exec_accepted rfl (fun _ _ => ⟨rfl, rfl, rfl⟩) hacc
    split
    · next h =>
      obtain ⟨e, he⟩ := Option.isSome_iff_exists.1 h.1
      exact unforce_row ht hacc he h.2
    · next h =>
      rw [hexec, outcome_answered (runUnforce_refused (s := popFrame s p) (p := p) h)]
      rfl

end Sys2Proof.Machine

/-! PROOF. The station link and its exchanges (R109–R111, R113): the link granted, a sample taken, the polls of the
heads and what their answers make of the channels. -/

namespace Sys2Proof.Machine

set_option Elab.async false

open Sys2Proof

/-! ## The link granted (R110) -/

theorem grantLink_busy {w : Weather} {x : LinkExchange} (he : w.exchange = some x) : grantLink w = w := by
  rw [grantLink, he]

/-- A grant leaves of every head all but its due poll. -/
theorem grantLink_head (w : Weather) (k : Nat) :
    ((grantLink w).heads.getD k default).reachable = (w.heads.getD k default).reachable ∧
      ((grantLink w).heads.getD k default).lastReply = (w.heads.getD k default).lastReply := by
  cases he : w.exchange with
  | some x => rw [grantLink_busy he]; exact ⟨rfl, rfl⟩
  | none =>
    cases hw : w.waiting with
    | some x => rw [grantLink_waits he hw]; exact ⟨rfl, rfl⟩
    | none =>
      cases hd : firstDue w with
      | none => rw [grantLink_idle he hw hd]; exact ⟨rfl, rfl⟩
      | some h =>
        rw [grantLink_due he hw hd]
        dsimp only
        by_cases hk : k = h
        · subst hk
          rcases lt_or_ge k w.heads.length with hlt | hge
          · rw [getD_set_self _ _ _ _ hlt]
            exact ⟨rfl, rfl⟩
          · rw [List.set_eq_of_length_le hge]
            exact ⟨rfl, rfl⟩
        · rw [getD_set_ne _ _ _ _ _ hk]
          exact ⟨rfl, rfl⟩

/-- The free link goes to what waits for it. -/
theorem linkTakes_grantLink {due : Nat → Bool} {s t : State} {w : Weather} (htw : t.weather = grantLink w)
    (hfree : w.exchange = none) (hwait : w.waiting = s.weather.waiting) (hlen : w.heads.length = 8)
    (hdue : ∀ k < 8, (w.heads.getD k default).pollDue = due k) : LinkTakes due s t := by
  have hhead : ∀ k, t.head k = (grantLink w).heads.getD k default := fun k => by rw [State.head, htw]
  have hfirst : firstDue w = (List.range 8).find? due :=
    List.find?_congr fun k hk => hdue k (List.mem_range.1 hk)
  rw [LinkTakes, ← hwait]
  cases hw : w.waiting with
  | some x =>
    obtain ⟨h, inp⟩ := x
    have hg := grantLink_waits hfree hw
    refine ⟨by rw [htw, hg], by rw [htw, hg], fun k hk => ?_⟩
    rw [hhead, hg]
    exact hdue k hk
  | none =>
    cases hd : (List.range 8).find? due with
    | some h =>
      have hg := grantLink_due hfree hw (hfirst.trans hd)
      have hlt : h < 8 := List.mem_range.1 (List.mem_of_find?_eq_some hd)
      refine ⟨by rw [htw, hg]; exact hw, by rw [htw, hg], fun k hk => ?_⟩
      rw [hhead, hg]
      by_cases hkh : k = h
      · subst hkh
        exact (congrArg Head.pollDue (getD_set_self _ _ _ _ (by omega))).trans (by simp)
      · exact (congrArg Head.pollDue (getD_set_ne _ _ _ _ _ hkh)).trans (by rw [hdue k hk]; simp [hkh])
    | none =>
      have hg := grantLink_idle hfree hw (hfirst.trans hd)
      refine ⟨by rw [htw, hg]; exact hw, by rw [htw, hg]; exact hfree, fun k hk => ?_⟩
      rw [hhead, hg, hdue k hk]
      exact Bool.eq_false_iff.2 (List.find?_eq_none.1 hd k (List.mem_range.2 hk))

/-- An exchange with a head that ends: the head is left as given, and the link goes on. -/
theorem exchangeEnds_endExchange {s u : State} {h : Nat} {r : Head} (hheads : u.weather.heads = s.weather.heads.set h r)
    (hr : r.pollDue = (s.head h).pollDue) (hwait : u.weather.waiting = s.weather.waiting)
    (htimer : u.weather.sampleTimer = s.weather.sampleTimer) (hlen : s.weather.heads.length = 8) (hh : h < 8) :
    ExchangeEnds h s (endExchange u) ∧ ((endExchange u).head h).reachable = r.reachable ∧
      ((endExchange u).head h).lastReply = r.lastReply := by
  have hself : u.head h = r := by
    rw [State.head, hheads]
    exact getD_set_self _ _ _ _ (by omega)
  have hother : ∀ k, k ≠ h → u.head k = s.head k := fun k hk => by
    rw [State.head, hheads]
    exact getD_set_ne _ _ _ _ _ hk
  have hdue : ∀ k < 8, (u.head k).pollDue = (s.head k).pollDue := fun k _ => by
    by_cases hk : k = h
    · rw [hk, hself, hr]
    · rw [hother k hk]
  have hhead : ∀ k, ((endExchange u).head k).reachable = (u.head k).reachable ∧
      ((endExchange u).head k).lastReply = (u.head k).lastReply :=
    grantLink_head { u.weather with exchange := none }
  refine ⟨⟨linkTakes_grantLink (w := { u.weather with exchange := none }) rfl rfl hwait ?_ hdue, ?_, fun k _ hk => ?_⟩, ?_, ?_⟩
  · show u.weather.heads.length = 8
    rw [hheads, List.length_set, hlen]
  · exact (grantLink_beside { u.weather with exchange := none }).2.2.trans htimer
  · rw [(hhead k).1, (hhead k).2, hother k hk]
    exact ⟨rfl, rfl⟩
  · rw [(hhead h).1, hself]
  · rw [(hhead h).2, hself]

theorem endExchange_beside (u : State) : (endExchange u).weather.slot = u.weather.slot ∧
    (endExchange u).weather.channels = u.weather.channels :=
  ⟨(grantLink_beside _).1, (grantLink_beside _).2.1⟩

/-! ## Samples (R112, R113) -/

/-- The record that a sample leaves of a channel. -/
def sampled (now : Word) (e : ChannelEntry) (code : RawCode) (r : Channel) : Channel :=
  { r with
    lastSample := some (calibrate e code.toNat, code.toNat),
    lastGood := if plausible e (calibrate e code.toNat) then some (calibrate e code.toNat) else r.lastGood,
    lastGoodTime := if plausible e (calibrate e code.toNat) then some now else r.lastGoodTime,
    stale := if plausible e (calibrate e code.toNat) then some e.staleLimit else r.stale,
    status := if r.status = .forced then .forced else if plausible e (calibrate e code.toNat) then .fresh
      else if r.status = .stale then .stale else .implausible }

theorem sampled_good {e : ChannelEntry} {code : RawCode} (h : plausible e (calibrate e code.toNat) = true) (s : State)
    (r : Channel) : goodSample s e (calibrate e code.toNat) { r with lastSample := some (calibrate e code.toNat, code.toNat) } =
      sampled s.clock.seconds e code r := by
  unfold goodSample sampled
  simp only [h, if_true, beq_iff_eq]

theorem sampled_bad {e : ChannelEntry} {code : RawCode} (h : ¬plausible e (calibrate e code.toNat) = true) (now : Word)
    (r : Channel) : badSample { r with lastSample := some (calibrate e code.toNat, code.toNat) } =
      sampled now e code r := by
  unfold badSample sampled
  cases hst : r.status <;> simp [h]

/-- The notice of a sample (R116). -/
def sampleNotice (s t : State) (c : Nat) : Option (Nat × NoticeBody) :=
  if (t.channel c).status = (s.channel c).status then none
  else some (c, .channel (t.channel c).status
    (if (t.channel c).status = .fresh then .goodSample else .implausible) (effective t c))

/-- A sample changes the status of its channel to FRESH by a plausible value, and to IMPLAUSIBLE by another. -/
theorem sampled_status {now : Word} {e : ChannelEntry} {code : RawCode} {r : Channel}
    (h : r.status ≠ (sampled now e code r).status) : (sampled now e code r).status =
      if plausible e (calibrate e code.toNat) = true then .fresh else .implausible := by
  revert h
  unfold sampled
  cases hst : r.status <;> by_cases hp : plausible e (calibrate e code.toNat) = true <;> simp [hp]

/-- One sample at a fitted channel. -/
structure SampleGiven (s t : State) (c : Nat) (e : ChannelEntry) (code : RawCode) : Prop where
  taken : SampleTaken s t c e code
  other : ∀ k, k ≠ c → t.channel k = s.channel k
  beside : t.weather = { s.weather with channels := t.weather.channels }
  deliveries : t.deliveries = s.deliveries ++ placeholdersOf s t c
  told : Told (sampleNotice s t c).toList s t
  image : t.image = s.image
  clock : t.clock = s.clock

theorem ChannelGiven.sample {s t : State} {c : Nat} {e : ChannelEntry} {code : RawCode}
    (h : ChannelGiven s t c e (sampled s.clock.seconds e code (s.channel c))
      (if plausible e (calibrate e code.toNat) = true then .goodSample else .implausible)) :
    SampleGiven s t c e code := by
  refine ⟨h.self, h.other, h.beside, h.deliveries, ?_, h.image, h.clock⟩
  have htold := h.told
  rw [sampleNotice, h.self, h.effective]
  by_cases hsame : (s.channel c).status = (sampled s.clock.seconds e code (s.channel c)).status
  · rw [if_neg (by rintro (hne | hf); exacts [hne hsame, by split at hf <;> cases hf])] at htold
    rw [if_pos hsame.symm]
    exact htold
  · rw [if_pos (.inl hsame)] at htold
    rw [if_neg fun he => hsame he.symm]
    have hcause : (if (sampled s.clock.seconds e code (s.channel c)).status = .fresh then ChannelCause.goodSample
        else .implausible) = if plausible e (calibrate e code.toNat) = true then .goodSample else .implausible := by
      rw [sampled_status hsame]
      by_cases hp : plausible e (calibrate e code.toNat) = true <;> simp [hp]
    rw [hcause]
    exact htold

theorem sampleAt_given {s : State} {c : Nat} {e : ChannelEntry} (code : RawCode) (ht : TablesOk s)
    (he : imageChannel s.image c = some e) : SampleGiven s (sampleAt s c e code) c e code := by
  refine ChannelGiven.sample ?_
  unfold sampleAt
  dsimp only
  by_cases hp : plausible e (calibrate e code.toNat) = true
  · rw [if_pos hp, if_pos hp, sampled_good hp]
    exact channelEvent_given _ _ ht he
  · rw [if_neg hp, if_neg hp, sampled_bad hp s.clock.seconds]
    exact channelEvent_given _ _ ht he

/-! ## The samples of one exchange (R111) -/

theorem placeholdersOf_congr {s s' t t' : State} {c : Nat} (hs : s'.channel c = s.channel c) (hsi : s'.image = s.image)
    (ht : t'.channel c = t.channel c) (hti : t'.image = t.image) : placeholdersOf s' t' c = placeholdersOf s t c := by
  unfold placeholdersOf effective
  rw [hs, hsi, ht, hti]

theorem sampleNotice_congr {s s' t t' : State} {c : Nat} (hs : s'.channel c = s.channel c)
    (ht : t'.channel c = t.channel c) (hti : t'.image = t.image) : sampleNotice s' t' c = sampleNotice s t c := by
  unfold sampleNotice effective
  rw [hs, ht, hti]

theorem sampleTaken_congr {s s' t t' : State} {c : Nat} {e : ChannelEntry} {code : RawCode}
    (hs : s'.channel c = s.channel c) (hclock : s'.clock = s.clock) (ht : t'.channel c = t.channel c)
    (h : SampleTaken s t c e code) : SampleTaken s' t' c e code := by
  unfold SampleTaken at h ⊢
  rw [hs, hclock, ht]
  exact h

/-- The samples of several channels, each with the code its entry gives it. -/
structure SamplesGiven (s t : State) (code : ChannelEntry → RawCode) (cs : List Nat) : Prop where
  taken : ∀ c ∈ cs, ∀ e, imageChannel s.image c = some e → SampleTaken s t c e (code e)
  other : ∀ c, c ∉ cs → t.channel c = s.channel c
  beside : t.weather = { s.weather with channels := t.weather.channels }
  deliveries : t.deliveries = s.deliveries ++ cs.flatMap (placeholdersOf s t)
  told : Told (cs.filterMap (sampleNotice s t)) s t
  tables : TablesOk t
  image : t.image = s.image
  clock : t.clock = s.clock

theorem samplesGiven_nil {s : State} (code : ChannelEntry → RawCode) (ht : TablesOk s) : SamplesGiven s s code [] :=
  ⟨fun _ h => absurd h List.not_mem_nil, fun _ _ => rfl, rfl, (List.append_nil _).symm, told_refl s, ht, rfl, rfl⟩

theorem SamplesGiven.next {s t u : State} {code : ChannelEntry → RawCode} {cs : List Nat} (h : SamplesGiven s t code cs)
    {c : Nat} {e : ChannelEntry} (hnew : c ∉ cs) (he : imageChannel s.image c = some e)
    (hu : SampleGiven t u c e (code e)) (hut : TablesOk u) : SamplesGiven s u code (cs ++ [c]) := by
  have hold : t.channel c = s.channel c := h.other c hnew
  have hsame : ∀ k ∈ cs, u.channel k = t.channel k := fun k hk => hu.other k fun hkc => hnew (hkc ▸ hk)
  refine ⟨fun k hk e' he' => ?_, fun k hk => ?_, ?_, ?_, ?_, hut, hu.image.trans h.image, hu.clock.trans h.clock⟩
  · rcases List.mem_append.1 hk with hk | hk
    · exact sampleTaken_congr rfl rfl (hsame k hk) (h.taken k hk e' he')
    · obtain rfl := List.mem_singleton.1 hk
      obtain rfl := Option.some.inj (he.symm.trans he')
      exact sampleTaken_congr hold.symm h.clock.symm rfl hu.taken
  · exact (hu.other k fun hkc => hk (by simp [hkc])).trans (h.other k fun hm => hk (by simp [hm]))
  · rw [hu.beside, h.beside]
  · rw [hu.deliveries, h.deliveries, List.flatMap_append, List.flatMap_singleton, List.append_assoc,
      placeholdersOf_congr (s := s) (t := u) hold h.image rfl rfl,
      List.flatMap_congr fun k hk => placeholdersOf_congr (s := s) (s' := s) rfl rfl (hsame k hk).symm hu.image.symm]
  · have hboth := h.told.trans hu.told (congrArg Clock.seconds h.clock)
    rw [sampleNotice_congr (s := s) (t := u) hold rfl rfl,
      List.filterMap_congr fun k hk => sampleNotice_congr (s := s) (s' := s) rfl (hsame k hk).symm hu.image.symm] at hboth
    rw [List.filterMap_append]
    cases hn : sampleNotice s u c with
    | none => simpa [hn] using hboth
    | some x => simpa [hn] using hboth

/-- The input of a fitted channel of an accepted image. -/
theorem channelEntry_input {img : Image} {c h inp : Nat} {e : ChannelEntry} (ha : imageAccepted img = true)
    (he : imageChannel img c = some e) (hp : e.place = some (h, inp)) : inp < 4 := by
  have hok := imageChannel_entryOk ha he
  have hinput : channelInput e = inp := by rw [channelInput, hp]; rfl
  simp only [channelEntryOk, Bool.and_eq_true, decide_eq_true_eq, hinput] at hok
  omega

theorem channelsOf_eq (img : Image) (h : Nat) : headChannels img h = channelsOf img h := by
  unfold headChannels channelsOf
  refine List.flatMap_congr fun inp _ => List.filter_congr fun c _ => ?_
  cases imageChannel img c with
  | none => rfl
  | some e => exact Bool.eq_iff_iff.2 (by simp)

theorem mem_channelsOf {img : Image} {h c : Nat} : c ∈ channelsOf img h ↔
    c < 24 ∧ ∃ e inp, inp < 4 ∧ imageChannel img c = some e ∧ e.place = some (h, inp) := by
  simp only [channelsOf, List.mem_flatMap, List.mem_filter, List.mem_range, Option.any_eq_true, decide_eq_true_eq]
  exact ⟨fun ⟨inp, hi, hc, e, he, hp⟩ => ⟨hc, e, inp, hi, he, hp⟩, fun ⟨hc, e, inp, hi, he, hp⟩ => ⟨inp, hi, hc, e, he, hp⟩⟩

theorem channelsOf_nodup (img : Image) (h : Nat) : (channelsOf img h).Nodup := by
  rw [channelsOf, List.nodup_flatMap]
  refine ⟨fun inp _ => List.nodup_range.filter _, List.Pairwise.imp (fun {i j} hij => ?_) (List.nodup_range (n := 4))⟩
  rw [Function.onFun, List.disjoint_left]
  intro c hi hj
  obtain ⟨e, he, hp⟩ := (Option.any_eq_true ..).1 (List.mem_filter.1 hi).2
  obtain ⟨e', he', hp'⟩ := (Option.any_eq_true ..).1 (List.mem_filter.1 hj).2
  obtain rfl := Option.some.inj (he.symm.trans he')
  rw [decide_eq_true_iff] at hp hp'
  exact hij (Prod.mk.inj (Option.some.inj (hp.symm.trans hp'))).2

theorem takeCodes_given {s : State} (h : Nat) (c0 c1 c2 c3 : RawCode) (ht : TablesOk s) :
    SamplesGiven s (takeCodes s h c0 c1 c2 c3) (fun e => codeAt c0 c1 c2 c3 (channelInput e)) (channelsOf s.image h) := by
  unfold takeCodes
  rw [channelsOf_eq]
  have hfitted : ∀ c ∈ channelsOf s.image h, ∃ e, imageChannel s.image c = some e := fun c hc => by
    obtain ⟨-, e, -, -, he, -⟩ := mem_channelsOf.1 hc
    exact ⟨e, he⟩
  have hnodup := channelsOf_nodup s.image h
  generalize channelsOf s.image h = cs at hfitted hnodup ⊢
  induction cs using List.reverseRecOn with
  | nil => exact samplesGiven_nil _ ht
  | append_singleton cs c ih =>
    obtain ⟨hnd, -, hnew⟩ := List.nodup_append.1 hnodup
    obtain ⟨e, he⟩ := hfitted c (by simp)
    have hgiven := ih (fun k hk => hfitted k (by simp [hk])) hnd
    rw [List.foldl_concat]
    generalize cs.foldl _ s = u at hgiven
    rw [he]
    exact hgiven.next (fun hm => hnew c hm c (List.mem_singleton_self c) rfl) he
      (sampleAt_given _ hgiven.tables (hgiven.image.symm ▸ he)) ((leaves_sampleAt ..).tablesOk hgiven.tables)

/-! ## The events -/

/-- The weather unit before the grant that follows the end of the sample period. -/
theorem pollsDue_head (s : State) {k : Nat} (hk : k < s.weather.heads.length) : (pollsDue s).head k =
    if headFitted s.image k = true then { s.head k with pollDue := true } else s.head k := by
  simp [State.head, pollsDue, State.setWeather, List.getD, hk]

theorem samplePeriod_row {s : State} (ht : TablesOk s) (h0 : s.weather.sampleTimer = 0) :
    let due (h : Nat) : Bool := headFitted s.image h || (s.head h).pollDue
    ∃ t, exec .samplePeriodExpiry s = .next t ∧ t.weather.sampleTimer = s.image.samplePeriod ∧
      (if s.weather.exchange = none then LinkTakes due s t
      else t.weather.exchange = s.weather.exchange ∧ t.weather.waiting = s.weather.waiting ∧
        ∀ h < 8, (t.head h).pollDue = due h) ∧
      (∀ h < 8, (t.head h).reachable = (s.head h).reachable ∧ (t.head h).lastReply = (s.head h).lastReply) ∧
      t.weather.channels = s.weather.channels ∧ t.weather.slot = s.weather.slot ∧ ChangesOnly [.weather] s t := by
  intro due
  have hlen := tables_heads ht
  have hexec : exec .samplePeriodExpiry s = .next ((pollsDue s).setWeather (grantLink (pollsDue s).weather)) := by
    show Host.Outcome.next (if s.weather.sampleTimer = 0 then _ else s) = _
    rw [if_pos h0]
  have hhead := fun k (hk : k < 8) => pollsDue_head s (k := k) (by omega)
  have hdue : ∀ k < 8, ((pollsDue s).head k).pollDue = due k := fun k hk => by
    rw [hhead k hk]
    by_cases hf : headFitted s.image k = true <;> simp [due, hf]
  have hkept : ∀ k < 8, ((pollsDue s).head k).reachable = (s.head k).reachable ∧
      ((pollsDue s).head k).lastReply = (s.head k).lastReply := fun k hk => by
    rw [hhead k hk]
    split <;> exact ⟨rfl, rfl⟩
  obtain ⟨hslot, hchannels, htimer⟩ := grantLink_beside (pollsDue s).weather
  refine ⟨_, hexec, htimer, ?_, fun k hk => ?_, hchannels, hslot, event_changesOnly [.weather] hexec rfl nofun rfl⟩
  · split
    · next hfree => exact linkTakes_grantLink (w := (pollsDue s).weather) rfl hfree rfl (by simpa [pollsDue, State.setWeather] using hlen) hdue
    · next hbusy =>
      obtain ⟨x, hx⟩ := Option.ne_none_iff_exists'.1 hbusy
      have hg : grantLink (pollsDue s).weather = (pollsDue s).weather := grantLink_busy (x := x) hx
      have hexchange := congrArg Weather.exchange hg
      have hwaiting := congrArg Weather.waiting hg
      refine ⟨hexchange, hwaiting, fun k hk => ?_⟩
      rw [← hdue k hk]
      exact congrArg (fun w : Weather => (w.heads.getD k default).pollDue) hg
  · have hg := grantLink_head (pollsDue s).weather k
    exact ⟨hg.1.trans (hkept k hk).1, hg.2.trans (hkept k hk).2⟩

theorem exec_headPollReply {s : State} {h : Nat} (c0 c1 c2 c3 : RawCode) (hh : headOk h = true) :
    exec (.headPollReply h c0 c1 c2 c3) s = .next (if s.weather.exchange = some (.poll h) then
      endExchange (takeCodes (headAnswers s h) h c0 c1 c2 c3) else s) := by
  show onObject (headOk h) _ = _
  rw [hh]
  rfl

theorem leaves_headAnswers (s : State) (h : Nat) : Leaves [.weather] s (headAnswers s h) := leaves_setHead s h _

theorem headPollReply_row {s : State} {h : Nat} (c0 c1 c2 c3 : RawCode) (ht : TablesOk s) (hh : headOk h = true)
    (hx : s.weather.exchange = some (.poll h)) :
    ∃ t, exec (.headPollReply h c0 c1 c2 c3) s = .next t ∧
      (t.head h).reachable = true ∧ (t.head h).lastReply = some s.clock.seconds ∧
      (∀ c < 24, ∀ e inp, imageChannel s.image c = some e → e.place = some (h, inp) →
        SampleTaken s t c e (codeAt c0 c1 c2 c3 inp)) ∧
      (∀ c < 24, (∀ e inp, imageChannel s.image c = some e → e.place ≠ some (h, inp)) →
        t.channel c = s.channel c) ∧
      SamplesTold (channelsOf s.image h) s t ∧ ExchangeEnds h s t ∧
      t.weather.slot = s.weather.slot ∧ LinesKept s t ∧ ChangesOnly [.ports, .weather, .deliveries] s t := by
  have hlt : h < 8 := by simpa [headOk] using hh
  have hexec := exec_headPollReply (s := s) c0 c1 c2 c3 hh
  rw [if_pos hx] at hexec
  have hgiven := takeCodes_given (s := headAnswers s h) h c0 c1 c2 c3 ((leaves_headAnswers s h).tablesOk ht)
  obtain ⟨htaken, hother, hbeside, hdel, htold, -, himg, hclock⟩ := hgiven
  generalize takeCodes (headAnswers s h) h c0 c1 c2 c3 = u at *
  have hends := exchangeEnds_endExchange (s := s) (u := u) (h := h)
    (r := { s.head h with reachable := true, lastReply := some s.clock.seconds }) (by rw [hbeside]; rfl) rfl
    (by rw [hbeside]; rfl) (by rw [hbeside]; rfl) (tables_heads ht) hlt
  obtain ⟨hends, hreach, hlast⟩ := hends
  obtain ⟨hslot, hchannels⟩ := endExchange_beside u
  have hchannel : ∀ c, (endExchange u).channel c = u.channel c := fun c => by rw [State.channel, hchannels]; rfl
  have hfollowed : ∀ c, placeholdersOf s (endExchange u) c = placeholdersOf (headAnswers s h) u c := fun c =>
    placeholdersOf_congr rfl rfl (hchannel c) rfl
  have hnotice : ∀ c, sampleNotice s (endExchange u) c = sampleNotice (headAnswers s h) u c := fun c =>
    sampleNotice_congr rfl (hchannel c) rfl
  refine ⟨_, hexec, hreach, hlast, fun c hc e inp he hp => ?_, fun c hc hno => ?_, ⟨?_, ?_⟩, hends, ?_, ?_,
    event_changesOnly [.notices, .weather, .deliveries] hexec rfl nofun rfl⟩
  · have hin : channelInput e = inp := by rw [channelInput, hp]; rfl
    have hplace := channelEntry_input ht.1 he hp
    have hs := htaken c (mem_channelsOf.2 ⟨hc, e, inp, hplace, he, hp⟩) e he
    rw [hin] at hs
    exact sampleTaken_congr (s := headAnswers s h) rfl rfl (hchannel c) hs
  · refine (hchannel c).trans (hother c fun hm => ?_)
    obtain ⟨-, e, inp, -, he, hp⟩ := mem_channelsOf.1 hm
    exact hno e inp he hp
  · rw [List.flatMap_congr fun c _ => hfollowed c]
    exact hdel
  · have heq : (channelsOf s.image h).filterMap (sampleNotice s (endExchange u)) =
        (channelsOf s.image h).filterMap (sampleNotice (headAnswers s h) u) := List.filterMap_congr fun c _ => hnotice c
    have hsent : NoticesSent ((channelsOf s.image h).filterMap (sampleNotice s (endExchange u))) s (endExchange u) := by
      rw [heq]
      exact ((htold.before (s := s) rfl rfl).after (u := endExchange u) rfl).noticesSent
    exact hsent
  · rw [hslot, hbeside]; rfl
  · exact ((htold.before (s := s) rfl rfl).after (u := endExchange u) rfl).linesKept

theorem headReplyLimit_poll {s : State} {h : Nat} (ht : TablesOk s) (hx : s.weather.exchange = some (.poll h))
    (hh : headOk h = true) :
    ∃ t, exec .headReplyLimit s = .next t ∧ (t.head h).reachable = false ∧
      (t.head h).lastReply = (s.head h).lastReply ∧ t.weather.channels = s.weather.channels ∧
      ExchangeEnds h s t ∧ t.weather.slot = s.weather.slot ∧ ChangesOnly [.weather] s t := by
  have hexec : exec .headReplyLimit s = .next (endExchange (headSilent s h)) := by
    show execHeadReplyLimit s = _
    rw [execHeadReplyLimit, hx]
  obtain ⟨hends, hreach, hlast⟩ := exchangeEnds_endExchange (s := s) (u := headSilent s h) (h := h)
    (r := { s.head h with reachable := false }) rfl rfl rfl rfl (tables_heads ht) (by simpa [headOk] using hh)
  obtain ⟨hslot, hchannels⟩ := endExchange_beside (headSilent s h)
  exact ⟨_, hexec, hreach, hlast, hchannels, hends, hslot, event_changesOnly [.weather] hexec rfl nofun rfl⟩

theorem staleLimit_row {s : State} {c : Nat} (ht : TablesOk s) (hc : channelOk c = true) :
    ((s.channel c).stale ≠ some 0 → exec (.staleLimit c) s = .next s) ∧
      ((imageChannel s.image c).isSome = true → (s.channel c).stale = some 0 →
        ∃ t, exec (.staleLimit c) s = .next t ∧ t.deliveries = s.deliveries ++ placeholdersOf s t c) := by
  have hlt : c < 24 := by simpa [channelOk] using hc
  refine ⟨fun hno => ?_, fun hfit hdue => ?_⟩
  · cases he : imageChannel s.image c with
    | none =>
      show onObject (channelOk c) _ = _
      rw [hc, he]
      rfl
    | some e => rw [exec_staleLimit hlt he, if_neg hno]
  · obtain ⟨e, he⟩ := Option.isSome_iff_exists.1 hfit
    refine ⟨_, ?_, (channelEvent_given (staleNow (s.channel c)) .staleLimit ht he).deliveries⟩
    rw [exec_staleLimit hlt he, if_pos hdue]

/-- Settles O31. -/
theorem headsArePolledAndAnswer : Obligations.HeadsArePolledAndAnswer := by
  refine fun s ht => ⟨?_, fun h c0 c1 c2 c3 hh => ?_, fun h hx hh => headReplyLimit_poll ht hx hh,
    fun c hc => staleLimit_row ht hc⟩
  · split
    · next h0 => exact samplePeriod_row ht h0
    · next h0 =>
      show Host.Outcome.next (if s.weather.sampleTimer = 0 then _ else s) = _
      rw [if_neg h0]
  · split
    · next hx => exact headPollReply_row c0 c1 c2 c3 ht hh hx
    · next hx => rw [exec_headPollReply c0 c1 c2 c3 hh, if_neg hx]

end Sys2Proof.Machine

/-! PROOF. The deferred reading slot (R119–R122): READING, the answer to its immediate sample, the limit of an
exchange and the discard time. -/

namespace Sys2Proof.Machine

set_option Elab.async false

open Sys2Proof

/-! ## READING (R120) -/

theorem runReading_unfitted {s : State} {p : Nat} {r : Request} (h : imageChannel s.image r.channel = none) :
    runReading s p r = .mk .state [] s := by
  unfold runReading
  rw [h]
  rfl

section
variable {s : State} {p : Nat} {r q : Request} {e : ChannelEntry} (he : imageChannel s.image r.channel = some e)
include he

theorem runReading_empty (hs : s.weather.slot = .empty) :
    runReading s p r = .mk .deferred [byteOf r.channel, r.form.code] (latch s r e) := by
  unfold runReading
  rw [he, hs]
  rfl

theorem runReading_pending (hs : s.weather.slot = .pending q) :
    runReading s p r = .mk (if q = r then .deferred else .busy) [byteOf q.channel, q.form.code] s := by
  unfold runReading
  rw [he, hs]
  dsimp only
  split <;> rfl

theorem runReading_ready {v : ReadResult} {u : Word} {d : Nat} (hs : s.weather.slot = .ready r v u d) :
    runReading s p r = .mk .done (readingData r v u) (s.setWeather { s.weather with slot := .empty }) := by
  unfold runReading
  rw [he, hs]
  dsimp only
  rw [if_pos rfl]

theorem runReading_taken {v : ReadResult} {u : Word} {d : Nat} (hs : s.weather.slot = .ready q v u d) (hq : q ≠ r) :
    runReading s p r = .mk .busy [byteOf q.channel, q.form.code] s := by
  unfold runReading
  rw [he, hs]
  dsimp only
  rw [if_neg hq]
  rfl

end

/-- A request latched: its sample waits, or takes the free link. -/
theorem latch_link (s : State) (r : Request) (e : ChannelEntry) {h inp : Nat} (hp : e.place = some (h, inp)) :
    (s.weather.exchange = none → (latch s r e).weather.exchange = some (.immediate h inp)) ∧
      ∀ x, s.weather.exchange = some x → (latch s r e).weather.exchange = some x ∧
        (latch s r e).weather.waiting = some (h, inp) := by
  refine ⟨fun hfree => ?_, fun x hx => ?_⟩
  · show (grantLink { s.weather with slot := .pending r, waiting := e.place }).exchange = _
    rw [grantLink_waits (w := { s.weather with slot := .pending r, waiting := e.place }) hfree hp]
  · have hg : grantLink { s.weather with slot := .pending r, waiting := e.place } = _ := grantLink_busy (x := x) hx
    show (grantLink { s.weather with slot := .pending r, waiting := e.place }).exchange = _ ∧
      (grantLink { s.weather with slot := .pending r, waiting := e.place }).waiting = _
    rw [hg]
    exact ⟨hx, hp⟩

theorem reading_latched {s : State} {p : Nat} {r : Request} {e : ChannelEntry} (ht : TablesOk s)
    (hacc : Accepted readingCommand s p r) (he : imageChannel s.image r.channel = some e) (hs : s.weather.slot = .empty) :
    ∃ t, exec (.reading p) s = .next t ∧ t.weather.slot = .pending r ∧
      (∀ h inp, e.place = some (h, inp) →
        (s.weather.exchange = none → s.weather.waiting = none →
          t.weather.exchange = some (.immediate h inp)) ∧
        (∀ x, s.weather.exchange = some x → t.weather.exchange = some x ∧
          t.weather.waiting = some (h, inp))) ∧
      Replied p .reading .deferred [byteOf r.channel, r.form.code] s t ∧
      ChangesOnly [.ports, .weather] s t := by
  have hrun : readingCommand.run (popFrame s p) p r = _ := runReading_empty (s := popFrame s p) (p := p) he hs
  have htold : Told [] (popFrame s p) (latch (popFrame s p) r e) := told_of_ports rfl
  obtain ⟨-, hreply, -⟩ := outcome_told hrun htold (accepted_lt ht hacc)
  have heq := outcome_eq hrun
  refine ⟨_, exec_accepted rfl (fun _ _ => ⟨rfl, rfl, rfl⟩) hacc, ?_, fun h inp hp => ?_, hreply, ?_⟩
  · rw [heq]
    exact (grantLink_beside { s.weather with slot := .pending r, waiting := e.place }).1
  · obtain ⟨hfree, hbusy⟩ := latch_link (popFrame s p) r e hp
    rw [heq]
    exact ⟨fun hx _ => hfree hx, hbusy⟩
  · exact outcome_changesOnly ((leaves_run .reading (popFrame s p) p r).changesOnly (by decide)) (by decide)

theorem reading_done {s : State} {p : Nat} {r : Request} {e : ChannelEntry} {v : ReadResult} {u : Word} {d : Nat}
    (ht : TablesOk s) (hacc : Accepted readingCommand s p r) (he : imageChannel s.image r.channel = some e)
    (hs : s.weather.slot = .ready r v u d) :
    ∃ t, exec (.reading p) s = .next t ∧ t.weather.slot = .empty ∧
      t.weather.exchange = s.weather.exchange ∧ t.weather.channels = s.weather.channels ∧
      Replied p .reading .done (readingData r v u) s t ∧ ChangesOnly [.ports, .weather] s t := by
  have hrun : readingCommand.run (popFrame s p) p r = _ := runReading_ready (s := popFrame s p) (p := p) he hs
  have htold : Told [] (popFrame s p)
    ((popFrame s p).setWeather { (popFrame s p).weather with slot := .empty }) := told_of_ports rfl
  obtain ⟨-, hreply, -⟩ := outcome_told hrun htold (accepted_lt ht hacc)
  have heq := outcome_eq hrun
  refine ⟨_, exec_accepted rfl (fun _ _ => ⟨rfl, rfl, rfl⟩) hacc, ?_, ?_, ?_, hreply,
    outcome_changesOnly ((leaves_run .reading (popFrame s p) p r).changesOnly (by decide)) (by decide)⟩
  all_goals
    rw [heq]
    rfl

theorem reading_row {s : State} {p : Nat} {r : Request} (ht : TablesOk s) (hacc : Accepted readingCommand s p r) :
    match imageChannel s.image r.channel, s.weather.slot with
    | none, _ => exec (.reading p) s = .next (answered s p .reading .state [])
    | some e, .empty => ∃ t, exec (.reading p) s = .next t ∧ t.weather.slot = .pending r ∧
        (∀ h inp, e.place = some (h, inp) →
          (s.weather.exchange = none → s.weather.waiting = none →
            t.weather.exchange = some (.immediate h inp)) ∧
          (∀ x, s.weather.exchange = some x → t.weather.exchange = some x ∧
            t.weather.waiting = some (h, inp))) ∧
        Replied p .reading .deferred [byteOf r.channel, r.form.code] s t ∧
        ChangesOnly [.ports, .weather] s t
    | some _, .pending q => exec (.reading p) s = .next (answered s p .reading
        (if q = r then .deferred else .busy) [byteOf q.channel, q.form.code])
    | some _, .ready q v u _ =>
      if q = r then ∃ t, exec (.reading p) s = .next t ∧ t.weather.slot = .empty ∧
        t.weather.exchange = s.weather.exchange ∧ t.weather.channels = s.weather.channels ∧
        Replied p .reading .done (readingData r v u) s t ∧ ChangesOnly [.ports, .weather] s t
      else exec (.reading p) s =
        .next (answered s p .reading .busy [byteOf q.channel, q.form.code]) := by
  have hexec : exec (.reading p) s = .next (outcome readingCommand s p r) :=
    exec_accepted rfl (fun _ _ => ⟨rfl, rfl, rfl⟩) hacc
  cases he : imageChannel s.image r.channel with
  | none =>
    dsimp only
    rw [hexec, outcome_answered (runReading_unfitted (s := popFrame s p) (p := p) he)]
    rfl
  | some e =>
    cases hs : s.weather.slot with
    | empty => exact reading_latched ht hacc he hs
    | pending q =>
      dsimp only
      rw [hexec, outcome_answered (runReading_pending (s := popFrame s p) (p := p) he hs)]
      rfl
    | ready q v u d =>
      dsimp only
      split
      · next hq =>
        subst hq
        exact reading_done ht hacc he hs
      · next hq =>
        rw [hexec, outcome_answered (runReading_taken (s := popFrame s p) (p := p) he hs hq)]
        rfl

/-! ## The immediate sample (R121) -/

theorem readValue_eq (e : ChannelEntry) (f : Form) (code : RawCode) : readValue e f code = match f with
    | .raw => (code.toNat : Int)
    | .calibrated => calibrate e code.toNat := by
  cases f <;> rfl

theorem immediateAnswer_eq {s : State} {r : Request} {e : ChannelEntry} (code : RawCode)
    (hs : s.weather.slot = .pending r) (he : imageChannel s.image r.channel = some e) :
    immediateAnswer s code = sampleAt (slotReady s r (.ok (readValue e r.form code))) r.channel e code := by
  unfold immediateAnswer
  rw [hs]
  dsimp only
  rw [he]

theorem immediateAnswer_row {s : State} {r : Request} {e : ChannelEntry} {h inp : Nat} (code : RawCode) (ht : TablesOk s)
    (hs : s.weather.slot = .pending r) (he : imageChannel s.image r.channel = some e)
    (hx : s.weather.exchange = some (.immediate h inp)) (hh : headOk h = true) :
    ∃ t, exec (.immediateSampleReply code) s = .next t ∧
      t.weather.slot = .ready r (.ok (match r.form with
        | .raw => (code.toNat : Int)
        | .calibrated => calibrate e code.toNat)) s.clock.seconds 60 ∧
      SampleTaken s t r.channel e code ∧ (∀ c, c ≠ r.channel → t.channel c = s.channel c) ∧
      SamplesTold [r.channel] s t ∧ ExchangeEnds h s t ∧
      (t.head h).reachable = true ∧ (t.head h).lastReply = some s.clock.seconds ∧ LinesKept s t ∧
      ChangesOnly [.ports, .weather, .deliveries] s t := by
  have hexec : exec (.immediateSampleReply code) s =
      .next (endExchange (sampleAt (slotReady (headAnswers s h) r (.ok (readValue e r.form code))) r.channel e code)) := by
    show execImmediateSampleReply code s = _
    rw [execImmediateSampleReply, hx, ← immediateAnswer_eq (s := headAnswers s h) code hs he]
  have htables : TablesOk (slotReady (headAnswers s h) r (.ok (readValue e r.form code))) :=
    ((leaves_headAnswers s h).trans (leaves_slotReady ..)).tablesOk ht
  obtain ⟨htaken, hother, hbeside, hdel, htold, -, -⟩ := sampleAt_given code htables he
  generalize sampleAt (slotReady (headAnswers s h) r (.ok (readValue e r.form code))) r.channel e code = u at *
  obtain ⟨hends, hreach, hlast⟩ := exchangeEnds_endExchange (s := s) (u := u) (h := h)
    (r := { s.head h with reachable := true, lastReply := some s.clock.seconds }) (by rw [hbeside]; rfl) rfl
    (by rw [hbeside]; rfl) (by rw [hbeside]; rfl) (tables_heads ht) (by simpa [headOk] using hh)
  obtain ⟨hslot, hchannels⟩ := endExchange_beside u
  have hchannel : ∀ c, (endExchange u).channel c = u.channel c := fun c => by rw [State.channel, hchannels]; rfl
  have htold' : Told (sampleNotice s (endExchange u) r.channel).toList s (endExchange u) := by
    rw [sampleNotice_congr (s' := s) (s := slotReady (headAnswers s h) r (.ok (readValue e r.form code))) (t := u) rfl
      (hchannel r.channel) rfl]
    exact (htold.before (s := s) rfl rfl).after rfl
  refine ⟨_, hexec, ?_, sampleTaken_congr rfl rfl (hchannel r.channel) htaken, fun c hc => (hchannel c).trans (hother c hc),
    ⟨?_, ?_⟩, hends, hreach, hlast, htold'.linesKept,
    event_changesOnly [.notices, .weather, .deliveries] hexec rfl nofun rfl⟩
  · rw [hslot, hbeside, ← readValue_eq]
    rfl
  · rw [List.flatMap_singleton, placeholdersOf_congr (s' := s) (s := slotReady (headAnswers s h) r (.ok (readValue e r.form code)))
      (t := u) rfl rfl (hchannel r.channel) rfl]
    exact hdel
  · have hsent := htold'.noticesSent
    rw [List.filterMap_eq_flatMap_toList, List.flatMap_singleton]
    exact hsent

theorem immediateSilent_row {s : State} {r : Request} {h inp : Nat} (ht : TablesOk s)
    (hs : s.weather.slot = .pending r) (hx : s.weather.exchange = some (.immediate h inp)) (hh : headOk h = true) :
    ∃ t, exec .headReplyLimit s = .next t ∧
      t.weather.slot = .ready r .noReply s.clock.seconds 60 ∧ ExchangeEnds h s t ∧
      (t.head h).reachable = false ∧ (t.head h).lastReply = (s.head h).lastReply ∧
      t.weather.channels = s.weather.channels ∧ ChangesOnly [.weather] s t := by
  have hsilent : immediateSilent (headSilent s h) = slotReady (headSilent s h) r .noReply := by
    have hs' : (headSilent s h).weather.slot = .pending r := hs
    unfold immediateSilent
    rw [hs']
  have hexec : exec .headReplyLimit s = .next (endExchange (slotReady (headSilent s h) r .noReply)) := by
    show execHeadReplyLimit s = _
    rw [execHeadReplyLimit, hx, ← hsilent]
  obtain ⟨hends, hreach, hlast⟩ := exchangeEnds_endExchange (s := s) (u := slotReady (headSilent s h) r .noReply) (h := h)
    (r := { s.head h with reachable := false }) rfl rfl rfl rfl (tables_heads ht) (by simpa [headOk] using hh)
  obtain ⟨hslot, hchannels⟩ := endExchange_beside (slotReady (headSilent s h) r .noReply)
  exact ⟨_, hexec, hslot, hends, hreach, hlast, hchannels, event_changesOnly [.weather] hexec rfl nofun rfl⟩

/-! ## The discard time (R122) -/

theorem discard_row {s : State} {r : Request} {v : ReadResult} {u : Word} {d : Nat} (hs : s.weather.slot = .ready r v u d) :
    ∃ t, exec .discardTimerExpiry s = .next t ∧
      t.weather = { s.weather with slot := if d = 0 then .empty else .ready r v u d } ∧
      ChangesOnly [.weather] s t := by
  cases d with
  | zero =>
    have hexec : exec .discardTimerExpiry s = .next (s.setWeather { s.weather with slot := .empty }) := by
      show execDiscardTimerExpiry s = _
      rw [execDiscardTimerExpiry, hs]
      rfl
    exact ⟨_, hexec, rfl, event_changesOnly [.weather] hexec rfl nofun rfl⟩
  | succ d =>
    have hexec : exec .discardTimerExpiry s = .next s := by
      show execDiscardTimerExpiry s = _
      rw [execDiscardTimerExpiry, hs]
      rfl
    refine ⟨_, hexec, ?_, event_changesOnly [.weather] hexec rfl nofun rfl⟩
    rw [if_neg (Nat.succ_ne_zero d), ← hs]

/-- Settles O32. -/
theorem readingSlotServesOneRequest : Obligations.ReadingSlotServesOneRequest := by
  refine fun s ht => ⟨fun p r hacc => reading_row ht hacc, fun r e h inp code hs he hx hh => ⟨?_, ?_⟩,
    fun r v u d hs => discard_row hs⟩
  · exact immediateAnswer_row code ht hs he hx hh
  · exact immediateSilent_row ht hs hx hh

end Sys2Proof.Machine

/-! PROOF. The evaluation event (R125–R134): the filters' verdicts, the classes that move and what they deliver. -/

namespace Sys2Proof.Machine

set_option Elab.async false

open Sys2Proof

/-! ## One verdict (R130, R131) -/

theorem runFilter_step (thresholds : List Nat) (hysteresis n : Nat) (v : Int) (f : Filter) :
    FilterStep thresholds hysteresis n v f (runFilter thresholds hysteresis n v f) := by
  unfold FilterStep runFilter thresholdOf
  simp only [Bool.and_eq_true, decide_eq_true_eq]
  split
  · rfl
  · split
    · rfl
    · rfl

theorem evaluation_verdicts {s : State} {i : Nat} {ts : Int} (h : roleValue s (imageSegment s.image i).ts = some ts) :
    FilterStep s.image.thresholds s.image.hysteresis s.image.confirmation (scoreOf s (imageSegment s.image i) ts)
        (s.eval i).cond (evaluation s i).cond ∧
      match roleValue s (imageSegment s.image i).w with
      | some w => FilterStep [150, 250] 20 s.image.confirmation w (s.eval i).wind (evaluation s i).wind
      | none => (evaluation s i).wind = (s.eval i).wind := by
  unfold evaluation
  dsimp only
  rw [h]
  refine ⟨runFilter_step .., ?_⟩
  cases roleValue s (imageSegment s.image i).w with
  | none => rfl
  | some w => exact runFilter_step windThresholds windHysteresis _ _ _

theorem evaluation_of_not_evaluated {s : State} {i : Nat} (h : evaluated s.image i = false) : evaluation s i = s.eval i := by
  have hts : (imageSegment s.image i).ts = none := by simpa [evaluated] using h
  have hrole : roleValue s (imageSegment s.image i).ts = none := by rw [hts]; rfl
  unfold evaluation
  dsimp only
  rw [hrole]

/-! ## What one segment tells and delivers (R133, R134) -/

/-- The notices of a segment's changed classes. -/
def classTold (s : State) (i : Nat) (old new : Evaluation) : List (Nat × NoticeBody) :=
  (if new.cond.cls = old.cond.cls then [] else [(i, .segment (s.seg i).state .condClass (s.seg i).revision
    (s.seg i).barrierFault (some new.cond.cls))]) ++
  if new.wind.cls = old.wind.cls then [] else [(i, .segment (s.seg i).state .windClass (s.seg i).revision
    (s.seg i).barrierFault (some new.wind.cls))]

/-- The deliveries of a segment's changed classes. -/
def classGiven (s : State) (i : Nat) (old new : Evaluation) : List Instr :=
  classDeliveries s i .cond s.image.condMap old.cond.cls new.cond.cls ++
    classDeliveries s i .wind s.image.windMap old.wind.cls new.wind.cls

theorem told_classNotice (s : State) (i : Nat) (cause : SegCause) (old new : Nat) :
    Told (if new = old then [] else [(i, .segment (s.seg i).state cause (s.seg i).revision (s.seg i).barrierFault
      (some new))]) s (classNotice s i cause old new) := by
  unfold classNotice
  by_cases h : old = new
  · rw [if_pos h, if_pos h.symm]
    exact told_refl s
  · rw [if_neg h, if_neg fun he => h he.symm]
    exact told_notify s i _

theorem evaluateSegment_told (r : State × List Instr) (i : Nat) :
    Told (classTold r.1 i (r.1.eval i) (evaluation r.1 i)) r.1 (evaluateSegment r i).1 := by
  have hcond := told_classNotice (r.1.setEval i (evaluation r.1 i)) i .condClass (r.1.eval i).cond.cls
    (evaluation r.1 i).cond.cls
  have hleaves := leaves_classNotice (r.1.setEval i (evaluation r.1 i)) i .condClass (r.1.eval i).cond.cls
    (evaluation r.1 i).cond.cls
  have hwind := told_classNotice (classNotice (r.1.setEval i (evaluation r.1 i)) i .condClass (r.1.eval i).cond.cls
    (evaluation r.1 i).cond.cls) i .windClass (r.1.eval i).wind.cls (evaluation r.1 i).wind.cls
  have hclock : (classNotice (r.1.setEval i (evaluation r.1 i)) i .condClass (r.1.eval i).cond.cls
      (evaluation r.1 i).cond.cls).clock = r.1.clock := hleaves.kept .clock (by decide)
  have hseg : (classNotice (r.1.setEval i (evaluation r.1 i)) i .condClass (r.1.eval i).cond.cls
      (evaluation r.1 i).cond.cls).segments = r.1.segments := hleaves.kept .segments (by decide)
  rw [State.seg, hseg] at hwind
  exact (hcond.before (s := r.1) rfl rfl).trans hwind (congrArg Clock.seconds hclock)

/-- What the segments of a list have come to. -/
structure SegmentsEvaluated (s : State) (l : List Nat) (r : State × List Instr) : Prop where
  told : Told (l.flatMap fun i => classTold s i (s.eval i) (evaluation s i)) s r.1
  deliveries : r.2 = l.flatMap fun i => classGiven s i (s.eval i) (evaluation s i)
  undelivered : r.1.deliveries = s.deliveries
  other : ∀ k, k ∉ l → r.1.eval k = s.eval k
  timer : r.1.evaluator.timer = s.evaluator.timer
  loader : r.1.loader = s.loader
  weather : r.1.weather = s.weather
  clock : r.1.clock = s.clock
  segments : r.1.segments = s.segments

theorem SegmentsEvaluated.next {s : State} {l : List Nat} {r : State × List Instr} (h : SegmentsEvaluated s l r) {i : Nat}
    (hi : i ∉ l) : SegmentsEvaluated s (l ++ [i]) (evaluateSegment r i) := by
  obtain ⟨htold, hdel, hquiet, hother, htimer, hloader, hweather, hclock, hsegments⟩ := h
  have himg : r.1.image = s.image := congrArg Loader.image hloader
  have hold : r.1.eval i = s.eval i := hother i hi
  have hnew : evaluation r.1 i = evaluation s i := evaluation_congr hloader hweather hold
  have hone := evaluateSegment_told r i
  have hleaves := leaves_evaluateSegment r i
  have hsame : classTold r.1 i (r.1.eval i) (evaluation r.1 i) = classTold s i (s.eval i) (evaluation s i) := by
    rw [hold, hnew]
    unfold classTold State.seg
    rw [hsegments]
  rw [hsame] at hone
  refine ⟨?_, ?_, (hleaves.kept .deliveries (by decide)).trans hquiet, fun k hk => ?_, ?_,
    (evaluateSegment_loader r i).trans hloader, (evaluateSegment_weather r i).trans hweather,
    (hleaves.kept .clock (by decide)).trans hclock, (hleaves.kept .segments (by decide)).trans hsegments⟩
  · rw [List.flatMap_append, List.flatMap_singleton]
    exact htold.trans hone (congrArg Clock.seconds hclock)
  · have hcollected : (evaluateSegment r i).2 = r.2 ++ classDeliveries (evaluateSegment r i).1 i .cond
        (evaluateSegment r i).1.image.condMap (r.1.eval i).cond.cls (evaluation r.1 i).cond.cls ++
        classDeliveries (evaluateSegment r i).1 i .wind (evaluateSegment r i).1.image.windMap (r.1.eval i).wind.cls
          (evaluation r.1 i).wind.cls := rfl
    have himage : (evaluateSegment r i).1.image = s.image := (congrArg Loader.image (evaluateSegment_loader r i)).trans himg
    rw [hcollected, hdel, hold, hnew, List.flatMap_append, List.flatMap_singleton, List.append_assoc, classGiven,
      himage]
    unfold classDeliveries
    rw [himage]
  · exact (evaluateSegment_eval_ne r i fun he => hk (by simp [he])).trans (hother k fun hm => hk (by simp [hm]))
  · exact (congrArg Evaluator.timer (evaluateSegment_evaluator r i)).trans htimer

theorem segmentsEvaluated_foldl (s : State) (l : List Nat) (hnodup : l.Nodup) :
    SegmentsEvaluated s l (l.foldl evaluateSegment (s, [])) := by
  induction l using List.reverseRecOn with
  | nil => exact ⟨told_refl s, rfl, rfl, fun _ _ => rfl, rfl, rfl, rfl, rfl, rfl⟩
  | append_singleton l i ih =>
    obtain ⟨hnd, -, hnew⟩ := List.nodup_append.1 hnodup
    rw [List.foldl_concat]
    exact (ih hnd).next fun hm => hnew i hm i (List.mem_singleton_self i) rfl

/-! ## The order of the deliveries (R133, R138) -/

theorem classDeliveries_sign (s : State) {n : Nat} (i : Nat) (t : Topic) (m : List MapEntry) (old new : Nat)
    (hn : n < 24) : (classDeliveries s i t m old new).filter (fun c => deliveredSign c == some n) =
      if (imageSign s.image n).segment = i then
        (if new = old then [] else [Instr.internalDelivery n t (classForm m new)]) else [] := by
  unfold classDeliveries
  by_cases h : old = new
  · rw [if_pos h, if_pos h.symm, List.filter_nil, ite_self]
  · rw [if_neg h, if_neg (c := new = old) fun he => h he.symm, List.filter_map, signList, List.filter_filter]
    have hfilter : ((fun c => deliveredSign c == some n) ∘ fun n => Instr.internalDelivery n t (classContent m new)) =
        fun k => k == n := by
      funext k
      exact Bool.eq_iff_iff.2 (by simp [deliveredSign])
    have hcontent : classContent m new = classForm m new := rfl
    rw [hfilter, hcontent, filter_eq_and List.nodup_range n fun k => (imageSign s.image k).segment == i]
    by_cases hs : (imageSign s.image n).segment = i <;> simp [hs, hn]

/-- The deliveries of one event, in ascending sign index. -/
theorem bySign_classGiven {s : State} (ht : TablesOk s) (old new : Nat → Evaluation) :
    bySign ((List.range 12).flatMap fun i => classGiven s i (old i) (new i)) = (List.range 24).flatMap fun n =>
      (if (new (imageSign s.image n).segment).cond.cls = (old (imageSign s.image n).segment).cond.cls then []
        else [Instr.internalDelivery n .cond (classForm s.image.condMap (new (imageSign s.image n).segment).cond.cls)]) ++
      if (new (imageSign s.image n).segment).wind.cls = (old (imageSign s.image n).segment).wind.cls then []
        else [Instr.internalDelivery n .wind (classForm s.image.windMap (new (imageSign s.image n).segment).wind.cls)] := by
  refine List.flatMap_congr fun n hn => ?_
  have hn' := List.mem_range.1 hn
  have hsegment := imageSign_segment ht.1 hn'
  rw [List.filter_flatMap, flatMap_of_single List.nodup_range (List.mem_range.2 hsegment) fun i _ hi => ?_]
  · rw [classGiven, List.filter_append, classDeliveries_sign s _ _ _ _ _ hn', classDeliveries_sign s _ _ _ _ _ hn',
      if_pos rfl, if_pos rfl]
  · rw [classGiven, List.filter_append, classDeliveries_sign s _ _ _ _ _ hn', classDeliveries_sign s _ _ _ _ _ hn',
      if_neg fun he => hi he.symm, if_neg fun he => hi he.symm, List.append_nil]

/-! ## The event -/

theorem tables_evaluations {s : State} (ht : TablesOk s) : s.evaluator.recs.length = 12 := by
  obtain ⟨-, -, -, -, -, -, -, -, -, -, -, hrecs, -⟩ := ht
  exact hrecs

theorem evaluate_row (s : State) :
    (evaluate s).evaluator.timer = s.image.evalPeriod ∧
      (evaluate s).deliveries = s.deliveries ++
        bySign ((List.range 12).flatMap fun i => classGiven s i (s.eval i) (evaluation s i)) ∧
      Told ((List.range 12).flatMap fun i => classTold s i (s.eval i) (evaluation s i)) s (evaluate s) := by
  have h := segmentsEvaluated_foldl { s with evaluator := { s.evaluator with timer := s.image.evalPeriod } }
    (List.range 12) List.nodup_range
  have hsame : ∀ i, evaluation { s with evaluator := { s.evaluator with timer := s.image.evalPeriod } } i = evaluation s i :=
    fun i => evaluation_congr rfl rfl rfl
  obtain ⟨htold, hdel, hquiet, -, htimer, -⟩ := h
  simp only [hsame] at htold hdel
  unfold evaluate
  dsimp only
  generalize (List.range 12).foldl evaluateSegment
    ({ s with evaluator := { s.evaluator with timer := s.image.evalPeriod } }, []) = r at *
  refine ⟨htimer, ?_, ?_⟩
  · exact congrArg₂ (fun a b => a ++ bySign b) hquiet hdel
  · exact (htold.before (s := s) rfl rfl).after rfl

/-- Settles O36. -/
theorem evaluationStepsClasses : Obligations.EvaluationStepsClasses := by
  refine fun s ht => ?_
  split
  · next hdue =>
    have hexec := exec_evaluationEvent_due hdue
    have heval : ∀ i < 12, (evaluate s).eval i = evaluation s i := fun i hi => evaluate_eval (tables_evaluations ht) hi
    obtain ⟨htimer, hdel, htold⟩ := evaluate_row s
    refine ⟨_, hexec, htimer, htold.linesKept, event_changesOnly [.evaluator, .notices, .deliveries] hexec rfl nofun rfl,
      fun i hi => ⟨fun hno => ?_, fun c hc ts hts => ?_⟩, ?_, ?_⟩
    · rw [heval i hi, evaluation_of_not_evaluated hno]
    · have hrole : roleValue s (imageSegment s.image i).ts = some ts := by rw [hc]; exact hts
      obtain ⟨hcond, hwind⟩ := evaluation_verdicts hrole
      rw [heval i hi]
      exact ⟨congrArg Nat.cast (evaluation_score hrole), hcond, hwind⟩
    · rw [hdel, bySign_classGiven ht]
      refine congrArg (s.deliveries ++ ·) (List.flatMap_congr fun n hn => ?_)
      dsimp only
      rw [heval _ (imageSign_segment ht.1 (List.mem_range.1 hn))]
    · have heq : ((List.range 12).flatMap fun i => classTold s i (s.eval i) (evaluation s i)) =
          (List.range 12).flatMap fun i => classTold s i (s.eval i) ((evaluate s).eval i) :=
        List.flatMap_congr fun i hi => by rw [heval i (List.mem_range.1 hi)]
      rw [heq] at htold
      exact htold.noticesSent
  · next hdue =>
    show execEvaluationEvent s = _
    rw [execEvaluationEvent, if_neg hdue]

end Sys2Proof.Machine

/-! PROOF. The commands of the message library (R156–R160): CURSOR, WRITE TEXT and LIBRARY CLEAR. -/

namespace Sys2Proof.Machine

set_option Elab.async false

open Sys2Proof

theorem tables_slots {s : State} (ht : TablesOk s) : s.library.slots.length = 32 := by
  obtain ⟨-, -, -, -, -, -, -, -, -, -, -, -, -, -, hslots, -⟩ := ht
  exact hslots

theorem tables_cursors {s : State} (ht : TablesOk s) : s.library.cursors.length = 4 := by
  obtain ⟨-, -, -, -, -, -, -, -, -, -, -, -, -, -, -, hcursors, -⟩ := ht
  exact hcursors

theorem setSlot_userSlot {s : State} {n : Nat} (u : UserSlot) (ht : TablesOk s) (hn : userSlotOk n = true) :
    (s.setSlot n u).userSlot n = u ∧
      ∀ m < 128, 96 ≤ m → m ≠ n → (s.setSlot n u).userSlot m = s.userSlot m := by
  have hlen := tables_slots ht
  obtain ⟨h96, h128⟩ := userSlotOk_iff.1 hn
  exact ⟨State.setSlot_userSlot_self s n u (by omega), fun m _ hm hmn => State.setSlot_userSlot_ne s n m u h96 hm hmn⟩

/-! ## CURSOR (R158) -/

/-- The state that CURSOR leaves. -/
def cursorPlaced (s : State) (p : Nat) (a : CursorArgs) : State :=
  (match a.picto with
    | some n => s.setSlot a.slot { s.userSlot a.slot with picto := n }
    | none => s).setCursor p { slot := some a.slot, line := a.line, column := a.column, locked := false }

theorem runCursor_refused {s : State} {p : Nat} {a : CursorArgs} (h : (s.userSlot a.slot).refs ≠ 0) :
    runCursor s p a = .mk .inUse [] s := by
  unfold runCursor
  rw [if_pos (by simpa using h)]
  rfl

theorem runCursor_done {s : State} {p : Nat} {a : CursorArgs} (h : ¬(s.userSlot a.slot).refs ≠ 0) :
    runCursor s p a = .mk .done [byteOf a.slot, byteOf a.line, byteOf a.column, 0#8] (cursorPlaced s p a) := by
  unfold runCursor
  rw [if_neg (by simpa using h)]
  rfl

theorem cursorPlaced_row {s : State} {p : Nat} {a : CursorArgs} (ht : TablesOk s) (hp : p < 4)
    (hn : userSlotOk a.slot = true) :
    (∀ q, (cursorPlaced s p a).cursor q = if q = p then
        { slot := some a.slot, line := a.line, column := a.column, locked := false } else s.cursor q) ∧
      (cursorPlaced s p a).userSlot a.slot =
        { s.userSlot a.slot with picto := a.picto.getD (s.userSlot a.slot).picto } ∧
      (∀ m < 128, 96 ≤ m → m ≠ a.slot → (cursorPlaced s p a).userSlot m = s.userSlot m) ∧
      Told [] s (cursorPlaced s p a) := by
  have hlen := tables_cursors ht
  unfold cursorPlaced
  cases a.picto with
  | none =>
    exact ⟨fun q => setCursor_cursor (s := s) (by omega) _ q, rfl, fun _ _ _ _ => rfl, told_of_ports rfl⟩
  | some n =>
    obtain ⟨hself, hother⟩ := setSlot_userSlot { s.userSlot a.slot with picto := n } ht hn
    exact ⟨fun q => setCursor_cursor (s := s.setSlot a.slot _) (by show p < s.library.cursors.length; omega) _ q, hself,
      hother, told_of_ports rfl⟩

theorem cursor_row {s : State} {p : Nat} {a : CursorArgs} (ht : TablesOk s) (hacc : Accepted cursorCommand s p a)
    (h : ¬(s.userSlot a.slot).refs ≠ 0) :
    ∃ t, exec (.cursor p) s = .next t ∧
      t.cursor p = { slot := some a.slot, line := a.line, column := a.column, locked := false } ∧
      (∀ q, q ≠ p → t.cursor q = s.cursor q) ∧
      t.userSlot a.slot = { s.userSlot a.slot with picto := a.picto.getD (s.userSlot a.slot).picto } ∧
      (∀ m < 128, 96 ≤ m → m ≠ a.slot → t.userSlot m = s.userSlot m) ∧
      Replied p .cursor .done [byteOf a.slot, byteOf a.line, byteOf a.column, 0#8] s t ∧
      NoNotice s t ∧ LinesKept s t ∧ ChangesOnly [.ports, .library] s t := by
  obtain ⟨body, -, hparse⟩ := accepted_parsed hacc
  have hslot : userSlotOk a.slot = true := (argsCursor_some hparse).1
  have hrun : cursorCommand.run (popFrame s p) p a = _ := runCursor_done (s := popFrame s p) (p := p) h
  obtain ⟨hcursor, hself, hother, htold⟩ := cursorPlaced_row (s := popFrame s p) ((leaves_popFrame s p).tablesOk ht)
    (accepted_port_lt hacc) hslot
  obtain ⟨hnotices, hreply, hlines⟩ := outcome_told hrun htold (accepted_lt ht hacc)
  have heq := outcome_eq hrun
  refine ⟨_, exec_accepted rfl (fun _ _ => ⟨rfl, rfl, rfl⟩) hacc, ?_, fun q hq => ?_, ?_, ?_, hreply,
    noNotice_of_noticesSent hnotices, hlines,
    outcome_changesOnly ((leaves_run .cursor (popFrame s p) p a).changesOnly (by decide)) (by decide)⟩
  · rw [heq]; exact (hcursor p).trans (if_pos rfl)
  · rw [heq]; exact (hcursor q).trans (if_neg hq)
  · rw [heq]; exact hself
  · rw [heq]; exact hother

/-! ## WRITE TEXT (R157, R159) -/

/-- A cursor at a place of the text: past the last one it is locked there. -/
def cursorAt (slot : Option Nat) (n : Nat) : Cursor :=
  if n < 60 then { slot, line := n / 20, column := n % 20, locked := false }
  else { slot, line := 2, column := 19, locked := true }

theorem eq_cursorAt {c : Cursor} (h : c.ok) (hl : ¬c.locked = true) : c = cursorAt c.slot (20 * c.line + c.column) := by
  obtain ⟨-, hline, hcol, -⟩ := h
  obtain ⟨slot, line, column, locked⟩ := c
  dsimp only at hline hcol hl ⊢
  rw [cursorAt, if_pos (by omega), Bool.not_eq_true] at *
  rw [hl, show (20 * line + column) / 20 = line by omega, show (20 * line + column) % 20 = column by omega]

theorem cursorAt_place {n : Nat} (slot : Option Nat) (h : n < 60) :
    (cursorAt slot n).locked = false ∧ 20 * (cursorAt slot n).line + (cursorAt slot n).column = n := by
  rw [cursorAt, if_pos h]
  exact ⟨rfl, Nat.div_add_mod n 20⟩

theorem advance_cursorAt {n : Nat} (slot : Option Nat) (h : n < 60) :
    advance (cursorAt slot n) = cursorAt slot (n + 1) := by
  rw [cursorAt, if_pos h, advance, cursorAt]
  dsimp only
  by_cases hcol : n % 20 < 19
  · rw [if_pos hcol, if_pos (by omega), show (n + 1) / 20 = n / 20 by omega, show (n + 1) % 20 = n % 20 + 1 by omega]
  · rw [if_neg hcol]
    by_cases hline : n / 20 < 2
    · rw [if_pos hline, if_pos (by omega), show (n + 1) / 20 = n / 20 + 1 by omega, show (n + 1) % 20 = 0 by omega]
    · rw [if_neg hline, if_neg (by omega), show n / 20 = 2 by omega, show n % 20 = 19 by omega]

/-- What storing characters from a place on leaves. -/
structure TextStored (bs text : List Byte) (slot : Option Nat) (n k : Nat) (r : List Byte × Cursor × Nat) : Prop where
  text : ∀ j < 60, r.1.getD j 0 = if n ≤ j ∧ j < n + min bs.length (60 - n) then storedChar (bs.getD (j - n) 0)
    else text.getD j 0
  length : r.1.length = 60
  cursor : r.2.1 = cursorAt slot (n + min bs.length (60 - n))
  count : r.2.2 = k + min bs.length (60 - n)

theorem storeText_stored (bs : List Byte) : ∀ {text : List Byte} (slot : Option Nat) {n : Nat} (k : Nat), n ≤ 60 →
    text.length = 60 → TextStored bs text slot n k (storeText bs (text, cursorAt slot n, k)) := by
  induction bs with
  | nil =>
    intro text slot n k _ hlen
    refine ⟨fun j _ => (if_neg (by rw [List.length_nil]; omega)).symm, hlen, ?_, ?_⟩
    · simp [storeText]
    · simp [storeText]
  | cons b bs ih =>
    intro text slot n k hn hlen
    rcases Nat.lt_or_ge n 60 with hlt | hge
    · obtain ⟨hfree, hplace⟩ := cursorAt_place slot hlt
      have hstep : storeText (b :: bs) (text, cursorAt slot n, k) =
          storeText bs (text.set n (storedChar b), cursorAt slot (n + 1), k + 1) := by
        rw [storeText, if_neg (by rw [hfree]; exact Bool.false_ne_true), hplace, advance_cursorAt slot hlt]
      obtain ⟨htext, hlength, hcursor, hcount⟩ := ih (text := text.set n (storedChar b)) slot (n := n + 1) (k + 1) hlt
        (by rw [List.length_set, hlen])
      have hmin : min (b :: bs).length (60 - n) = min bs.length (60 - (n + 1)) + 1 := by
        rw [List.length_cons]; omega
      rw [hstep]
      refine ⟨fun j hj => ?_, hlength, ?_, ?_⟩
      · rw [htext j hj, hmin]
        rcases Nat.lt_trichotomy j n with hlt' | heq | hgt
        · rw [if_neg (by omega), if_neg (by omega), getD_set_ne _ _ _ _ _ (by omega)]
        · subst heq
          rw [if_neg (by omega), if_pos (by omega), getD_set_self _ _ _ _ (by omega), Nat.sub_self]
          rfl
        · have hsub : j - n = (j - (n + 1)) + 1 := by omega
          rw [hsub, List.getD_cons_succ, getD_set_ne _ _ _ _ _ (by omega)]
          exact if_congr (by omega) rfl rfl
      · rw [hcursor, hmin]
        exact congrArg (cursorAt slot) (by omega)
      · rw [hcount, hmin]
        omega
    · obtain rfl : n = 60 := by omega
      have hlocked : storeText (b :: bs) (text, cursorAt slot 60, k) = (text, cursorAt slot 60, k) := rfl
      rw [hlocked]
      refine ⟨fun j hj => (if_neg (by omega)).symm, hlen, ?_, ?_⟩
      · rw [Nat.sub_self, Nat.min_zero]
      · rw [Nat.sub_self, Nat.min_zero]
        rfl

/-- What WRITE TEXT does at a slot and a cursor. -/
theorem storeText_row {c : Cursor} {u : UserSlot} {m : Nat} (chars : List Byte) (hc : c.ok) (hu : u.text.length = 60)
    (hm : c.slot = some m) :
    let stored := if c.locked then 0 else min chars.length (60 - (20 * c.line + c.column))
    let r := storeText chars (u.text, c, 0)
    r.1.length = 60 ∧ r.2.2 = stored ∧
      (∀ j < 60, r.1.getD j 0 = if 20 * c.line + c.column ≤ j ∧ j < 20 * c.line + c.column + stored then
        storedChar (chars.getD (j - (20 * c.line + c.column)) 0) else u.text.getD j 0) ∧
      r.2.1 = (if c.locked then c
        else if 20 * c.line + c.column + stored < 60 then
          { slot := some m, line := (20 * c.line + c.column + stored) / 20,
            column := (20 * c.line + c.column + stored) % 20, locked := false }
        else { slot := some m, line := 2, column := 19, locked := true }) := by
  intro stored r
  by_cases hl : c.locked = true
  · have hr : r = (u.text, c, 0) := by
      show storeText chars (u.text, c, 0) = _
      cases chars with
      | nil => rfl
      | cons b bs => rw [storeText, if_pos hl]
    have hs : stored = 0 := if_pos hl
    rw [hr, hs, if_pos hl]
    exact ⟨hu, rfl, fun j _ => (if_neg (by omega)).symm, rfl⟩
  · have hs : stored = min chars.length (60 - (20 * c.line + c.column)) := if_neg hl
    have hplace : 20 * c.line + c.column ≤ 60 := by
      obtain ⟨-, hline, hcol, -⟩ := hc
      omega
    obtain ⟨htext, hlength, hcursor, hcount⟩ := storeText_stored chars (text := u.text) c.slot
      (n := 20 * c.line + c.column) 0 hplace hu
    rw [← eq_cursorAt hc hl, ← hs] at htext hcursor hcount
    rw [← eq_cursorAt hc hl] at hlength
    refine ⟨hlength, hcount.trans (Nat.zero_add _), htext, ?_⟩
    rw [if_neg hl, ← hm]
    exact hcursor

theorem runWriteText_unplaced {s : State} {p : Nat} {chars : List Byte} (h : (s.cursor p).slot = none) :
    runWriteText s p chars = .mk .state [] s := by
  unfold runWriteText
  rw [h]
  rfl

theorem runWriteText_refused {s : State} {p m : Nat} {chars : List Byte} (h : (s.cursor p).slot = some m)
    (hu : (s.userSlot m).refs ≠ 0) : runWriteText s p chars = .mk .inUse [] s := by
  unfold runWriteText
  rw [h]
  dsimp only
  rw [if_pos (by simpa using hu)]
  rfl

/-- The state that WRITE TEXT leaves. -/
def textWritten (s : State) (p m : Nat) (r : List Byte × Cursor × Nat) : State :=
  (s.setSlot m { s.userSlot m with text := r.1, defined := (s.userSlot m).defined || r.2.2 != 0 }).setCursor p r.2.1

theorem runWriteText_done {s : State} {p m : Nat} {chars : List Byte} (h : (s.cursor p).slot = some m)
    (hu : ¬(s.userSlot m).refs ≠ 0) : runWriteText s p chars =
      .mk .done (byteOf (storeText chars ((s.userSlot m).text, s.cursor p, 0)).2.2 ::
        cursorData (storeText chars ((s.userSlot m).text, s.cursor p, 0)).2.1)
        (textWritten s p m (storeText chars ((s.userSlot m).text, s.cursor p, 0))) := by
  unfold runWriteText
  rw [h]
  dsimp only
  rw [if_neg (by simpa using hu)]
  rfl

theorem writeText_row {s : State} {p m : Nat} {chars : List Byte} (ht : TablesOk s) (hs : LibraryOk s)
    (hacc : Accepted writeTextCommand s p chars) (hm : (s.cursor p).slot = some m) (h : ¬(s.userSlot m).refs ≠ 0) :
    let c := s.cursor p
    let u := s.userSlot m
    let from? := 20 * c.line + c.column
    let stored := if c.locked then 0 else min chars.length (60 - from?)
    let next? := from? + stored
    ∃ t, exec (.writeText p) s = .next t ∧
      (∀ j < 60, (t.userSlot m).text.getD j 0 =
        if from? ≤ j ∧ j < next? then storedChar (chars.getD (j - from?) 0)
        else u.text.getD j 0) ∧
      (t.userSlot m).text.length = 60 ∧ (t.userSlot m).picto = u.picto ∧
      (t.userSlot m).refs = u.refs ∧
      ((t.userSlot m).defined = true ↔ u.defined = true ∨ stored ≠ 0) ∧
      t.cursor p = (if c.locked then c
        else if next? < 60 then
          { slot := some m, line := next? / 20, column := next? % 20, locked := false }
        else { slot := some m, line := 2, column := 19, locked := true }) ∧
      (∀ q, q ≠ p → t.cursor q = s.cursor q) ∧
      (∀ k < 128, 96 ≤ k → k ≠ m → t.userSlot k = s.userSlot k) ∧
      Replied p .writeText .done [byteOf stored, byteOf m, byteOf (t.cursor p).line,
        byteOf (t.cursor p).column, codeBool (t.cursor p).locked] s t ∧
      NoNotice s t ∧ LinesKept s t ∧ ChangesOnly [.ports, .library] s t := by
  intro c u from? stored next?
  have hp := accepted_port_lt hacc
  have hcok : c.ok := hs.2 p hp
  have hmok : userSlotOk m = true := hcok.1 m (by simp [c, hm])
  obtain ⟨h96, h128⟩ := userSlotOk_iff.1 hmok
  have hlen : u.text.length = 60 := (hs.1 m h128 h96).1
  obtain ⟨hlength, hcount, htext, hcursor⟩ := storeText_row chars hcok hlen hm
  have hrun : writeTextCommand.run (popFrame s p) p chars = _ := runWriteText_done (s := popFrame s p) (p := p) hm h
  have hr : storeText chars (((popFrame s p).userSlot m).text, (popFrame s p).cursor p, 0) =
    storeText chars (u.text, c, 0) := rfl
  rw [hr] at hrun
  generalize storeText chars (u.text, c, 0) = r at *
  have htables := (leaves_popFrame s p).tablesOk ht
  obtain ⟨hself, hother⟩ := setSlot_userSlot (s := popFrame s p)
    { u with text := r.1, defined := u.defined || r.2.2 != 0 } htables hmok
  have hcursors : ∀ q, (textWritten (popFrame s p) p m r).cursor q = if q = p then r.2.1 else s.cursor q := fun q =>
    setCursor_cursor (s := (popFrame s p).setSlot m { u with text := r.1, defined := u.defined || r.2.2 != 0 })
      (by show p < (popFrame s p).library.cursors.length; rw [tables_cursors htables]; exact hp) r.2.1 q
  have htold : Told [] (popFrame s p) (textWritten (popFrame s p) p m r) := told_of_ports rfl
  obtain ⟨hnotices, hreply, hlines⟩ := outcome_told hrun htold (accepted_lt ht hacc)
  have heq := outcome_eq hrun
  have hslot : (outcome writeTextCommand s p chars).userSlot m =
      { u with text := r.1, defined := u.defined || r.2.2 != 0 } := by rw [heq]; exact hself
  have hplaced : (outcome writeTextCommand s p chars).cursor p = r.2.1 := by
    rw [heq]; exact (hcursors p).trans (if_pos rfl)
  have hkeeps : r.2.1.slot = some m := by
    rw [hcursor]
    split
    · exact hm
    · split <;> rfl
  refine ⟨_, exec_accepted rfl (fun _ _ => ⟨rfl, rfl, rfl⟩) hacc, ?_, ?_, ?_, ?_, ?_, ?_, fun q hq => ?_, ?_, ?_,
    noNotice_of_noticesSent hnotices, hlines,
    outcome_changesOnly ((leaves_run .writeText (popFrame s p) p chars).changesOnly (by decide)) (by decide)⟩
  · rw [hslot]; exact htext
  · rw [hslot]; exact hlength
  · rw [hslot]
  · rw [hslot]
  · rw [hslot]
    have hcount' : r.2.2 = stored := hcount
    simp [hcount']
  · rw [hplaced]; exact hcursor
  · rw [heq]; exact (hcursors q).trans (if_neg hq)
  · rw [heq]; exact hother
  · rw [hplaced]
    rw [cursorData, hkeeps, hcount] at hreply
    exact hreply

/-! ## LIBRARY CLEAR (R160) -/

theorem runLibraryClear_refused {s : State} {p m : Nat} (h : (s.userSlot m).refs ≠ 0) :
    runLibraryClear s p m = .mk .inUse [] s := by
  unfold runLibraryClear
  rw [if_pos (by simpa using h)]
  rfl

theorem runLibraryClear_done {s : State} {p m : Nat} (h : ¬(s.userSlot m).refs ≠ 0) : runLibraryClear s p m =
    .mk .done [] (s.setSlot m { text := List.replicate 60 0x20#8, picto := 0, defined := false, refs := 0 }) := by
  have hrefs : (s.userSlot m).refs = 0 := not_not.1 h
  unfold runLibraryClear
  rw [if_neg (by simpa using h), hrefs]
  rfl

theorem libraryClear_row {s : State} {p m : Nat} (ht : TablesOk s) (hacc : Accepted libraryClearCommand s p m)
    (h : ¬(s.userSlot m).refs ≠ 0) :
    ∃ t, exec (.libraryClear p) s = .next t ∧
      t.userSlot m = { text := List.replicate 60 0x20#8, picto := 0, defined := false, refs := 0 } ∧
      t.library.cursors = s.library.cursors ∧
      (∀ k < 128, 96 ≤ k → k ≠ m → t.userSlot k = s.userSlot k) ∧
      Replied p .libraryClear .done [] s t ∧ NoNotice s t ∧ LinesKept s t ∧
      ChangesOnly [.ports, .library] s t := by
  obtain ⟨body, -, hparse⟩ := accepted_parsed hacc
  have hm : userSlotOk m = true := argsIndex_ok hparse
  have hrun : libraryClearCommand.run (popFrame s p) p m = _ := runLibraryClear_done (s := popFrame s p) (p := p) h
  obtain ⟨hself, hother⟩ := setSlot_userSlot (s := popFrame s p)
    { text := List.replicate 60 0x20#8, picto := 0, defined := false, refs := 0 } ((leaves_popFrame s p).tablesOk ht) hm
  obtain ⟨hnotices, hreply, hlines⟩ := outcome_told hrun (told_of_ports rfl) (accepted_lt ht hacc)
  have heq := outcome_eq hrun
  refine ⟨_, exec_accepted rfl (fun _ _ => ⟨rfl, rfl, rfl⟩) hacc, ?_, ?_, ?_, hreply,
    noNotice_of_noticesSent hnotices, hlines,
    outcome_changesOnly ((leaves_run .libraryClear (popFrame s p) p m).changesOnly (by decide)) (by decide)⟩
  · rw [heq]; exact hself
  · rw [heq]; rfl
  · rw [heq]; exact hother

/-- Settles O45. -/
theorem cursorTextAndClear : Obligations.CursorTextAndClear := by
  refine fun s p ht hs => ⟨fun a hacc => ?_, fun chars hacc => ?_, fun m hacc => ?_⟩
  · split
    · next h =>
      rw [exec_accepted rfl (fun _ _ => ⟨rfl, rfl, rfl⟩) hacc,
        outcome_answered (runCursor_refused (s := popFrame s p) (p := p) h)]
      rfl
    · next h => exact cursor_row ht hacc h
  · have hexec : exec (.writeText p) s = .next (outcome writeTextCommand s p chars) :=
      exec_accepted rfl (fun _ _ => ⟨rfl, rfl, rfl⟩) hacc
    cases hm : (s.cursor p).slot with
    | none =>
      dsimp only
      rw [hexec, outcome_answered (runWriteText_unplaced (s := popFrame s p) (p := p) hm)]
      rfl
    | some m =>
      dsimp only
      split
      · next h =>
        rw [hexec, outcome_answered (runWriteText_refused (s := popFrame s p) (p := p) hm h)]
        rfl
      · next h => exact writeText_row ht hs hacc hm h
  · split
    · next h =>
      rw [exec_accepted rfl (fun _ _ => ⟨rfl, rfl, rfl⟩) hacc,
        outcome_answered (runLibraryClear_refused (s := popFrame s p) (p := p) h)]
      rfl
    · next h => exact libraryClear_row ht hacc h

end Sys2Proof.Machine

/-! PROOF. The output of one sign (R139, R147–R153): what a composition, the following of a winner and its notice
leave, and what they leave unchanged. -/

namespace Sys2Proof.Machine

set_option Elab.async false

open Sys2Proof

/-! ## What a change at a sign leaves beside it -/

/-- The field bus is as it was, but for what its exchange carries. -/
structure BusRecarried (s t : State) : Prop where
  field : t.field = { s.field with exchange := t.field.exchange }
  exchange : ∀ e, t.field.exchange = some e → ∃ f, s.field.exchange = some f ∧
    e = { f with carries := e.carries } ∧ (e.carries = f.carries ∨ e.carries = .nothing)

theorem busRecarried_of_eq {s t : State} (h : t.field = s.field) : BusRecarried s t := by
  refine ⟨by rw [h], fun e he => ⟨e, by rw [← h]; exact he, rfl, .inl rfl⟩⟩

theorem BusRecarried.trans {s t u : State} (h : BusRecarried s t) (k : BusRecarried t u) : BusRecarried s u := by
  refine ⟨by rw [k.field, h.field], fun e he => ?_⟩
  obtain ⟨f, hf, hef, hc⟩ := k.exchange e he
  obtain ⟨g, hg, hfg, hc'⟩ := h.exchange f hf
  refine ⟨g, hg, hef.trans (by rw [hfg]), ?_⟩
  rcases hc with hc | hc
  · rw [hc]; exact hc'
  · exact .inr hc

theorem busRecarried_recarry (s : State) (p : Carriage → Bool) : BusRecarried s (s.recarry p) := by
  rcases recarry_field s p with h | ⟨e, he, -, h⟩
  · exact busRecarried_of_eq h
  · refine ⟨by rw [h], fun e' he' => ⟨e, he, ?_⟩⟩
    rw [h] at he'
    obtain rfl := Option.some.inj he'
    exact ⟨rfl, .inr rfl⟩

/-- Of the library only the reference counts change. -/
structure LibraryCounted (s t : State) : Prop where
  cursors : t.library.cursors = s.library.cursors
  slots : ∀ m, 96 ≤ m → t.userSlot m = { s.userSlot m with refs := (t.userSlot m).refs }

theorem libraryCounted_of_eq {s t : State} (h : t.library = s.library) : LibraryCounted s t :=
  ⟨by rw [h], fun m _ => by rw [State.userSlot, h]; rfl⟩

theorem LibraryCounted.trans {s t u : State} (h : LibraryCounted s t) (k : LibraryCounted t u) : LibraryCounted s u :=
  ⟨k.cursors.trans h.cursors, fun m hm => by rw [k.slots m hm, h.slots m hm]⟩

theorem libraryCounted_setRefs (s : State) {slot : Nat} (h96 : ¬slot < 96) (r : Nat) :
    LibraryCounted s (s.setSlot slot { s.userSlot slot with refs := r }) := by
  refine ⟨rfl, fun m hm => ?_⟩
  by_cases hms : m = slot
  · subst hms
    rcases Nat.lt_or_ge (m - 96) s.library.slots.length with hlt | hge
    · rw [State.setSlot_userSlot_self s m _ hlt]
    · have hsame : (s.setSlot m { s.userSlot m with refs := r }).userSlot m = s.userSlot m :=
        congrArg (fun l : List UserSlot => l.getD (m - 96) default) (List.set_eq_of_length_le hge)
      rw [hsame]
  · rw [State.setSlot_userSlot_ne s slot m _ (by omega) hm hms]

theorem libraryCounted_joinSlot (s : State) (slot : Nat) : LibraryCounted s (joinSlot s slot) := by
  unfold joinSlot
  split
  · exact libraryCounted_of_eq rfl
  · next h => exact libraryCounted_setRefs s h _

theorem libraryCounted_leaveSlot (s : State) (slot : Nat) : LibraryCounted s (leaveSlot s slot) := by
  unfold leaveSlot
  split
  · exact libraryCounted_of_eq rfl
  · next h => exact libraryCounted_setRefs s h _

theorem libraryCounted_foldl_leaveSlot (ds : List Demand) (s : State) :
    LibraryCounted s (ds.foldl (fun t x => leaveSlot t x.slot) s) := by
  induction ds generalizing s with
  | nil => exact libraryCounted_of_eq rfl
  | cons d ds ih => exact (libraryCounted_leaveSlot s d.slot).trans (ih _)

/-- What a change at the stacks or the outputs leaves. -/
structure StacksBeside (s t : State) : Prop where
  library : LibraryCounted s t
  elapsed : t.arbiter.elapsed = s.arbiter.elapsed
  field : BusRecarried s t
  blocks : ChangesOnly [.ports, .arbiter, .library, .field] s t

theorem StacksBeside.trans {s t u : State} (h : StacksBeside s t) (k : StacksBeside t u) : StacksBeside s u :=
  ⟨h.library.trans k.library, k.elapsed.trans h.elapsed, h.field.trans k.field, h.blocks.trans k.blocks⟩

theorem stacksBeside_refl (s : State) : StacksBeside s s :=
  ⟨libraryCounted_of_eq rfl, rfl, busRecarried_of_eq rfl, changesOnly_refl _ s⟩

theorem StacksBeside.besideStacks {s t : State} (h : StacksBeside s t) : BesideStacks s t :=
  ⟨h.library.cursors, fun m _ hm => h.library.slots m hm, h.elapsed, h.field.field, h.field.exchange, h.blocks⟩

theorem StacksBeside.clock {s t : State} (h : StacksBeside s t) : t.clock = s.clock := h.blocks .clock (by decide)

theorem StacksBeside.image {s t : State} (h : StacksBeside s t) : t.image = s.image :=
  congrArg Loader.image (h.blocks .loader (by decide))

theorem messageAt_counted {s t : State} (himg : t.image = s.image) (h : LibraryCounted s t) (k : Nat) :
    messageAt t k = messageAt s k := by
  unfold messageAt
  split
  · rw [himg]
  · next hk => rw [h.slots k (by omega)]

theorem StacksBeside.composeFace {s t : State} (h : StacksBeside s t) {n : Nat} (hstack : t.stack n = s.stack n) :
    composeFace t n = composeFace s n :=
  composeFace_congr h.image (h.blocks .segments (by decide))
    (congrArg ZoneUnit.zones (h.blocks .zones (by decide)))
    (congrArg Weather.channels (h.blocks .weather (by decide))) (messageAt_counted h.image h.library) hstack

/-! ## A change of one output -/

/-- Nothing of the signs but one output changes. -/
structure SignMoved (s t : State) (n : Nat) : Prop where
  other : ∀ m, m ≠ n → t.out m = s.out m
  demands : t.arbiter.demands = s.arbiter.demands
  arrival : t.arbiter.arrival = s.arbiter.arrival
  beside : StacksBeside s t

theorem SignMoved.trans {s t u : State} {n : Nat} (h : SignMoved s t n) (k : SignMoved t u n) : SignMoved s u n :=
  ⟨fun m hm => (k.other m hm).trans (h.other m hm), k.demands.trans h.demands, k.arrival.trans h.arrival,
    h.beside.trans k.beside⟩

theorem signMoved_refl (s : State) (n : Nat) : SignMoved s s n := ⟨fun _ _ => rfl, rfl, rfl, stacksBeside_refl s⟩

theorem SignMoved.stack {s t : State} {n : Nat} (h : SignMoved s t n) (m : Nat) : t.stack m = s.stack m := by
  rw [State.stack, h.demands]; rfl

theorem signMoved_setOut (s : State) (n : Nat) (o : SignOut) : SignMoved s (s.setOut n o) n :=
  ⟨fun m hm => State.setOut_out_ne s n m o hm, rfl, rfl, libraryCounted_of_eq rfl, rfl, busRecarried_of_eq rfl,
    (leaves_setOut s n o).changesOnly (by decide)⟩

theorem signMoved_recarry (s : State) (n : Nat) (p : Carriage → Bool) : SignMoved s (s.recarry p) n :=
  ⟨fun m _ => by rw [State.out, State.recarry_arbiter]; rfl, by rw [State.recarry_arbiter], by rw [State.recarry_arbiter],
    libraryCounted_of_eq (State.recarry_library s p), by rw [State.recarry_arbiter], busRecarried_recarry s p,
    (leaves_recarry s p).changesOnly (by decide)⟩

theorem signMoved_signNotice (s : State) (n : Nat) (cause : SignCause) : SignMoved s (signNotice s n cause) n :=
  ⟨fun _ _ => rfl, rfl, rfl, libraryCounted_of_eq rfl, rfl, busRecarried_of_eq rfl,
    (leaves_signNotice s n cause).changesOnly (by decide)⟩

theorem tables_outputs {s : State} (ht : TablesOk s) : s.arbiter.outputs.length = 24 := by
  obtain ⟨-, -, -, -, -, -, -, -, -, -, -, -, -, hout, -⟩ := ht
  exact hout

theorem tables_demands {s : State} (ht : TablesOk s) : s.arbiter.demands.length = 24 := by
  obtain ⟨-, -, -, -, -, -, -, -, -, -, -, -, hdem, -⟩ := ht
  exact hdem

theorem setOut_out {s : State} {n : Nat} (o : SignOut) (ht : TablesOk s) (hn : n < 24) : (s.setOut n o).out n = o :=
  State.setOut_out_self s n o (by rw [tables_outputs ht]; exact hn)

theorem recarry_out (s : State) (p : Carriage → Bool) (n : Nat) : (s.recarry p).out n = s.out n := by
  rw [State.out, State.recarry_arbiter]; rfl

/-! ## Compositions (R147, R149) -/

theorem recomposed_eq (s : State) (n : Nat) : Recomposed s n = if composeFace s n = (s.out n).face then
    { s.out n with timer := some renderInterval, owed := false }
    else { newFace (s.out n) (composeFace s n) with timer := some renderInterval, owed := false } := rfl

theorem composeAt_moved (s : State) (n : Nat) : SignMoved s (composeAt s n) n := by
  unfold composeAt
  dsimp only
  split
  · exact signMoved_setOut ..
  · exact (signMoved_setOut ..).trans (signMoved_recarry ..)

theorem composeAt_out {s : State} {n : Nat} (ht : TablesOk s) (hn : n < 24) : (composeAt s n).out n = Recomposed s n := by
  rw [recomposed_eq]
  unfold composeAt
  dsimp only
  split
  · exact setOut_out _ ht hn
  · rw [recarry_out]
    exact setOut_out _ ht hn

theorem composeAt_ports (s : State) (n : Nat) : (composeAt s n).ports = s.ports := by
  unfold composeAt
  dsimp only
  split
  · rfl
  · rw [State.recarry_ports]
    rfl

/-- A SHOWN sign whose face changed is reported. -/
theorem rerender_row {s : State} {n : Nat} (ht : TablesOk s) (hn : n < 24) :
    (rerender s n).out n = Recomposed s n ∧ SignMoved s (rerender s n) n ∧
      Told (if (s.out n).output = .shown ∧ ((rerender s n).out n).output = .pending then
        [(n, .sign .pending .recomposed (winnerKey (s.stack n)))] else []) s (rerender s n) := by
  have hmoved := composeAt_moved s n
  have hout := composeAt_out ht hn
  unfold rerender
  dsimp only
  by_cases h : (s.out n).output = .shown ∧ ((composeAt s n).out n).output = .pending
  · rw [if_pos (by simpa using h)]
    have hkept : (signNotice (composeAt s n) n .recomposed).out n = (composeAt s n).out n := rfl
    refine ⟨hkept.trans hout, hmoved.trans (signMoved_signNotice ..), ?_⟩
    rw [hkept, if_pos h]
    have htold := told_notify (composeAt s n) n (.sign ((composeAt s n).out n).output .recomposed
      (winnerKey ((composeAt s n).stack n)))
    rw [hmoved.stack, h.2] at htold
    have hnotice := htold.before (composeAt_ports s n) (congrArg Clock.seconds hmoved.beside.clock)
    rw [signNotice, hmoved.stack, h.2]
    exact hnotice
  · rw [if_neg (by simpa using h)]
    refine ⟨hout, hmoved, ?_⟩
    rw [if_neg h]
    exact told_of_ports (composeAt_ports s n)

/-! ## A winner followed (R139, R153) -/

theorem followWinner_moved (s : State) (n : Nat) : SignMoved s (followWinner s n) n := by
  unfold followWinner
  dsimp only
  split
  · exact signMoved_refl s n
  · exact (signMoved_setOut ..).trans (signMoved_recarry ..)

theorem followWinner_ports (s : State) (n : Nat) : (followWinner s n).ports = s.ports := by
  unfold followWinner
  dsimp only
  split
  · rfl
  · rw [State.recarry_ports]
    rfl

/-- The pattern follows; of the record beside it only the lamps and the owed pattern change. -/
theorem followWinner_out {s : State} {n : Nat} (ht : TablesOk s) (hn : n < 24) :
    ((followWinner s n).out n).beacon = patternOf (s.stack n) ∧
      (followWinner s n).out n = { s.out n with
        beacon := patternOf (s.stack n), beaconOwed := ((followWinner s n).out n).beaconOwed,
        lamp1 := ((followWinner s n).out n).lamp1, lamp2 := ((followWinner s n).out n).lamp2 } := by
  unfold followWinner
  dsimp only
  split
  · next h => exact ⟨h.symm, by rw [h]⟩
  · rw [recarry_out, setOut_out _ ht hn]
    exact ⟨rfl, rfl⟩

/-- The winner of a stack has changed: its consequences at the sign. -/
theorem winnerChange_row {s : State} {n : Nat} (cause : SignCause) (ht : TablesOk s) (hn : n < 24) :
    SignMoved s (winnerChange s n cause) n ∧ WinnerFollowed True s (winnerChange s n cause) n ∧
      Told [(n, .sign ((winnerChange s n cause).out n).output cause (winnerKey (s.stack n)))] s (winnerChange s n cause) := by
  have hcompose := composeAt_moved s n
  have hfollow := followWinner_moved (composeAt s n) n
  have hboth := hcompose.trans hfollow
  have htables : TablesOk (composeAt s n) := (leaves_composeAt s n).tablesOk ht
  obtain ⟨hbeacon, hrest⟩ := followWinner_out (s := composeAt s n) htables hn
  rw [composeAt_out ht hn, hcompose.stack] at hrest
  rw [hcompose.stack] at hbeacon
  have hmoved : SignMoved s (winnerChange s n cause) n := hboth.trans (signMoved_signNotice ..)
  have hout : (winnerChange s n cause).out n = (followWinner (composeAt s n) n).out n := rfl
  have hface : composeFace (winnerChange s n cause) n = composeFace s n := hmoved.beside.composeFace (hmoved.stack n)
  have htold : Told [(n, .sign ((winnerChange s n cause).out n).output cause (winnerKey (s.stack n)))] s
      (winnerChange s n cause) := by
    have hnotice := told_notify (followWinner (composeAt s n) n) n
      (.sign ((followWinner (composeAt s n) n).out n).output cause (winnerKey ((followWinner (composeAt s n) n).stack n)))
    rw [hboth.stack] at hnotice
    have hbefore := hnotice.before ((followWinner_ports _ n).trans (composeAt_ports s n))
      (congrArg Clock.seconds hboth.beside.clock)
    rw [hout, winnerChange, signNotice, hboth.stack]
    exact hbefore
  refine ⟨hmoved, ⟨fun _ => ?_, fun h => absurd trivial h⟩, htold⟩
  rw [hface, hmoved.stack, hout, hbeacon, hrest]
  unfold Recomposed
  dsimp only
  by_cases hsame : composeFace s n = (s.out n).face
  · rw [if_pos hsame]
    exact ⟨hsame.symm, rfl, rfl, rfl, rfl, fun _ => ⟨rfl, rfl⟩, fun hne => absurd hsame hne⟩
  · rw [if_neg hsame]
    exact ⟨rfl, rfl, rfl, rfl, rfl, fun he => absurd he hsame, fun _ => ⟨rfl, rfl, rfl, rfl⟩⟩

/-! ## Placeholder changes and the re-render timer (R149) -/

theorem exec_placeholderChange {s : State} {n : Nat} (hn : signOk n = true) :
    exec (.placeholderChange n) s = .next (placeholderAt (s.taking (.placeholderChange n)) n) := by
  show onObject (signOk n) _ = _
  rw [hn]
  rfl

theorem composeFace_taking (s : State) (c : Instr) (n : Nat) : composeFace (s.taking c) n = composeFace s n :=
  composeFace_congr rfl rfl rfl rfl (fun _ => rfl) rfl

theorem recomposed_taking (s : State) (c : Instr) (n : Nat) : Recomposed (s.taking c) n = Recomposed s n := by
  unfold Recomposed
  rw [composeFace_taking]
  rfl

theorem placeholderChange_row {s : State} {n : Nat} (ht : TablesOk s) (hn : signOk n = true) :
    ∃ t, exec (.placeholderChange n) s = .next t ∧
      t.out n = (if (s.out n).timer = none then Recomposed s n else { s.out n with owed := true }) ∧
      (∀ m, m ≠ n → t.out m = s.out m) ∧ t.arbiter.demands = s.arbiter.demands ∧
      NoticeIf ((s.out n).timer = none ∧ (s.out n).output = .shown ∧ (t.out n).output = .pending) n
        (.sign .pending .recomposed (winnerKey (s.stack n))) s t ∧
      BesideStacks (s.taking (.placeholderChange n)) t := by
  have hlt : n < 24 := by simpa [signOk] using hn
  have htables : TablesOk (s.taking (.placeholderChange n)) := ht
  refine ⟨_, exec_placeholderChange hn, ?_⟩
  unfold placeholderAt
  by_cases htimer : (s.out n).timer = none
  · have hrun : ((s.taking (.placeholderChange n)).out n).timer.isNone = true := by
      have h : ((s.taking (.placeholderChange n)).out n).timer = none := htimer
      rw [h]; rfl
    rw [if_pos hrun, if_pos htimer]
    obtain ⟨hout, hmoved, htold⟩ := rerender_row htables hlt
    refine ⟨hout.trans (recomposed_taking s _ n), hmoved.other, hmoved.demands, ?_, hmoved.beside.besideStacks⟩
    have htold' := htold.before (s := s) rfl rfl
    have hif : Told (if (s.out n).timer = none ∧ (s.out n).output = .shown ∧
        ((rerender (s.taking (.placeholderChange n)) n).out n).output = .pending then
          [(n, .sign .pending .recomposed (winnerKey (s.stack n)))] else []) s
        (rerender (s.taking (.placeholderChange n)) n) := by
      rw [if_congr (and_iff_right htimer) rfl rfl]
      exact htold'
    exact hif.noticeIf
  · have hrun : ¬((s.taking (.placeholderChange n)).out n).timer.isNone = true := by
      have h : ((s.taking (.placeholderChange n)).out n).timer ≠ none := htimer
      simpa using h
    rw [if_neg hrun, if_neg htimer]
    have hmoved := signMoved_setOut (s.taking (.placeholderChange n)) n
      { (s.taking (.placeholderChange n)).out n with owed := true }
    refine ⟨setOut_out _ htables hlt, hmoved.other, hmoved.demands, ⟨fun h => absurd h.1 htimer, fun _ => ?_⟩,
      hmoved.beside.besideStacks⟩
    exact (told_of_ports (s := s) rfl).noNotice

theorem exec_reRenderTimerExpiry {s : State} {n : Nat} (hn : signOk n = true) :
    exec (.reRenderTimerExpiry n) s = .next (if due (s.out n).timer then
      if (s.out n).owed then rerender s n else s.setOut n { s.out n with timer := none } else s) := by
  show onObject (signOk n) _ = _
  rw [hn]
  rfl

theorem reRender_row {s : State} {n : Nat} (ht : TablesOk s) (hn : signOk n = true) (hdue : (s.out n).timer = some 0) :
    ∃ t, exec (.reRenderTimerExpiry n) s = .next t ∧
      t.out n = (if (s.out n).owed then Recomposed s n else { s.out n with timer := none }) ∧
      (∀ m, m ≠ n → t.out m = s.out m) ∧ t.arbiter.demands = s.arbiter.demands ∧
      NoticeIf ((s.out n).owed = true ∧ (s.out n).output = .shown ∧ (t.out n).output = .pending) n
        (.sign .pending .recomposed (winnerKey (s.stack n))) s t ∧ BesideStacks s t := by
  have hlt : n < 24 := by simpa [signOk] using hn
  refine ⟨_, exec_reRenderTimerExpiry hn, ?_⟩
  rw [if_pos (by rw [hdue]; rfl)]
  by_cases howed : (s.out n).owed = true
  · rw [if_pos howed, if_pos howed]
    obtain ⟨hout, hmoved, htold⟩ := rerender_row ht hlt
    refine ⟨hout, hmoved.other, hmoved.demands, ?_, hmoved.beside.besideStacks⟩
    have hif : Told (if (s.out n).owed = true ∧ (s.out n).output = .shown ∧ ((rerender s n).out n).output = .pending then
        [(n, .sign .pending .recomposed (winnerKey (s.stack n)))] else []) s (rerender s n) := by
      rw [if_congr (and_iff_right howed) rfl rfl]
      exact htold
    exact hif.noticeIf
  · rw [if_neg howed, if_neg howed]
    have hmoved := signMoved_setOut s n { s.out n with timer := none }
    refine ⟨setOut_out _ ht hlt, hmoved.other, hmoved.demands, ⟨fun h => absurd h.1 howed, fun _ => ?_⟩,
      hmoved.beside.besideStacks⟩
    exact (told_of_ports (s := s) rfl).noNotice

/-! ## Checksums (R150, R151) -/

theorem exec_checksum {s : State} {x : Nat} (v : Half) (hx : stationOk x = true) :
    exec (.checksum x v) s = .next (checksumAt (s.taking (.checksum x v)) x v) := by
  show onObject (stationOk x) _ = _
  rw [hx]
  rfl

theorem signOfTarget_lt {s : State} {x n : Nat} (h : signOfTarget s x = some n) :
    n < 24 ∧ (s.out n).target = some x := by
  refine ⟨List.mem_range.1 (List.mem_of_find?_eq_some h), ?_⟩
  have := List.find?_some h
  exact beq_iff_eq.1 this

/-- The notice of an output that has just been written. -/
theorem told_setOut {s : State} {n : Nat} (o : SignOut) (cause : SignCause) (ht : TablesOk s) (hn : n < 24) :
    Told [(n, .sign o.output cause (winnerKey (s.stack n)))] s (signNotice (s.setOut n o) n cause) := by
  have hnotice := told_notify (s.setOut n o) n
    (.sign ((s.setOut n o).out n).output cause (winnerKey ((s.setOut n o).stack n)))
  have hbefore := hnotice.before (s := s) rfl rfl
  rw [signNotice]
  rw [setOut_out o ht hn] at hbefore ⊢
  exact hbefore

theorem confirmAt_pending {s : State} {n : Nat} (h : (s.out n).output = .pending) : confirmAt s n =
    signNotice (s.setOut n { s.out n with mismatches := 0, output := .shown }) n .confirmed := by
  have hb : ((s.out n).output == .pending) = true := by simpa using h
  unfold confirmAt
  dsimp only
  rw [if_pos hb, if_pos hb]

theorem confirmAt_settled {s : State} {n : Nat} (h : ¬(s.out n).output = .pending) : confirmAt s n =
    s.setOut n { s.out n with mismatches := 0, output := (s.out n).output } := by
  have hb : ¬((s.out n).output == .pending) = true := by simpa using h
  unfold confirmAt
  dsimp only
  rw [if_neg hb, if_neg hb]

theorem confirmAt_row {s : State} {n : Nat} (ht : TablesOk s) (hn : n < 24) :
    (confirmAt s n).out n = { s.out n with
        mismatches := 0, output := if (s.out n).output = .pending then .shown else (s.out n).output } ∧
      SignMoved s (confirmAt s n) n ∧
      Told (if (s.out n).output = .pending then [(n, .sign .shown .confirmed (winnerKey (s.stack n)))] else []) s
        (confirmAt s n) := by
  by_cases h : (s.out n).output = .pending
  · rw [confirmAt_pending h, if_pos h, if_pos h]
    exact ⟨setOut_out _ ht hn, (signMoved_setOut ..).trans (signMoved_signNotice ..), told_setOut _ _ ht hn⟩
  · rw [confirmAt_settled h, if_neg h, if_neg h]
    exact ⟨setOut_out _ ht hn, signMoved_setOut .., told_of_ports rfl⟩

theorem mismatchAt_sent {s : State} {n : Nat} (x : Nat) {tgt : Nat} (ht : TablesOk s) (hn : n < 24)
    (htarget : (s.out n).target = some tgt) (hm : (s.out n).mismatches < 2) :
    (mismatchAt s n x).out n = { s.out n with
        mismatches := (s.out n).mismatches + 1, carried := false, output := .pending } ∧
      SignMoved s (mismatchAt s n x) n ∧
      Told (if (s.out n).output = .shown then [(n, .sign .pending .mismatch (winnerKey (s.stack n)))] else []) s
        (mismatchAt s n x) := by
  have hawait : awaiting (s.out n) = .pending := by rw [awaiting, htarget]; rfl
  unfold mismatchAt
  dsimp only
  rw [if_pos hm, hawait]
  by_cases hshown : (s.out n).output = .shown
  · rw [if_pos (by simpa using hshown), if_pos hshown]
    exact ⟨setOut_out _ ht hn, (signMoved_setOut ..).trans (signMoved_signNotice ..), told_setOut _ _ ht hn⟩
  · rw [if_neg (by simpa using hshown), if_neg hshown]
    exact ⟨setOut_out _ ht hn, signMoved_setOut .., told_of_ports rfl⟩

theorem mismatchAt_failed {s : State} {n : Nat} (x : Nat) (ht : TablesOk s) (hn : n < 24)
    (hm : ¬(s.out n).mismatches < 2) :
    (mismatchAt s n x).out n = { s.out n with mismatches := 0 } ∧
      (∀ m, m ≠ n → (mismatchAt s n x).out m = s.out m) ∧ (mismatchAt s n x).arbiter.demands = s.arbiter.demands ∧
      (mismatchAt s n x).deliveries = s.deliveries ++ [.faceCheckFailure x] ∧ Told [] s (mismatchAt s n x) := by
  have hmoved := signMoved_setOut s n { s.out n with mismatches := 0 }
  unfold mismatchAt
  dsimp only
  rw [if_neg hm]
  exact ⟨setOut_out _ ht hn, hmoved.other, rfl, rfl, told_of_ports rfl⟩

/-- The settled row of a checksum at the sign whose target answered. -/
theorem checksum_row {s : State} {x n : Nat} (v : Half) (ht : TablesOk s) (hx : stationOk x = true)
    (hsign : signOfTarget s x = some n) (hcarried : ¬(s.out n).carried = false) :
    ∃ t, exec (.checksum x v) s = .next t ∧ (∀ m, m ≠ n → t.out m = s.out m) ∧
      t.arbiter.demands = s.arbiter.demands ∧ ChangesOnly [.ports, .arbiter, .deliveries] s t ∧
      if v = (s.out n).checksum then
        t.out n = { s.out n with
          mismatches := 0, output := if (s.out n).output = .pending then .shown else (s.out n).output } ∧
        t.deliveries = (s.taking (.checksum x v)).deliveries ∧
        NoticeIf ((s.out n).output = .pending) n (.sign .shown .confirmed (winnerKey (s.stack n))) s t
      else if (s.out n).mismatches < 2 then
        t.out n = { s.out n with mismatches := (s.out n).mismatches + 1, carried := false, output := .pending } ∧
        t.deliveries = (s.taking (.checksum x v)).deliveries ∧
        NoticeIf ((s.out n).output = .shown) n (.sign .pending .mismatch (winnerKey (s.stack n))) s t
      else
        t.out n = { s.out n with mismatches := 0 } ∧
        t.deliveries = (s.taking (.checksum x v)).deliveries ++ [.faceCheckFailure x] ∧
        NoNotice s t := by
  have htables : TablesOk (s.taking (.checksum x v)) := ht
  obtain ⟨hlt, htarget⟩ := signOfTarget_lt hsign
  have hexec := exec_checksum (s := s) v hx
  have hstep : checksumAt (s.taking (.checksum x v)) x v = if v = (s.out n).checksum then
      confirmAt (s.taking (.checksum x v)) n else mismatchAt (s.taking (.checksum x v)) n x := by
    have hsign' : signOfTarget (s.taking (.checksum x v)) x = some n := hsign
    have hcarried' : ((s.taking (.checksum x v)).out n).carried = true := by
      have h : ((s.taking (.checksum x v)).out n).carried ≠ false := hcarried
      simpa using h
    unfold checksumAt
    rw [hsign']
    dsimp only
    rw [if_pos hcarried']
    rfl
  rw [hstep] at hexec
  have honly : ChangesOnly [.ports, .arbiter, .deliveries] s (checksumAt (s.taking (.checksum x v)) x v) :=
    ((changesOnly_taking s (.checksum x v)).mono (by decide)).trans
      ((leaves_checksumAt (s.taking (.checksum x v)) x v).changesOnly (by decide))
  rw [hstep] at honly
  refine ⟨_, hexec, ?_⟩
  by_cases hv : v = (s.out n).checksum
  · rw [if_pos hv] at honly ⊢
    rw [if_pos hv]
    obtain ⟨hout, hmoved, htold⟩ := confirmAt_row htables hlt
    exact ⟨hmoved.other, hmoved.demands, honly, hout, hmoved.beside.blocks .deliveries (by decide),
      (htold.before (s := s) rfl rfl).noticeIf⟩
  · rw [if_neg hv] at honly ⊢
    rw [if_neg hv]
    by_cases hm : (s.out n).mismatches < 2
    · rw [if_pos hm]
      obtain ⟨hout, hmoved, htold⟩ := mismatchAt_sent x htables hlt htarget hm
      exact ⟨hmoved.other, hmoved.demands, honly, hout, hmoved.beside.blocks .deliveries (by decide),
        (htold.before (s := s) rfl rfl).noticeIf⟩
    · rw [if_neg hm]
      obtain ⟨hout, hother, hdemands, hdel, htold⟩ := mismatchAt_failed x htables hlt hm
      exact ⟨hother, hdemands, honly, hout, hdel, (htold.before (s := s) rfl rfl).noNotice⟩

/-- Settles O41. -/
theorem facesAreComposedAndConfirmed : Obligations.FacesAreComposedAndConfirmed := by
  refine fun s ht => ⟨fun n hn => ⟨placeholderChange_row ht hn, ?_⟩, fun x v hx => ?_⟩
  · split
    · next hdue => exact reRender_row ht hn hdue
    · next hdue =>
      rw [exec_reRenderTimerExpiry hn, if_neg (by simpa [due] using hdue)]
  · cases hsign : signOfTarget s x with
    | none =>
      have hsign' : signOfTarget (s.taking (.checksum x v)) x = none := hsign
      dsimp only
      rw [exec_checksum v hx, checksumAt, hsign']
    | some n =>
      dsimp only
      split
      · next hcarried =>
        have hsign' : signOfTarget (s.taking (.checksum x v)) x = some n := hsign
        have hcarried' : ((s.taking (.checksum x v)).out n).carried = false := hcarried
        rw [exec_checksum v hx, checksumAt, hsign']
        dsimp only
        rw [hcarried']
        rfl
      · next hcarried => exact checksum_row v ht hx hsign hcarried

end Sys2Proof.Machine

/-! PROOF. Changes at the stacks (R137–R145): one placement or removal with its consequences, the same at several
signs, and the commands and events that do it. -/

namespace Sys2Proof.Machine

set_option Elab.async false

open Sys2Proof

/-! ## Stacks -/

theorem withoutKeys_insertDemand {q : DemandKey → Bool} {d : Demand} (hd : q d.key = true) (st : List Demand) :
    withoutKeys q (insertDemand d st) = withoutKeys q st := by
  unfold withoutKeys
  induction st with
  | nil => simp [insertDemand, hd]
  | cons x xs ih =>
    unfold insertDemand
    split
    · simp [hd]
    · rw [List.filter_cons, List.filter_cons, ih]

theorem withoutKeys_twice (q : DemandKey → Bool) (st : List Demand) :
    withoutKeys q (withoutKeys q st) = withoutKeys q st := by
  unfold withoutKeys
  rw [List.filter_filter]
  exact List.filter_congr fun d _ => Bool.and_self _

/-- A placement leaves the other demands as they stand. -/
theorem withoutKeys_placed (st : List Demand) (d : Demand) :
    withoutKeys (· == d.key) (placed st d) = withoutKeys (· == d.key) st := by
  rw [placed, withoutKeys_insertDemand (q := (· == d.key)) (by simp), withoutKeys_twice]

theorem mem_placed (st : List Demand) (d : Demand) : d ∈ placed st d :=
  (placed_perm st d).mem_iff.2 List.mem_cons_self

theorem placed_key_once (st : List Demand) (d : Demand) :
    ((placed st d).filter fun x => x.key == d.key).length = 1 := by
  have hnone : ∀ x ∈ withoutKeys (· == d.key) st, ¬(x.key == d.key) = true := fun x hx => by
    rw [(mem_withoutKeys.1 hx).2]
    exact Bool.false_ne_true
  rw [← List.countP_eq_length_filter, countP_placed, List.countP_eq_zero.2 hnone, if_pos (by simp)]

theorem hasKey_withoutKeys (k : DemandKey) (st : List Demand) : hasKey k (withoutKeys (· == k) st) = false := by
  refine Bool.eq_false_iff.2 fun h => ?_
  obtain ⟨d, hd, hk⟩ := List.any_eq_true.1 h
  rw [(mem_withoutKeys.1 hd).2] at hk
  cases hk

/-- A stack without the key is as it was. -/
theorem withoutKeys_of_not_hasKey {k : DemandKey} {st : List Demand} (h : hasKey k st = false) :
    withoutKeys (· == k) st = st := by
  unfold withoutKeys
  refine List.filter_eq_self.2 fun d hd => ?_
  have hne : ¬(d.key == k) = true := fun hk => by
    have hany : hasKey k st = true := List.any_eq_true.2 ⟨d, hd, hk⟩
    rw [h] at hany
    cases hany
  simpa using hne

theorem winnerKey_not_removed {q : DemandKey → Bool} {st : List Demand} {k : DemandKey}
    (h : winnerKey (withoutKeys q st) = some k) : q k = false := by
  obtain ⟨d, hd, rfl⟩ := Option.map_eq_some_iff.1 h
  exact (mem_withoutKeys.1 (List.mem_of_mem_head? hd)).2

/-- The winner changes exactly where the removed key was its own. -/
theorem winnerKey_withoutKey {k : DemandKey} {st : List Demand} :
    winnerKey st ≠ winnerKey (withoutKeys (· == k) st) ↔ winnerKey st = some k := by
  constructor
  · intro hne
    cases st with
    | nil => exact absurd rfl hne
    | cons d ds =>
      by_contra hno
      have hkey : ¬(d.key == k) = true := fun hk => hno (congrArg some (beq_iff_eq.1 hk))
      refine hne ?_
      have hkeep : withoutKeys (· == k) (d :: ds) = d :: withoutKeys (· == k) ds :=
        List.filter_cons_of_pos (by simpa using hkey)
      rw [hkeep]
      rfl
  · intro hk hsame
    have hremoved := winnerKey_not_removed (hsame.symm.trans hk)
    rw [beq_self_eq_true] at hremoved
    cases hremoved

/-! ## One stack (R138, R139) -/

/-- One stack is replaced, and its sign follows. -/
structure StackActed (s t : State) (n : Nat) (st : List Demand) (won : Bool) (cause : SignCause) : Prop where
  here : t.stack n = st
  other : ∀ m, m ≠ n → t.stack m = s.stack m ∧ t.out m = s.out m
  followed : WinnerFollowed (won = true) s t n
  told : Told (if won = true then [(n, .sign (t.out n).output cause (winnerKey (t.stack n)))] else []) s t
  beside : StacksBeside s t
  tables : TablesOk t

/-- A stack written and its reference counts brought up to date. -/
structure StackWritten (s u : State) (n : Nat) (st : List Demand) : Prop where
  here : u.stack n = st
  other : ∀ m, m ≠ n → u.stack m = s.stack m
  outputs : u.arbiter.outputs = s.arbiter.outputs
  ports : u.ports = s.ports
  beside : StacksBeside s u
  tables : TablesOk u

theorem StackWritten.out {s u : State} {n : Nat} {st : List Demand} (h : StackWritten s u n st) (m : Nat) :
    u.out m = s.out m := by
  rw [State.out, h.outputs]
  rfl

theorem StackWritten.stands {s u : State} {n : Nat} {st : List Demand} (h : StackWritten s u n st) (cause : SignCause) :
    StackActed s u n st false cause :=
  ⟨h.here, fun m hm => ⟨h.other m hm, h.out m⟩, ⟨fun hw => Bool.noConfusion hw, fun _ => h.out n⟩,
    told_of_ports h.ports, h.beside, h.tables⟩

theorem StackWritten.wins {s u : State} {n : Nat} {st : List Demand} (h : StackWritten s u n st) (hn : n < 24)
    (cause : SignCause) : StackActed s (winnerChange u n cause) n st true cause := by
  obtain ⟨hmoved, hfollowed, htold⟩ := winnerChange_row cause h.tables hn
  refine ⟨(hmoved.stack n).trans h.here,
    fun m hm => ⟨(hmoved.stack m).trans (h.other m hm), (hmoved.other m hm).trans (h.out m)⟩, ?_, ?_,
    h.beside.trans hmoved.beside, (leaves_winnerChange u n cause).tablesOk h.tables⟩
  · unfold WinnerFollowed at hfollowed ⊢
    rw [h.out] at hfollowed
    exact ⟨fun _ => hfollowed.1 trivial, fun hno => absurd rfl hno⟩
  · rw [if_pos rfl, hmoved.stack]
    exact htold.before h.ports (congrArg Clock.seconds h.beside.clock)

theorem Leaves.arbiter_of_library {t u : State} (h : Leaves [.library] t u) : u.arbiter = t.arbiter := by
  have honly : ChangesOnly [.library] t u := h.changesOnly (by decide)
  exact honly .arbiter (by decide)

/-- The library counted after a stack is written. -/
theorem stackWritten_of_library {s t u : State} {n : Nat} {st : List Demand} (ht : TablesOk s) (hn : n < 24)
    (hst : Leaves [.demands] s t) (hd : t.arbiter.demands = s.arbiter.demands.set n st) (hu : Leaves [.library] t u)
    (hl : LibraryCounted t u) : StackWritten s u n st := by
  have hlen := tables_demands ht
  have hblocks : ChangesOnly [.library] t u := hu.changesOnly (by decide)
  have hstart : ChangesOnly [.arbiter] s t := hst.changesOnly (by decide)
  have hstack : ∀ m, u.stack m = (s.arbiter.demands.set n st).getD m [] := fun m => by
    rw [State.stack, hu.arbiter_of_library, hd]
  obtain ⟨houtputs, helapsed⟩ : t.arbiter.outputs = s.arbiter.outputs ∧ t.arbiter.elapsed = s.arbiter.elapsed :=
    hst.kept .outputs (by decide)
  refine ⟨?_, fun m hm => ?_, ?_, (hblocks .ports (by decide)).trans (hstart .ports (by decide)),
    ⟨(libraryCounted_of_eq (hstart .library (by decide))).trans hl, ?_, busRecarried_of_eq
      ((hblocks .field (by decide)).trans (hstart .field (by decide))), (hstart.mono (by decide)).trans (hblocks.mono (by decide))⟩,
    hu.tablesOk (hst.tablesOk ht)⟩
  · rw [hstack, getD_set_self _ _ _ _ (by omega)]
  · rw [hstack, getD_set_ne _ _ _ _ _ hm]
    rfl
  · rw [hu.arbiter_of_library, houtputs]
  · rw [hu.arbiter_of_library, helapsed]

/-- A placement at one stack (R138, R139). -/
theorem placeDemand_acted {s : State} {n : Nat} (d : Demand) (cause : SignCause) (ht : TablesOk s) (hn : n < 24) :
    StackActed s (placeDemand s n d cause) n (placed (s.stack n) (arriving s d))
        (placementWins (s.stack n) (arriving s d)) cause ∧
      (placeDemand s n d cause).arbiter.arrival = s.arbiter.arrival + 1 := by
  have hlibrary : LibraryCounted ((s.setArrival (s.arbiter.arrival + 1)).setStack n (placed (s.stack n) (arriving s d))) _ :=
    (libraryCounted_joinSlot _ d.slot).trans
      (libraryCounted_foldl_leaveSlot ((s.stack n).filter fun x => x.key == d.key) _)
  have hleaves := (leaves_joinSlot ((s.setArrival (s.arbiter.arrival + 1)).setStack n
    (placed (s.stack n) (arriving s d))) d.slot).andThen
      (leaves_foldl_leaveSlot ((s.stack n).filter fun x => x.key == d.key) _)
  have hwritten := stackWritten_of_library (t := (s.setArrival (s.arbiter.arrival + 1)).setStack n
    (placed (s.stack n) (arriving s d))) ht hn ((leaves_setArrival s _).trans (leaves_setStack _ n _)) rfl hleaves hlibrary
  have harrival := congrArg Arbiter.arrival hleaves.arbiter_of_library
  have hplace : placeDemand s n d cause = if placementWins (s.stack n) (arriving s d) then
      winnerChange (((s.stack n).filter fun x => x.key == d.key).foldl (fun t x => leaveSlot t x.slot)
        (joinSlot ((s.setArrival (s.arbiter.arrival + 1)).setStack n (placed (s.stack n) (arriving s d))) d.slot)) n cause
      else ((s.stack n).filter fun x => x.key == d.key).foldl (fun t x => leaveSlot t x.slot)
        (joinSlot ((s.setArrival (s.arbiter.arrival + 1)).setStack n (placed (s.stack n) (arriving s d))) d.slot) := rfl
  rw [hplace]
  by_cases hwins : placementWins (s.stack n) (arriving s d) = true
  · rw [if_pos hwins, hwins]
    exact ⟨hwritten.wins hn cause, (winnerChange_row cause hwritten.tables hn).1.arrival.trans harrival⟩
  · rw [if_neg hwins, Bool.not_eq_true] at *
    rw [hwins]
    exact ⟨hwritten.stands cause, harrival⟩

/-- A removal at one stack (R139). -/
theorem removeDemands_acted {s : State} {n : Nat} (q : DemandKey → Bool) (cause : SignCause) (ht : TablesOk s)
    (hn : n < 24) : StackActed s (removeDemands s n q cause) n (withoutKeys q (s.stack n))
        (winnerKey (withoutKeys q (s.stack n)) != winnerKey (s.stack n)) cause ∧
      (removeDemands s n q cause).arbiter.arrival = s.arbiter.arrival := by
  have hlibrary := libraryCounted_foldl_leaveSlot ((s.stack n).filter fun x => q x.key)
    (s.setStack n (withoutKeys q (s.stack n)))
  have hleaves := leaves_foldl_leaveSlot ((s.stack n).filter fun x => q x.key) (s.setStack n (withoutKeys q (s.stack n)))
  have hwritten := stackWritten_of_library (t := s.setStack n (withoutKeys q (s.stack n))) ht hn
    (leaves_setStack s n _) rfl hleaves hlibrary
  have harrival := congrArg Arbiter.arrival hleaves.arbiter_of_library
  have hremove : removeDemands s n q cause = if winnerKey (s.stack n) == winnerKey (withoutKeys q (s.stack n)) then
      ((s.stack n).filter fun x => q x.key).foldl (fun t x => leaveSlot t x.slot) (s.setStack n (withoutKeys q (s.stack n)))
      else winnerChange (((s.stack n).filter fun x => q x.key).foldl (fun t x => leaveSlot t x.slot)
        (s.setStack n (withoutKeys q (s.stack n)))) n cause := rfl
  rw [hremove]
  by_cases hsame : winnerKey (s.stack n) = winnerKey (withoutKeys q (s.stack n))
  · rw [if_pos (by simpa using hsame), ← hsame, bne_self_eq_false]
    exact ⟨hwritten.stands cause, harrival⟩
  · rw [if_neg (by simpa using hsame), (bne_iff_ne ..).2 fun h => hsame h.symm]
    exact ⟨hwritten.wins hn cause, (winnerChange_row cause hwritten.tables hn).1.arrival.trans harrival⟩

/-! ## Several stacks -/

theorem winnerFollowed_congr {won : Prop} {s s' t t' : State} {n : Nat} (hs : s'.out n = s.out n) (ht : t'.out n = t.out n)
    (hstack : t'.stack n = t.stack n) (hface : composeFace t' n = composeFace t n) (h : WinnerFollowed won s t n) :
    WinnerFollowed won s' t' n := by
  unfold WinnerFollowed at h ⊢
  rw [hs, ht, hstack, hface]
  exact h

/-- The SIGN notice of a sign as it stands (R139). -/
def signTold (t : State) (cause : SignCause) (n : Nat) : Nat × NoticeBody :=
  (n, .sign (t.out n).output cause (winnerKey (t.stack n)))

/-- The stacks of these signs are replaced, and the signs follow. -/
structure StacksActed (s t : State) (signs : List Nat) (st : Nat → List Demand) (won : Nat → Bool) (cause : SignCause) :
    Prop where
  here : ∀ n ∈ signs, t.stack n = st n ∧ WinnerFollowed (won n = true) s t n
  other : ∀ n, n ∉ signs → t.stack n = s.stack n ∧ t.out n = s.out n
  told : Told ((signs.filter won).map (signTold t cause)) s t
  beside : StacksBeside s t
  tables : TablesOk t

theorem stacksActed_nil {s : State} (st : Nat → List Demand) (won : Nat → Bool) (cause : SignCause) (ht : TablesOk s) :
    StacksActed s s [] st won cause :=
  ⟨fun _ h => absurd h List.not_mem_nil, fun _ _ => ⟨rfl, rfl⟩, told_refl s, stacksBeside_refl s, ht⟩

theorem StacksActed.next {s t u : State} {signs : List Nat} {st : Nat → List Demand} {won : Nat → Bool}
    {cause : SignCause} (h : StacksActed s t signs st won cause) {n : Nat} (hn : n ∉ signs)
    (hu : StackActed t u n (st n) (won n) cause) : StacksActed s u (signs ++ [n]) st won cause := by
  have hold : ∀ m ∈ signs, u.stack m = t.stack m ∧ u.out m = t.out m := fun m hm =>
    hu.other m fun he => hn (he ▸ hm)
  refine ⟨fun m hm => ?_, fun m hm => ?_, ?_, h.beside.trans hu.beside, hu.tables⟩
  · rcases List.mem_append.1 hm with hm | hm
    · obtain ⟨hstack, hout⟩ := hold m hm
      obtain ⟨hhere, hfollowed⟩ := h.here m hm
      exact ⟨hstack.trans hhere, winnerFollowed_congr rfl hout hstack (hu.beside.composeFace hstack) hfollowed⟩
    · obtain rfl := List.mem_singleton.1 hm
      exact ⟨hu.here, winnerFollowed_congr (h.other m hn).2.symm rfl rfl rfl hu.followed⟩
  · obtain ⟨hstack, hout⟩ := h.other m fun hm' => hm (List.mem_append_left _ hm')
    obtain ⟨hstack', hout'⟩ := hu.other m fun he => hm (by simp [he])
    exact ⟨hstack'.trans hstack, hout'.trans hout⟩
  · have hboth := h.told.trans hu.told (congrArg Clock.seconds h.beside.clock)
    have hsame : (signs.filter won).map (signTold t cause) = (signs.filter won).map (signTold u cause) :=
      List.map_congr_left fun m hm => by
        obtain ⟨hstack, hout⟩ := hold m (List.mem_filter.1 hm).1
        rw [signTold, signTold, hstack, hout]
    rw [hsame] at hboth
    rw [List.filter_append, List.map_append]
    cases hw : won n with
    | false => simpa [hw] using hboth
    | true => simpa [hw, signTold] using hboth

/-- Removals at several signs. -/
theorem foldl_removeDemands_acted {s : State} (q : DemandKey → Bool) (cause : SignCause) (ht : TablesOk s)
    (signs : List Nat) (hnodup : signs.Nodup) (hlt : ∀ n ∈ signs, n < 24) :
    StacksActed s (signs.foldl (fun t n => removeDemands t n q cause) s) signs (fun n => withoutKeys q (s.stack n))
        (fun n => winnerKey (withoutKeys q (s.stack n)) != winnerKey (s.stack n)) cause ∧
      (signs.foldl (fun t n => removeDemands t n q cause) s).arbiter.arrival = s.arbiter.arrival := by
  induction signs using List.reverseRecOn with
  | nil => exact ⟨stacksActed_nil _ _ cause ht, rfl⟩
  | append_singleton signs n ih =>
    obtain ⟨hnd, -, hnew⟩ := List.nodup_append.1 hnodup
    have hn : n ∉ signs := fun hm => hnew n hm n (List.mem_singleton_self n) rfl
    obtain ⟨hacted, harrival⟩ := ih hnd fun m hm => hlt m (List.mem_append_left _ hm)
    rw [List.foldl_concat]
    generalize signs.foldl (fun t n => removeDemands t n q cause) s = u at hacted harrival
    obtain ⟨hone, hsame⟩ := removeDemands_acted q cause hacted.tables (hlt n (by simp))
    rw [(hacted.other n hn).1] at hone
    exact ⟨hacted.next hn hone, hsame.trans harrival⟩

theorem StacksActed.linesKept {s t : State} {signs : List Nat} {st : Nat → List Demand} {won : Nat → Bool}
    {cause : SignCause} (h : StacksActed s t signs st won cause) : LinesKept s t := h.told.linesKept

/-- Removals, as the statements say them. -/
theorem demandsLeave_of_acted {q : DemandKey → Bool} {signs : List Nat} {s t : State} {cause : SignCause}
    (h : StacksActed s t signs (fun n => withoutKeys q (s.stack n))
      (fun n => winnerKey (withoutKeys q (s.stack n)) != winnerKey (s.stack n)) cause)
    (harrival : t.arbiter.arrival = s.arbiter.arrival) (hlines : LinesKept s t) : DemandsLeave q signs s t := by
  refine ⟨fun n hn => ?_, h.other, harrival, hlines⟩
  obtain ⟨hstack, hfollowed⟩ := h.here n hn
  refine ⟨hstack, ?_⟩
  rw [hstack]
  unfold WinnerFollowed at hfollowed ⊢
  rw [bne_iff_ne] at hfollowed
  exact hfollowed

theorem winnersTold_list {q : DemandKey → Bool} {signs : List Nat} {s t : State} {cause : SignCause}
    (hstack : ∀ n ∈ signs, t.stack n = withoutKeys q (s.stack n)) :
    (signs.filter fun n => winnerKey (withoutKeys q (s.stack n)) != winnerKey (s.stack n)).map (signTold t cause) =
      (signs.filter fun n => winnerKey (t.stack n) ≠ winnerKey (s.stack n)).map fun n =>
        (n, .sign (t.out n).output cause (winnerKey (t.stack n))) := by
  have hfilter : (signs.filter fun n => winnerKey (withoutKeys q (s.stack n)) != winnerKey (s.stack n)) =
      signs.filter fun n => winnerKey (t.stack n) ≠ winnerKey (s.stack n) := by
    refine List.filter_congr fun n hn => ?_
    rw [hstack n hn, Bool.eq_iff_iff, bne_iff_ne, decide_eq_true_iff]
  rw [hfilter]
  rfl

/-! ## Internal deliveries (R145) -/

theorem exec_internalDelivery {s : State} {n : Nat} {topic : Topic} {c : Option DemandContent}
    (hn : signOk n = true) (hc : contentOk c = true) :
    exec (.internalDelivery n topic c) s = .next (deliverDemand (s.taking (.internalDelivery n topic c)) n topic c) := by
  show onObject (signOk n && contentOk c) _ = _
  rw [hn, hc]
  rfl

/-- Settles O40. -/
theorem internalDeliveriesFillTopics : Obligations.InternalDeliveriesFillTopics := by
  intro s n topic c ht hn hc
  have hlt : n < 24 := by simpa [signOk] using hn
  refine ⟨_, exec_internalDelivery hn hc, ?_⟩
  cases c with
  | some d =>
    obtain ⟨hacted, harrival⟩ := placeDemand_acted (s := s.taking (.internalDelivery n topic (some d)))
      (internalDemand topic d) (topicCause topic) ht hlt
    generalize hu : deliverDemand (s.taking (.internalDelivery n topic (some d))) n topic (some d) = u
    have hu' : placeDemand (s.taking (.internalDelivery n topic (some d))) n (internalDemand topic d)
      (topicCause topic) = u := hu
    rw [hu'] at hacted harrival
    have hstack : u.stack n = placed (s.stack n) (arriving s (internalDemand topic d)) := hacted.here
    have hwon : placementWins (s.stack n) (arriving s (internalDemand topic d)) = true ↔
        winnerKey (u.stack n) = some (.internal topic) ∨ winnerKey (s.stack n) = some (.internal topic) := by
      rw [hstack, placementWins, Bool.or_eq_true, beq_iff_eq, beq_iff_eq]
      rfl
    refine ⟨?_, hacted.other, ⟨?_, harrival⟩, ⟨?_, ?_⟩, (hacted.told.before (s := s) rfl rfl).linesKept,
      hacted.beside.besideStacks⟩
    · rw [hstack]
      exact withoutKeys_placed (s.stack n) (arriving s (internalDemand topic d))
    · rw [hstack]
      exact mem_placed (s.stack n) (arriving s (internalDemand topic d))
    · rw [← hwon]
      exact hacted.followed
    · rw [← hwon]
      exact (hacted.told.before (s := s) rfl rfl).noticeIf
  | none =>
    obtain ⟨hacted, harrival⟩ := removeDemands_acted (s := s.taking (.internalDelivery n topic none))
      (· == .internal topic) (topicCause topic) ht hlt
    generalize hu : deliverDemand (s.taking (.internalDelivery n topic none)) n topic none = u
    have hu' : removeDemands (s.taking (.internalDelivery n topic none)) n (· == .internal topic)
      (topicCause topic) = u := hu
    rw [hu'] at hacted harrival
    have hstack : u.stack n = withoutKeys (· == .internal topic) (s.stack n) := hacted.here
    have hgone : ¬winnerKey (u.stack n) = some (.internal topic) := fun h => by
      rw [hstack] at h
      have := winnerKey_not_removed h
      rw [beq_self_eq_true] at this
      cases this
    have hwon : (winnerKey (withoutKeys (· == .internal topic) (s.stack n)) != winnerKey (s.stack n)) = true ↔
        winnerKey (u.stack n) = some (.internal topic) ∨ winnerKey (s.stack n) = some (.internal topic) := by
      rw [or_iff_right hgone, bne_iff_ne, ne_comm, winnerKey_withoutKey]
    refine ⟨?_, hacted.other, ⟨?_, harrival⟩, ⟨?_, ?_⟩, (hacted.told.before (s := s) rfl rfl).linesKept,
      hacted.beside.besideStacks⟩
    · rw [hstack, withoutKeys_twice]
    · rw [hstack, hasKey_withoutKeys]
    · rw [← hwon]
      exact hacted.followed
    · rw [← hwon]
      exact (hacted.told.before (s := s) rfl rfl).noticeIf

end Sys2Proof.Machine

/-! PROOF. The agent commands and removals at the stacks: POST, WITHDRAW, WITHDRAW ALL, the loss action and the expiry
(R29, R138–R144). -/

namespace Sys2Proof.Machine

set_option Elab.async false

open Sys2Proof

/-! ## From the action to the command -/

/-- A face is the same where its stack, the library and the records it shows are. -/
theorem composeFace_owe (u : State) (p : Nat) (r : Reply) (n : Nat) : composeFace (u.owe p r) n = composeFace u n :=
  composeFace_congr rfl rfl rfl rfl (fun _ => rfl) rfl

theorem demandsLeave_transfer {q : DemandKey → Bool} {signs : List Nat} {s s' t t' : State} (hs : s'.arbiter = s.arbiter)
    (ht : t'.arbiter = t.arbiter) (hface : ∀ n, composeFace t' n = composeFace t n) (hlines : LinesKept s' t')
    (h : DemandsLeave q signs s t) : DemandsLeave q signs s' t' := by
  obtain ⟨hin, hout, harrival, -⟩ := h
  have hstack : ∀ n, s'.stack n = s.stack n ∧ t'.stack n = t.stack n := fun n =>
    ⟨by rw [State.stack, hs]; rfl, by rw [State.stack, ht]; rfl⟩
  have hrec : ∀ n, s'.out n = s.out n ∧ t'.out n = t.out n := fun n =>
    ⟨by rw [State.out, hs]; rfl, by rw [State.out, ht]; rfl⟩
  refine ⟨fun n hn => ?_, fun n hn => ?_, by rw [ht, hs, harrival], hlines⟩
  · obtain ⟨hs1, ht1⟩ := hstack n
    obtain ⟨hs2, ht2⟩ := hrec n
    obtain ⟨hleft, hfollowed⟩ := hin n hn
    rw [hs1, ht1]
    exact ⟨hleft, winnerFollowed_congr hs2 ht2 ht1 (hface n) hfollowed⟩
  · obtain ⟨hs1, ht1⟩ := hstack n
    obtain ⟨hs2, ht2⟩ := hrec n
    rw [hs1, ht1, hs2, ht2]
    exact hout n hn

theorem besideStacks_outcome {α : Type} {c : Command α} {s u : State} {p : Nat} {a : α} {code : Result} {data : List Byte}
    (hrun : c.run (popFrame s p) p a = { code, data, state := u }) (h : StacksBeside (popFrame s p) u) :
    BesideStacks s (outcome c s p a) := by
  have honly : ChangesOnly [.ports, .arbiter, .library, .field] s (outcome c s p a) :=
    outcome_changesOnly (by rw [hrun]; exact h.blocks) (by decide)
  have heq := outcome_eq hrun
  obtain ⟨h1, h2, h3, h4, h5, -⟩ := h.besideStacks
  rw [heq] at honly ⊢
  exact ⟨h1, h2, h3, h4, h5, honly⟩

/-- A removal by an agent's command. -/
theorem removal_outcome {α : Type} {c : Command α} {s u : State} {p : Nat} {a : α} {code : Result} {data : List Byte}
    {q : DemandKey → Bool} {signs : List Nat} {cause : SignCause} (ht : TablesOk s) (hacc : Accepted c s p a)
    (hrun : c.run (popFrame s p) p a = { code, data, state := u })
    (h : StacksActed (popFrame s p) u signs (fun n => withoutKeys q ((popFrame s p).stack n))
      (fun n => winnerKey (withoutKeys q ((popFrame s p).stack n)) != winnerKey ((popFrame s p).stack n)) cause)
    (harrival : u.arbiter.arrival = s.arbiter.arrival) :
    DemandsLeave q signs s (outcome c s p a) ∧ WinnersTold signs cause s (outcome c s p a) ∧
      Replied p c.kind code data s (outcome c s p a) ∧ BesideStacks s (outcome c s p a) := by
  obtain ⟨hnotices, hreply, hlines⟩ := outcome_told hrun h.told (accepted_lt ht hacc)
  have hleave := demandsLeave_of_acted h harrival h.linesKept
  have hbeside := besideStacks_outcome hrun h.beside
  have hlist := winnersTold_list (t := u) (cause := cause) fun n hn => (h.here n hn).1
  have heq := outcome_eq hrun
  rw [hlist] at hnotices
  refine ⟨?_, ?_, hreply, hbeside⟩
  · rw [heq] at hlines ⊢
    exact demandsLeave_transfer (s := popFrame s p) (t := u) rfl rfl (composeFace_owe u p _) hlines hleave
  · rw [heq] at hnotices ⊢
    exact hnotices

/-! ## WITHDRAW and WITHDRAW ALL (R142, R143) -/

theorem withdraw_row {s : State} {p first count tag : Nat} (ht : TablesOk s)
    (hacc : Accepted withdrawCommand s p (first, count, tag)) :
    ∃ t, exec (.withdraw p) s = .next t ∧
      DemandsLeave (· == DemandKey.agent (agentOf s p) tag) ((List.range count).map (first + ·)) s t ∧
      WinnersTold ((List.range count).map (first + ·)) .withdraw s t ∧
      Replied p .withdraw .done [byteOf (((List.range count).map (first + ·)).filter fun n =>
        hasKey (DemandKey.agent (agentOf s p) tag) (s.stack n)).length] s t ∧ BesideStacks s t := by
  obtain ⟨body, -, hparse⟩ := accepted_parsed hacc
  have hspan : spanOk first count = true := (argsWithdraw_some hparse).1
  obtain ⟨hacted, harrival⟩ := foldl_removeDemands_acted (s := popFrame s p) (· == DemandKey.agent (agentOf s p) tag)
    .withdraw ((leaves_popFrame s p).tablesOk ht) (spanSigns first count) (spanSigns_nodup first count) (spanSigns_lt hspan)
  exact ⟨_, exec_accepted rfl (fun _ _ => ⟨rfl, rfl, rfl⟩) hacc, removal_outcome ht hacc rfl hacted harrival⟩

theorem countSource_eq (s : State) (src : AgentSource) : countSource s src =
    ((List.range 24).map fun n => ((s.stack n).filter fun d => d.key.ofSource src).length).sum := List.length_flatMap

theorem countSource_popFrame (s : State) (p : Nat) (src : AgentSource) :
    countSource (popFrame s p) src = countSource s src := by
  unfold countSource
  exact congrArg List.length (List.flatMap_congr fun n _ => rfl)

theorem removeSource_acted {s : State} (src : AgentSource) (cause : SignCause) (ht : TablesOk s) :
    StacksActed s (removeSource s src cause) (List.range 24) (fun n => withoutKeys (DemandKey.ofSource src) (s.stack n))
        (fun n => winnerKey (withoutKeys (DemandKey.ofSource src) (s.stack n)) != winnerKey (s.stack n)) cause ∧
      (removeSource s src cause).arbiter.arrival = s.arbiter.arrival := by
  unfold removeSource
  exact foldl_removeDemands_acted (DemandKey.ofSource src) cause ht (List.range 24) List.nodup_range fun n hn =>
    List.mem_range.1 hn

theorem withdrawAll_row {s : State} {p : Nat} (ht : TablesOk s) (hacc : Accepted withdrawAllCommand s p ()) :
    ∃ t, exec (.withdrawAll p) s = .next t ∧ DemandsLeave (DemandKey.ofSource (agentOf s p)) (List.range 24) s t ∧
      WinnersTold (List.range 24) .withdraw s t ∧
      Replied p .withdrawAll .done [byteOf ((List.range 24).map fun n =>
        ((s.stack n).filter fun d => d.key.ofSource (agentOf s p)).length).sum] s t ∧ BesideStacks s t := by
  obtain ⟨hacted, harrival⟩ := removeSource_acted (agentOf s p) .withdraw ((leaves_popFrame s p).tablesOk ht)
  have hrun : withdrawAllCommand.run (popFrame s p) p () = .mk .done [byteOf (countSource (popFrame s p) (agentOf s p))]
    (removeSource (popFrame s p) (agentOf s p) .withdraw) := rfl
  rw [countSource_popFrame] at hrun
  rw [← countSource_eq]
  exact ⟨_, exec_accepted rfl (fun _ _ => ⟨rfl, rfl, rfl⟩) hacc, removal_outcome ht hacc hrun hacted harrival⟩

/-! ## The loss action and the expiry (R29, R144) -/

theorem linkLossRemoval_row {s : State} (src : AgentSource) (ht : TablesOk s) :
    ∃ t, exec (.linkLossRemoval src) s = .next t ∧ DemandsLeave (DemandKey.ofSource src) (List.range 24) s t ∧
      WinnersTold (List.range 24) .linkLoss s t ∧ BesideStacks (s.taking (.linkLossRemoval src)) t := by
  have htables : TablesOk (s.taking (.linkLossRemoval src)) := ht
  obtain ⟨hacted, harrival⟩ := removeSource_acted src .linkLoss htables
  have hexec : exec (.linkLossRemoval src) s =
    .next (removeSource (s.taking (.linkLossRemoval src)) src .linkLoss) := rfl
  generalize removeSource (s.taking (.linkLossRemoval src)) src .linkLoss = u at hexec hacted harrival
  have htold := hacted.told.before (s := s) rfl rfl
  have hsent := htold.noticesSent
  rw [winnersTold_list fun n hn => (hacted.here n hn).1] at hsent
  have hleave := demandsLeave_of_acted hacted harrival hacted.linesKept
  exact ⟨u, hexec, demandsLeave_transfer (s := s.taking (.linkLossRemoval src)) rfl rfl (fun _ => rfl) htold.linesKept hleave,
    hsent, hacted.beside.besideStacks⟩

theorem expired_iff {st : List Demand} {k : DemandKey} :
    expired st k = true ↔ ∃ d ∈ st, d.key = k ∧ d.expiry = some 0 := by
  simp [expired, due]

theorem exec_demandExpiry {s : State} {n : Nat} {src : AgentSource} {tag : Nat} (hn : signOk n = true)
    (htag : tagOk tag = true) : exec (.demandExpiry n src tag) s = .next
      (if expired (s.stack n) (.agent src tag) then removeDemands s n (· == .agent src tag) .expiry else s) := by
  show onObject (signOk n && tagOk tag) _ = _
  rw [hn, htag]
  rfl

theorem demandExpiry_row {s : State} {n : Nat} {src : AgentSource} {tag : Nat} (ht : TablesOk s) (hn : signOk n = true)
    (htag : tagOk tag = true) (h : ∃ d ∈ s.stack n, d.key = .agent src tag ∧ d.expiry = some 0) :
    ∃ t, exec (.demandExpiry n src tag) s = .next t ∧ DemandsLeave (· == .agent src tag) [n] s t ∧
      NoticeIf (winnerKey (t.stack n) ≠ winnerKey (s.stack n)) n
        (.sign (t.out n).output .expiry (winnerKey (t.stack n))) s t ∧ BesideStacks s t := by
  have hlt : n < 24 := by simpa [signOk] using hn
  obtain ⟨hone, harrival⟩ := removeDemands_acted (· == DemandKey.agent src tag) .expiry ht hlt
  have hacted := (stacksActed_nil (s := s) (fun m => withoutKeys (· == .agent src tag) (s.stack m))
    (fun m => winnerKey (withoutKeys (· == .agent src tag) (s.stack m)) != winnerKey (s.stack m)) .expiry ht).next
      List.not_mem_nil hone
  refine ⟨_, ?_, demandsLeave_of_acted hacted harrival hacted.linesKept, ?_, hone.beside.besideStacks⟩
  · rw [exec_demandExpiry hn htag, if_pos (expired_iff.2 h)]
  · have htold := hone.told
    rw [← hone.here, if_congr bne_iff_ne rfl rfl] at htold
    exact htold.noticeIf

/-- Settles O39. -/
theorem removalsTakeDemands : Obligations.RemovalsTakeDemands := by
  refine fun s ht => ⟨fun p first count tag hacc => withdraw_row ht hacc, fun p hacc => withdrawAll_row ht hacc,
    fun src => linkLossRemoval_row src ht, fun n src tag hn htag => ?_⟩
  split
  · next h => exact demandExpiry_row ht hn htag h
  · next h => rw [exec_demandExpiry hn htag, if_neg fun he => h (expired_iff.1 he)]

/-! ## POST (R140, R141) -/

/-- The demand as the k-th placement of one event stores it. -/
def arrivedAt (s : State) (d : Demand) (k : Nat) : Demand :=
  { d with arrival := s.arbiter.arrival + BitVec.ofNat 32 k }

theorem spanSigns_succ (first k : Nat) : spanSigns first (k + 1) = spanSigns first k ++ [first + k] := by
  rw [spanSigns, List.range_succ, List.map_append]
  rfl

/-- Placements at the signs of a span, in ascending order. -/
theorem foldl_placeDemand_acted {s : State} (d : Demand) (cause : SignCause) (ht : TablesOk s) (first : Nat) :
    ∀ count, (∀ n ∈ spanSigns first count, n < 24) →
      StacksActed s ((spanSigns first count).foldl (fun t n => placeDemand t n d cause) s) (spanSigns first count)
          (fun n => placed (s.stack n) (arrivedAt s d (n - first)))
          (fun n => placementWins (s.stack n) (arrivedAt s d (n - first))) cause ∧
        ((spanSigns first count).foldl (fun t n => placeDemand t n d cause) s).arbiter.arrival =
          s.arbiter.arrival + BitVec.ofNat 32 count := by
  intro count
  induction count with
  | zero => exact fun _ => ⟨stacksActed_nil _ _ cause ht, (BitVec.add_zero _).symm⟩
  | succ k ih =>
    intro hlt
    rw [spanSigns_succ] at hlt ⊢
    obtain ⟨hacted, harrival⟩ := ih fun n hn => hlt n (List.mem_append_left _ hn)
    have hnew : first + k ∉ spanSigns first k := fun hm => by
      obtain ⟨j, hj, he⟩ := List.mem_map.1 hm
      have := List.mem_range.1 hj
      omega
    rw [List.foldl_concat]
    generalize (spanSigns first k).foldl (fun t n => placeDemand t n d cause) s = u at hacted harrival
    obtain ⟨hone, hnext⟩ := placeDemand_acted d cause hacted.tables (hlt (first + k) (by simp))
    have harriving : arriving u d = arrivedAt s d (first + k - first) := by
      rw [arriving, harrival, arrivedAt, Nat.add_sub_cancel_left]
    rw [harriving, (hacted.other _ hnew).1] at hone
    refine ⟨hacted.next hnew hone, hnext.trans ?_⟩
    rw [harrival, BitVec.add_assoc]
    exact congrArg (s.arbiter.arrival + ·) (by apply BitVec.eq_of_toNat_eq; simp)

theorem postFull_iff {s : State} {k : DemandKey} {signs : List Nat} : postFull s k signs = true ↔
    ∃ n ∈ signs, hasKey k (s.stack n) = false ∧ 4 ≤ agentCount (s.stack n) := by
  simp [postFull]

theorem runPost_full {s : State} {p : Nat} {a : PostArgs}
    (h : postFull s (postDemand (agentOf s p) a).key (spanSigns a.first a.count) = true) :
    runPost s p a = .mk .full [] s := by
  unfold runPost
  dsimp only
  rw [if_pos h]
  rfl

theorem runPost_done {s : State} {p : Nat} {a : PostArgs}
    (h : ¬postFull s (postDemand (agentOf s p) a).key (spanSigns a.first a.count) = true) :
    runPost s p a = .mk .done [byteOf (min a.severity (maxSeverity (agentOf s p))),
      byteOf (a.count - countKey s (postDemand (agentOf s p) a).key (spanSigns a.first a.count)),
      byteOf (countKey s (postDemand (agentOf s p) a).key (spanSigns a.first a.count))]
      ((spanSigns a.first a.count).foldl (fun t n => placeDemand t n (postDemand (agentOf s p) a) .post) s) := by
  unfold runPost
  dsimp only
  rw [if_neg h]
  rfl

/-- The signs of a span without the key. -/
theorem count_without_key (s : State) (k : DemandKey) (first count : Nat) :
    ((spanSigns first count).filter fun n => !hasKey k (s.stack n)).length =
      count - countKey s k (spanSigns first count) := by
  have hlen : (spanSigns first count).length = count := by rw [spanSigns, List.length_map, List.length_range]
  have hsplit := List.length_eq_length_filter_add (l := spanSigns first count) fun n => hasKey k (s.stack n)
  rw [hlen] at hsplit
  rw [countKey]
  omega

/-- What POST leaves where it is not refused. -/
theorem post_row {s : State} {p : Nat} {a : PostArgs} (ht : TablesOk s) (hacc : Accepted postCommand s p a)
    (h : ¬postFull s (.agent (agentOf s p) a.tag) (spanSigns a.first a.count) = true) :
    let key := DemandKey.agent (agentOf s p) a.tag
    let signs := (List.range a.count).map (a.first + ·)
    let severity := min a.severity (maxSeverity (agentOf s p))
    ∃ t, exec (.post p) s = .next t ∧
      (∀ k < a.count,
        { key, slot := a.slot, severity, flash := a.flash, expiry := a.expiry,
          arrival := s.arbiter.arrival + BitVec.ofNat 32 k } ∈ t.stack (a.first + k)) ∧
      (∀ n ∈ signs,
        withoutKeys (· == key) (t.stack n) = withoutKeys (· == key) (s.stack n) ∧
        ((t.stack n).filter (fun d => d.key == key)).length = 1 ∧
        WinnerFollowed (winnerKey (t.stack n) = some key ∨ winnerKey (s.stack n) = some key) s t n) ∧
      (∀ n, n ∉ signs → t.stack n = s.stack n ∧ t.out n = s.out n) ∧
      t.arbiter.arrival = s.arbiter.arrival + BitVec.ofNat 32 a.count ∧
      Replied p .post .done [byteOf severity,
        byteOf (signs.filter fun n => !hasKey key (s.stack n)).length,
        byteOf (signs.filter fun n => hasKey key (s.stack n)).length] s t ∧
      NoticesSent ((signs.filter fun n =>
          winnerKey (t.stack n) = some key ∨ winnerKey (s.stack n) = some key).map fun n =>
        (n, .sign (t.out n).output .post (winnerKey (t.stack n)))) s t ∧
      LinesKept s t ∧ BesideStacks s t := by
  intro key signs severity
  obtain ⟨body, -, hparse⟩ := accepted_parsed hacc
  have hspan : spanOk a.first a.count = true := (argsPost_some hparse).1
  have hrun : postCommand.run (popFrame s p) p a = _ := runPost_done (s := popFrame s p) (p := p) h
  obtain ⟨hacted, harrival⟩ := foldl_placeDemand_acted (s := popFrame s p) (postDemand (agentOf s p) a) .post
    ((leaves_popFrame s p).tablesOk ht) a.first a.count (spanSigns_lt hspan)
  have hagent : agentOf (popFrame s p) p = agentOf s p := rfl
  rw [hagent] at hrun
  generalize (spanSigns a.first a.count).foldl
    (fun t n => placeDemand t n (postDemand (agentOf s p) a) .post) (popFrame s p) = u at hrun hacted harrival
  obtain ⟨hnotices, hreply, hlines⟩ := outcome_told hrun hacted.told (accepted_lt ht hacc)
  have hbeside := besideStacks_outcome hrun hacted.beside
  have heq := outcome_eq hrun
  have hstack : ∀ n ∈ signs, u.stack n = placed (s.stack n) (arrivedAt s (postDemand (agentOf s p) a) (n - a.first)) :=
    fun n hn => (hacted.here n hn).1
  have hwon : ∀ n ∈ signs, placementWins (s.stack n) (arrivedAt s (postDemand (agentOf s p) a) (n - a.first)) = true ↔
      winnerKey (u.stack n) = some key ∨ winnerKey (s.stack n) = some key := fun n hn => by
    rw [hstack n hn, placementWins, Bool.or_eq_true, beq_iff_eq, beq_iff_eq]
    rfl
  refine ⟨_, exec_accepted rfl (fun _ _ => ⟨rfl, rfl, rfl⟩) hacc, ?_⟩
  rw [heq] at hnotices hreply hlines hbeside ⊢
  refine ⟨fun k hk => ?_, fun n hn => ⟨?_, ?_, ?_⟩, hacted.other, harrival, ?_, ?_, hlines, hbeside⟩
  · have hmem := mem_placed (s.stack (a.first + k))
      (arrivedAt s (postDemand (agentOf s p) a) (a.first + k - a.first))
    rw [← hstack _ (List.mem_map.2 ⟨k, List.mem_range.2 hk, rfl⟩), Nat.add_sub_cancel_left] at hmem
    exact hmem
  · have hkept := withoutKeys_placed (s.stack n) (arrivedAt s (postDemand (agentOf s p) a) (n - a.first))
    rw [← hstack n hn] at hkept
    exact hkept
  · have honce := placed_key_once (s.stack n) (arrivedAt s (postDemand (agentOf s p) a) (n - a.first))
    rw [← hstack n hn] at honce
    exact honce
  · have hfollowed := (hacted.here n hn).2
    have hwon' := hwon n hn
    have hiff : (placementWins ((popFrame s p).stack n)
        (arrivedAt (popFrame s p) (postDemand (agentOf s p) a) (n - a.first)) = true) =
        (winnerKey (u.stack n) = some key ∨ winnerKey (s.stack n) = some key) := propext hwon'
    rw [hiff] at hfollowed
    exact winnerFollowed_congr (s := popFrame s p) (t := u) rfl rfl rfl (composeFace_owe u p _ n) hfollowed
  · have hcount := count_without_key s key a.first a.count
    have hcount' : (signs.filter fun n => !hasKey key (s.stack n)).length =
      a.count - countKey s key (spanSigns a.first a.count) := hcount
    rw [hcount']
    exact hreply
  · have hfilter : ((spanSigns a.first a.count).filter fun n => placementWins ((popFrame s p).stack n)
        (arrivedAt (popFrame s p) (postDemand (agentOf s p) a) (n - a.first))) =
        signs.filter fun n => winnerKey (u.stack n) = some key ∨ winnerKey (s.stack n) = some key :=
      List.filter_congr fun n hn => Bool.eq_iff_iff.2 ((hwon n hn).trans (decide_eq_true_iff).symm)
    rw [hfilter] at hnotices
    exact hnotices

/-- Settles O38. -/
theorem postPlacesOnSpan : Obligations.PostPlacesOnSpan := by
  intro s p a ht hacc key signs severity
  split
  · next h =>
    have hfull : postFull s (postDemand (agentOf s p) a).key (spanSigns a.first a.count) = true := postFull_iff.2 h
    rw [exec_accepted rfl (fun _ _ => ⟨rfl, rfl, rfl⟩) hacc,
      outcome_answered (runPost_full (s := popFrame s p) (p := p) hfull)]
    rfl
  · next h => exact post_row ht hacc fun hf => h (postFull_iff.1 hf)

end Sys2Proof.Machine

/-! PROOF. Retargets, beacon stations and the flash timing (R12, R152, R153). -/

namespace Sys2Proof.Machine

set_option Elab.async false

open Sys2Proof

/-! ## Retargets (R12, R152) -/

theorem leavesBlank_iff {s : State} {old new : Option Nat} {x : Nat} : leavesBlank s old new = some x ↔
    old = some x ∧ new ≠ some x ∧ (∀ m ∈ List.range 24, s.target m ≠ some x) ∧ s.panelUp x = true := by
  unfold leavesBlank
  cases old with
  | none => simp
  | some y =>
    dsimp only
    have htargetless : targetless s y = true ↔ ∀ m ∈ List.range 24, s.target m ≠ some y := by
      simp [targetless]
    constructor
    · intro h
      split at h
      · next hc =>
        obtain rfl := Option.some.inj h
        simp only [Bool.and_eq_true, bne_iff_ne] at hc
        obtain ⟨⟨hnew, hless⟩, hup⟩ := hc
        exact ⟨rfl, hnew, htargetless.1 hless, hup⟩
      · cases h
    · rintro ⟨hyx, hnew, hless, hup⟩
      obtain rfl := Option.some.inj hyx
      rw [if_pos]
      simp only [Bool.and_eq_true, bne_iff_ne]
      exact ⟨⟨hnew, htargetless.2 hless⟩, hup⟩

/-- A station that a retarget leaves without its sign is marked (R12). -/
def markedForBlank (t : State) : Option Nat → State
  | some y => t.setStation y { t.station y with blankOwed := true }
  | none => t

/-- The record that a retarget leaves of its sign (R152). -/
def retargeted (o : SignOut) (new : Option Nat) : SignOut :=
  { o with target := new, carried := false, mismatches := 0, output := if new.isSome then .pending else .dark }

theorem retargetAt_eq (s : State) (n : Nat) (old new : Option Nat) : retargetAt s n old new =
    signNotice (markedForBlank ((s.setOut n (retargeted (s.out n) new)).recarry (Carriage.ofFace n))
      (leavesBlank s old new)) n .retarget := by
  unfold retargetAt
  dsimp only
  cases leavesBlank s old new <;> rfl

/-- What a mark changes: one station record. -/
theorem markedForBlank_beside (t : State) (y : Option Nat) : (markedForBlank t y).arbiter = t.arbiter ∧
    (markedForBlank t y).ports = t.ports ∧ (markedForBlank t y).clock = t.clock ∧
    (markedForBlank t y).field = { t.field with stations := (markedForBlank t y).field.stations } := by
  cases y <;> exact ⟨rfl, rfl, rfl, rfl⟩

theorem markedForBlank_station {t : State} {y : Option Nat} (hlen : t.field.stations.length = 32) {x : Nat} (hx : x < 32) :
    (markedForBlank t y).station x = if y = some x then { t.station x with blankOwed := true } else t.station x := by
  cases y with
  | none => rfl
  | some z =>
    unfold markedForBlank
    by_cases hzx : z = x
    · subst hzx
      rw [if_pos rfl, State.setStation_station_self t z _ (by omega)]
    · rw [if_neg fun h => hzx (Option.some.inj h), State.setStation_station_ne t z x _ fun h => hzx h.symm]

theorem exec_retarget {s : State} {n : Nat} {old new : Option Nat} (hn : signOk n = true)
    (hold : optOk stationOk old = true) (hnew : optOk stationOk new = true) :
    exec (.retarget n old new) s = .next (retargetAt (s.taking (.retarget n old new)) n old new) := by
  show onObject (signOk n && optOk stationOk old && optOk stationOk new) _ = _
  rw [hn, hold, hnew]
  rfl

theorem retarget_row {s : State} {n : Nat} {old new : Option Nat} (ht : TablesOk s) (hn : signOk n = true)
    (hold : optOk stationOk old = true) (hnew : optOk stationOk new = true) :
    ∃ t, exec (.retarget n old new) s = .next t ∧
      t.out n = { s.out n with
        target := new, carried := false, mismatches := 0,
        output := if new.isSome then .pending else .dark } ∧
      (∀ m, m ≠ n → t.out m = s.out m) ∧ t.arbiter.demands = s.arbiter.demands ∧
      t.arbiter.arrival = s.arbiter.arrival ∧
      (∀ x < 32, t.station x =
        if old = some x ∧ new ≠ some x ∧ (∀ m ∈ List.range 24, s.target m ≠ some x) ∧
            s.panelUp x = true then
          { s.station x with blankOwed := true }
        else s.station x) ∧
      t.field = { s.field with stations := t.field.stations, exchange := t.field.exchange } ∧
      OneNotice none n (.sign (if new.isSome then .pending else .dark) .retarget
        (winnerKey (s.stack n))) s t ∧
      LinesKept s t ∧ ChangesOnly [.ports, .arbiter, .field, .deliveries] s t := by
  have hlt : n < 24 := by simpa [signOk] using hn
  have htables : TablesOk (s.taking (.retarget n old new)) := ht
  have hexec := exec_retarget (s := s) hn hold hnew
  have honly := event_changesOnly (bs := [.ports, .arbiter, .field, .deliveries])
    [.notices, .outputs, .field, .deliveries] hexec rfl nofun rfl
  have hmoved : SignMoved (s.taking (.retarget n old new)) _ n :=
    (signMoved_setOut (s.taking (.retarget n old new)) n (retargeted (s.out n) new)).trans
      (signMoved_recarry _ n (Carriage.ofFace n))
  have hout := (recarry_out ((s.taking (.retarget n old new)).setOut n (retargeted (s.out n) new)) (Carriage.ofFace n) n).trans
    (setOut_out (retargeted (s.out n) new) htables hlt)
  have hports := State.recarry_ports ((s.taking (.retarget n old new)).setOut n (retargeted (s.out n) new)) (Carriage.ofFace n)
  have hlen : (((s.taking (.retarget n old new)).setOut n (retargeted (s.out n) new)).recarry
      (Carriage.ofFace n)).field.stations.length = 32 := by
    rw [hmoved.beside.field.field]
    exact tables_stations ht
  have hstations : ∀ x, (((s.taking (.retarget n old new)).setOut n (retargeted (s.out n) new)).recarry
      (Carriage.ofFace n)).station x = s.station x := fun x => by
    rw [State.station, hmoved.beside.field.field]
    rfl
  rw [retargetAt_eq] at hexec honly
  have htaken : (s.taking (.retarget n old new)).out n = s.out n := rfl
  rw [htaken] at hexec honly
  generalize ((s.taking (.retarget n old new)).setOut n (retargeted (s.out n) new)).recarry (Carriage.ofFace n) = u at *
  obtain ⟨harb, hports', hclock, hfield⟩ := markedForBlank_beside u (leavesBlank (s.taking (.retarget n old new)) old new)
  have hstation := fun x (hx : x < 32) => markedForBlank_station (t := u)
    (y := leavesBlank (s.taking (.retarget n old new)) old new) hlen hx
  generalize markedForBlank u (leavesBlank (s.taking (.retarget n old new)) old new) = v at *
  have hvout : ∀ m, v.out m = u.out m := fun m => by rw [State.out, harb]; rfl
  have hvstack : ∀ m, v.stack m = s.stack m := fun m => by
    rw [State.stack, harb, ← State.stack, hmoved.stack]; rfl
  have htold : Told [(n, .sign (if new.isSome then .pending else .dark) .retarget (winnerKey (s.stack n)))] s
      (signNotice v n .retarget) := by
    have hnotice := told_notify v n (.sign (v.out n).output .retarget (winnerKey (v.stack n)))
    have hbefore := hnotice.before (s := s) (hports'.trans hports)
      (congrArg Clock.seconds (hclock.trans hmoved.beside.clock))
    rw [signNotice]
    rw [hvout, hout, hvstack] at hbefore ⊢
    exact hbefore
  refine ⟨_, hexec, (hvout n).trans hout, fun m hm => (hvout m).trans (hmoved.other m hm), ?_, ?_, fun x hx => ?_, ?_,
    htold.oneNotice, htold.linesKept, honly⟩
  · exact (congrArg Arbiter.demands harb).trans hmoved.demands
  · exact (congrArg Arbiter.arrival harb).trans hmoved.arrival
  · refine (hstation x hx).trans ?_
    rw [hstations]
    exact if_congr leavesBlank_iff rfl rfl
  · have hexchange : v.field.exchange = u.field.exchange := by rw [hfield]
    rw [hmoved.beside.field.field, ← hexchange] at hfield
    exact hfield

/-! ## Beacon stations (R153) -/

theorem signOfBeacon_lt {img : Image} {x n : Nat} (h : signOfBeacon img x = some n) : n < 24 :=
  List.mem_range.1 (List.mem_of_find?_eq_some h)

theorem exec_beaconStationEntry {s : State} {x n : Nat} (hx : stationOk x = true) (hb : signOfBeacon s.image x = some n) :
    exec (.beaconStationEntry x) s = .next ((s.taking (.beaconStationEntry x)).setOut n
      (litLamps s.image s.arbiter.elapsed { s.out n with beaconDriven := true, beaconOwed := true })) := by
  have hb' : signOfBeacon (s.taking (.beaconStationEntry x)).image x = some n := hb
  show onObject (stationOk x) (beaconEntered _ x) = _
  rw [hx, onObject_true, beaconEntered, hb']
  rfl

theorem exec_beaconStationDeparture {s : State} {x n : Nat} (hx : stationOk x = true)
    (hb : signOfBeacon s.image x = some n) :
    exec (.beaconStationDeparture x) s = .next ((s.taking (.beaconStationDeparture x)).setOut n
      { s.out n with beaconDriven := false, beaconOwed := false, lamp1 := false, lamp2 := false }) := by
  have hb' : signOfBeacon (s.taking (.beaconStationDeparture x)).image x = some n := hb
  show onObject (stationOk x) (beaconLeft _ x) = _
  rw [hx, onObject_true, beaconLeft, hb']
  rfl

theorem beaconEntry_row {s : State} {x n : Nat} (ht : TablesOk s) (hx : stationOk x = true)
    (hb : signOfBeacon s.image x = some n) :
    ∃ t, exec (.beaconStationEntry x) s = .next t ∧
      (t.out n).beaconDriven = true ∧ (t.out n).beaconOwed = true ∧
      (t.out n).beacon = (s.out n).beacon ∧ (t.out n).face = (s.out n).face ∧
      (t.out n).output = (s.out n).output ∧
      ((t.out n).lamp1, (t.out n).lamp2) = lampsOf s.image s.arbiter.elapsed (s.out n).beacon ∧
      (∀ m, m ≠ n → t.out m = s.out m) ∧ ChangesOnly [.arbiter, .deliveries] s t := by
  have hexec := exec_beaconStationEntry hx hb
  have hset := setOut_out (s := s.taking (.beaconStationEntry x)) (n := n)
    (litLamps s.image s.arbiter.elapsed { s.out n with beaconDriven := true, beaconOwed := true }) ht (signOfBeacon_lt hb)
  refine ⟨_, hexec, ?_⟩
  rw [hset]
  exact ⟨rfl, rfl, rfl, rfl, rfl, rfl, fun m hm => State.setOut_out_ne _ n m _ hm,
    event_changesOnly [.outputs, .deliveries] hexec rfl nofun rfl⟩

theorem beaconDeparture_row {s : State} {x n : Nat} (ht : TablesOk s) (hx : stationOk x = true)
    (hb : signOfBeacon s.image x = some n) :
    ∃ t, exec (.beaconStationDeparture x) s = .next t ∧
      t.out n = { s.out n with
        beaconDriven := false, beaconOwed := false, lamp1 := false, lamp2 := false } ∧
      (∀ m, m ≠ n → t.out m = s.out m) ∧ ChangesOnly [.arbiter, .deliveries] s t := by
  have hexec := exec_beaconStationDeparture hx hb
  have hset := setOut_out (s := s.taking (.beaconStationDeparture x)) (n := n)
    { s.out n with beaconDriven := false, beaconOwed := false, lamp1 := false, lamp2 := false } ht (signOfBeacon_lt hb)
  exact ⟨_, hexec, hset, fun m hm => State.setOut_out_ne _ n m _ hm,
    event_changesOnly [.outputs, .deliveries] hexec rfl nofun rfl⟩

/-! ## The flash timing (R153) -/

theorem imageAccepted_flash {img : Image} (h : imageAccepted img = true) :
    400 ≤ img.flashPeriod ∧ img.flashOnTime ≤ 90 := by
  simp only [imageAccepted, timingsOk, within, Bool.and_eq_true, decide_eq_true_eq] at h
  tauto

/-- Every boundary of the flash timing lies within the period. -/
theorem nextBoundary_lt {img : Image} (h : imageAccepted img = true) (e : Nat) : nextBoundary img e < img.flashPeriod := by
  obtain ⟨hperiod, hon⟩ := imageAccepted_flash h
  have hhalf : flashHalf img < img.flashPeriod := Nat.div_lt_self (by omega) (by omega)
  have hontime : flashOn img < img.flashPeriod := by
    rw [flashOn, Nat.div_lt_iff_lt_mul (by omega)]
    exact Nat.mul_lt_mul_of_pos_left (by omega) (by omega)
  unfold nextBoundary
  dsimp only
  split
  · omega
  · split <;> omega

theorem litLamps_rest (img : Image) (e : Nat) (o : SignOut) : litLamps img e o =
    { o with lamp1 := (litLamps img e o).lamp1, lamp2 := (litLamps img e o).lamp2 } := rfl

theorem litLamps_lamps (img : Image) (e : Nat) (o : SignOut) :
    if o.beaconDriven then
      match o.beacon with
      | .dark => (litLamps img e o).lamp1 = false ∧ (litLamps img e o).lamp2 = false
      | .alternate => ((litLamps img e o).lamp1 = true ↔ e < img.flashPeriod / 2) ∧
        (litLamps img e o).lamp2 = !(litLamps img e o).lamp1
      | .unison => ((litLamps img e o).lamp1 = true ↔ e < img.flashPeriod * img.flashOnTime / 100) ∧
        (litLamps img e o).lamp2 = (litLamps img e o).lamp1
    else (litLamps img e o).lamp1 = false ∧ (litLamps img e o).lamp2 = false := by
  unfold litLamps
  by_cases hd : o.beaconDriven = true
  · rw [if_pos hd]
    dsimp only
    rw [if_pos hd]
    cases o.beacon with
    | dark => exact ⟨rfl, rfl⟩
    | alternate => exact ⟨decide_eq_true_iff, rfl⟩
    | unison => exact ⟨decide_eq_true_iff, rfl⟩
  · rw [if_neg hd]
    dsimp only
    rw [if_neg hd]
    exact ⟨rfl, rfl⟩

theorem flashTiming_row {s : State} (ht : TablesOk s) :
    ∃ t, exec .beaconFlashTiming s = .next t ∧ t.arbiter.elapsed < s.image.flashPeriod ∧
      t.arbiter.elapsed =
        (let half := s.image.flashPeriod / 2
         let on := s.image.flashPeriod * s.image.flashOnTime / 100
         if s.arbiter.elapsed < min half on then min half on
         else if s.arbiter.elapsed < max half on then max half on else 0) ∧
      t.arbiter.demands = s.arbiter.demands ∧
      (∀ n < 24, t.out n = { s.out n with lamp1 := (t.out n).lamp1, lamp2 := (t.out n).lamp2 } ∧
        if (s.out n).beaconDriven then
          match (s.out n).beacon with
          | .dark => (t.out n).lamp1 = false ∧ (t.out n).lamp2 = false
          | .alternate => ((t.out n).lamp1 = true ↔ t.arbiter.elapsed < s.image.flashPeriod / 2) ∧
            (t.out n).lamp2 = !(t.out n).lamp1
          | .unison => ((t.out n).lamp1 = true ↔
              t.arbiter.elapsed < s.image.flashPeriod * s.image.flashOnTime / 100) ∧
            (t.out n).lamp2 = (t.out n).lamp1
        else (t.out n).lamp1 = false ∧ (t.out n).lamp2 = false) ∧
      ChangesOnly [.arbiter] s t := by
  have hexec : exec .beaconFlashTiming s = .next { s with arbiter := { s.arbiter with
      elapsed := nextBoundary s.image s.arbiter.elapsed,
      outputs := s.arbiter.outputs.map (litLamps s.image (nextBoundary s.image s.arbiter.elapsed)) } } := rfl
  have hout : ∀ n, (s.arbiter.outputs.map (litLamps s.image (nextBoundary s.image s.arbiter.elapsed))).getD n default =
      litLamps s.image (nextBoundary s.image s.arbiter.elapsed) (s.out n) := fun n =>
    getD_map_default _ _ _ _ _ rfl
  refine ⟨_, hexec, nextBoundary_lt ht.1 _, rfl, rfl, fun n _ => ?_,
    event_changesOnly [.outputs] hexec rfl nofun rfl⟩
  have hself := hout n
  rw [State.out]
  dsimp only
  rw [hself]
  exact ⟨rfl, litLamps_lamps ..⟩

/-- Settles O42. -/
theorem retargetsAndBeaconsDriveSigns : Obligations.RetargetsAndBeaconsDriveSigns := by
  refine fun s ht => ⟨fun n old new hn hold hnew => retarget_row ht hn hold hnew, fun x n hx hb => ⟨?_, ?_⟩,
    flashTiming_row ht⟩
  · exact beaconEntry_row ht hx hb
  · exact beaconDeparture_row ht hx hb

end Sys2Proof.Machine

/-! PROOF. The field bus and the stations: what a grant of the bus changes, what an entry to a state and a fault
leave (R162, R165, R166); settles O47. -/

namespace Sys2Proof.Machine

set_option Elab.async false

open Sys2Proof

/-! ## The field bus (R165) -/

/-- What ending, abandoning or granting an exchange can change: a request of identification that is sent on the
freed bus, the exchange in progress, and what remains of the round. -/
structure BusMoved (s t : State) : Prop where
  station : ∀ y, t.station y = { s.station y with identDue := (t.station y).identDue }
  sent : ∀ y, (s.station y).state ≠ .identifying → t.station y = s.station y
  field : t.field =
    { s.field with stations := t.field.stations, exchange := t.field.exchange, round := t.field.round }
  beside : t = { s with field := t.field }

theorem BusMoved.refl (s : State) : BusMoved s s := ⟨fun _ => rfl, fun _ _ => rfl, rfl, rfl⟩

theorem BusMoved.trans {s t u : State} (h : BusMoved s t) (k : BusMoved t u) : BusMoved s u where
  station y := by rw [k.station y, h.station y]
  sent y hy := by
    have hstate : (t.station y).state = (s.station y).state := by rw [h.station y]
    exact (k.sent y (hstate ▸ hy)).trans (h.sent y hy)
  field := k.field.trans (by rw [h.field])
  beside := k.beside.trans (by rw [h.beside])

theorem identWaiting_some {s : State} {x : Nat} (h : identWaiting s = some x) :
    x < 32 ∧ (s.station x).identDue = true ∧ (s.station x).state = .identifying := by
  have hx := List.find?_some h
  rw [Bool.and_eq_true, beq_iff_eq] at hx
  exact ⟨List.mem_range.1 (List.mem_of_find?_eq_some h), hx⟩

theorem busMoved_setStation {s : State} {x : Nat} {v : Station} (hx : (s.station x).state = .identifying)
    (hv : v = { s.station x with identDue := v.identDue }) : BusMoved s (s.setStation x v) := by
  refine ⟨fun y => ?_, fun y hy => ?_, rfl, rfl⟩
  · rcases setStation_station_cases s x v y with h | ⟨rfl, h⟩
    · rw [h]
    · rw [h]
      exact hv
  · rcases setStation_station_cases s x v y with h | ⟨rfl, h⟩
    · exact h
    · exact absurd hx hy

theorem busMoved_exchange (s : State) (e : Option BusExchange) (l : List Nat) :
    BusMoved s (s.setField { s.field with exchange := e, round := l }) :=
  ⟨fun _ => rfl, fun _ _ => rfl, rfl, rfl⟩

theorem busMoved_grantBus (s : State) : BusMoved s (grantBus s) := by
  unfold grantBus
  split
  · exact .refl s
  · split
    · next x hx => exact (busMoved_setStation (identWaiting_some hx).2.2 rfl).trans (busMoved_exchange _ _ _)
    · exact busMoved_exchange s _ _

theorem busMoved_endBus (s : State) : BusMoved s (endBus s) :=
  (busMoved_exchange s none s.field.round).trans (busMoved_grantBus _)

theorem busMoved_abandonBus (s : State) (x : Nat) : BusMoved s (abandonBus s x) := by
  unfold abandonBus
  split
  · split
    · exact busMoved_exchange s none s.field.round
    · exact .refl s
  · exact .refl s

section
variable {s t u : State} {x : Nat} (h : BusMoved t u)
include h

theorem BusMoved.told {l : List (Nat × NoticeBody)} (k : Told l s t) : Told l s u :=
  k.after (congrArg State.ports h.beside :)

theorem BusMoved.deliveries : u.deliveries = t.deliveries := (congrArg State.deliveries h.beside :)

theorem BusMoved.othersStand (k : OthersStand s t x) : OthersStand s u x := fun y hy => by
  rw [h.station y, k y hy]

theorem BusMoved.stationIn {st : StationState} {cause : Option StationFault} (k : StationIn t x st cause) :
    StationIn u x st cause := by
  unfold StationIn
  rw [h.station x]
  exact k

end

theorem OthersStand.trans {s t u : State} {x : Nat} (h : OthersStand s t x) (k : OthersStand t u x) :
    OthersStand s u x := fun y hy => by rw [k y hy, h y hy]

theorem othersStand_of_eq {s t : State} {x : Nat} (h : ∀ y, y ≠ x → t.station y = s.station y) :
    OthersStand s t x := fun y hy => by rw [h y hy]

theorem othersStand_setStation (s : State) (x : Nat) (r : Station) : OthersStand s (s.setStation x r) x :=
  othersStand_of_eq fun _ hy => State.setStation_station_ne _ _ _ _ hy

/-- A station takes part in an exchange of the round while it is in service. -/
theorem roundExchange_some {s : State} {x : Nat} {e : BusExchange} (h : roundExchange s x = some e) :
    e.station = x ∧ (s.station x).state ≠ .faulted := by
  unfold roundExchange at h
  split at h <;> cases h <;> next hst => exact ⟨rfl, by rw [hst]; simp⟩

theorem nextOfRound_some {s : State} {l : List Nat} {e : BusExchange} (h : (nextOfRound s l).1 = some e) :
    (s.station e.station).state ≠ .faulted := by
  induction l with
  | nil => cases h
  | cons x xs ih =>
    rw [nextOfRound] at h
    split at h
    · next f hf =>
      cases h
      obtain ⟨hx, hst⟩ := roundExchange_some hf
      rwa [hx]
    · exact ih h

/-- The bus is granted to no faulted station. -/
theorem grantBus_exchange {s : State} {e : BusExchange} (h : (grantBus s).field.exchange = some e) :
    s.field.exchange = some e ∨ (s.station e.station).state ≠ .faulted := by
  unfold grantBus at h
  split at h
  · exact .inl h
  · split at h
    · next x hx =>
      refine .inr ?_
      rw [← Option.some.inj h, (identWaiting_some hx).2.2]
      simp
    · exact .inr (nextOfRound_some h)

theorem abandonBus_exchange {s : State} {x : Nat} {e : BusExchange} (h : (abandonBus s x).field.exchange = some e) :
    e.station ≠ x := by
  unfold abandonBus at h
  split at h
  · next f hf =>
    split at h
    · cases h
    · next hne =>
      rw [hf] at h
      exact Option.some.inj h ▸ hne
  · next hnone => rw [hnone] at h; cases h

/-! ## Entries to a state, and faults (R162, R163, R166) -/

section
variable {s : State} {x : Nat}

theorem setStation_self (hx : x < s.field.stations.length) (r : Station) : (s.setStation x r).station x = r :=
  State.setStation_station_self _ _ _ hx

theorem enterStation_station (hx : x < s.field.stations.length) (r : Station) (st : StationState)
    (cause : StationCause) : (enterStation s x r st cause).station x = r.entering st := setStation_self hx _

theorem enterStation_others (r : Station) (st : StationState) (cause : StationCause) :
    ∀ y, y ≠ x → (enterStation s x r st cause).station y = s.station y := fun y hy =>
  State.setStation_station_ne s x y (r.entering st) hy

theorem told_enterStation (hx : x < s.field.stations.length) (r : Station) (st : StationState)
    (cause : StationCause) : Told [(x, .station st cause r.cause)] s (enterStation s x r st cause) := by
  have hself := setStation_self hx (r.entering st)
  have htold : Told [(x, .station ((s.setStation x (r.entering st)).station x).state cause
      ((s.setStation x (r.entering st)).station x).cause)] (s.setStation x (r.entering st))
      (stationNotice (s.setStation x (r.entering st)) x cause) := told_notify ..
  rw [hself] at htold
  exact htold.before rfl rfl

end

theorem powerFirst_station {s : State} {y : Nat} (hy : (s.station y).state ≠ .absent) :
    (powerFirst s).station y = s.station y := by
  unfold powerFirst
  split
  · next x xs _ =>
    split
    · next habs => exact enterStation_others _ _ _ y fun h => hy (h ▸ beq_iff_eq.1 habs)
    · rfl
  · rfl

theorem powerFirst_deliveries (s : State) : (powerFirst s).deliveries = s.deliveries := by
  unfold powerFirst
  split
  · split <;> rfl
  · rfl

/-- Where a drop leaves POWERING, another drop enters it only from ABSENT (R163). -/
theorem leftPowering_station {s : State} {y : Nat} (hy : (s.station y).state ≠ .absent) (was : StationState)
    (x : Nat) : (leftPowering was s x).station y = s.station y := by
  unfold leftPowering advanceSeq
  split
  · split
    · next z zs _ =>
      split
      · exact powerFirst_station (s := s.setField { s.field with startSeq := zs }) hy
      · rfl
    · rfl
  · rfl

theorem leftPowering_deliveries (was : StationState) (s : State) (x : Nat) :
    (leftPowering was s x).deliveries = s.deliveries := by
  unfold leftPowering advanceSeq
  split
  · split
    · split
      · exact powerFirst_deliveries _
      · rfl
    · rfl
  · rfl

theorem departing_active {s : State} {x : Nat} (h : (s.station x).state = .active) :
    departing s x = departureEvents s x := if_pos (beq_iff_eq.2 h)

theorem departing_other {s : State} {x : Nat} (h : (s.station x).state ≠ .active) : departing s x = [] :=
  if_neg fun hb => h (beq_iff_eq.1 hb)

/-- What a station's entry to FAULTED leaves (R166). -/
structure StationFaulted (s t : State) (x : Nat) (f : StationFault) (cause : StationCause) : Prop where
  record : t.station x = (outOfService (s.station x) (some f)).entering .faulted
  deliveries : t.deliveries = s.deliveries ++ departing s x
  exchange : ∀ e, t.field.exchange = some e → e.station ≠ x
  others : (s.station x).state ≠ .powering → OthersStand s t x
  told : (s.station x).state ≠ .powering → Told [(x, .station .faulted cause (some f))] s t

theorem StationFaulted.stationIn {s t : State} {x : Nat} {f : StationFault} {cause : StationCause}
    (h : StationFaulted s t x f cause) : StationIn t x .faulted (some f) := by
  unfold StationIn
  rw [h.record]
  exact ⟨rfl, rfl, rfl, rfl⟩

theorem faultStation_faulted {s : State} {x : Nat} (hx : x < s.field.stations.length) (f : StationFault)
    (cause : StationCause) : StationFaulted s (faultStation s x f cause) x f cause := by
  have hself := enterStation_station hx (outOfService (s.station x) (some f)) .faulted cause
  have hothers := enterStation_others (s := s) (x := x) (outOfService (s.station x) (some f)) .faulted cause
  have htold := told_enterStation hx (outOfService (s.station x) (some f)) .faulted cause
  have hdeliv : (enterStation s x (outOfService (s.station x) (some f)) .faulted cause).deliveries =
    s.deliveries := rfl
  unfold faultStation
  dsimp only
  generalize enterStation s x (outOfService (s.station x) (some f)) .faulted cause = t at hself hothers htold hdeliv
  have hleft := leftPowering_station (s := t.deliver (departing s x)) (y := x)
    (by rw [show (t.deliver (departing s x)).station x = _ from hself]; simp [Station.entering]) (s.station x).state x
  have hbus := (busMoved_abandonBus (leftPowering (s.station x).state (t.deliver (departing s x)) x) x).trans
    (busMoved_grantBus _)
  have hrecord : (grantBus (abandonBus (leftPowering (s.station x).state (t.deliver (departing s x)) x) x)).station x =
      (outOfService (s.station x) (some f)).entering .faulted := by
    rw [hbus.sent x (by rw [hleft, show (t.deliver (departing s x)).station x = _ from hself]; simp [Station.entering]),
      hleft]
    exact hself
  have hstay : (s.station x).state ≠ .powering →
      leftPowering (s.station x).state (t.deliver (departing s x)) x = t.deliver (departing s x) :=
    fun h => if_neg fun hb => h (beq_iff_eq.1 hb)
  refine ⟨hrecord, ?_, fun e he => ?_, fun h => ?_, fun h => ?_⟩
  · rw [hbus.deliveries, leftPowering_deliveries]
    exact congrArg (· ++ departing s x) hdeliv
  · rcases grantBus_exchange he with hkept | hst
    · exact abandonBus_exchange hkept
    · intro hex
      have hsame := (busMoved_grantBus (abandonBus (leftPowering (s.station x).state (t.deliver (departing s x)) x)
        x)).station x
      rw [hrecord] at hsame
      rw [hex] at hst
      exact hst (congrArg Station.state hsame).symm
  · rw [hstay h] at hbus ⊢
    exact hbus.othersStand (othersStand_of_eq hothers)
  · rw [hstay h] at hbus ⊢
    exact hbus.told (htold.after rfl)

/-! ## Identification (R164) -/

/-- A request that falls due on the free bus, with no lower one waiting, is sent. -/
theorem grantBus_ident {s : State} {x : Nat} (hx : x < 32) (hfree : s.field.exchange = none)
    (hdue : (s.station x).identDue = true) (hst : (s.station x).state = .identifying)
    (hlow : ∀ y < x, (s.station y).identDue = false) :
    (grantBus s).field.exchange = some { station := x, kind := .ident, carries := .nothing } := by
  have hwait : identWaiting s = some x := List.find?_range_eq_some.2
    ⟨by rw [hdue, hst]; rfl, List.mem_range.2 hx, fun y hy => by rw [hlow y hy]; rfl⟩
  unfold grantBus
  rw [hfree, hwait]
  rfl

theorem exec_identRequest {s : State} {x : Nat} (hx : stationOk x = true)
    (hst : (s.station x).state = .identifying) :
    exec (.identRequest x) s = .next (grantBus (s.setStation x { s.station x with identDue := true })) := by
  show onObject (stationOk x) _ = _
  rw [hx, if_pos (beq_iff_eq.2 hst)]
  rfl

theorem exec_identTimeout {s : State} {x : Nat} (hx : stationOk x = true)
    (hst : (s.station x).state = .identifying) :
    exec (.identTimeout x) s = .next (faultStation s x .identTimeout .identTimeout) := by
  show onObject (stationOk x) _ = _
  rw [hx, if_pos (beq_iff_eq.2 hst)]
  rfl

theorem exec_ident_idle {s : State} {x : Nat} (hx : stationOk x = true)
    (hst : (s.station x).state ≠ .identifying) :
    exec (.identRequest x) s = .next s ∧ exec (.identTimeout x) s = .next s := by
  have hno : ¬((s.station x).state == .identifying) = true := fun h => hst (beq_iff_eq.1 h)
  constructor
  · show onObject (stationOk x) _ = _
    rw [hx, if_neg hno]
    rfl
  · show onObject (stationOk x) _ = _
    rw [hx, if_neg hno]
    rfl

theorem exec_identificationReport {s : State} {x : Nat} (m : ModuleReport) (serial : Word)
    (hx : stationOk x = true) : exec (.identificationReport x m serial) s =
      .next (if onBus s x .ident && (s.station x).state == .identifying then identify s x m serial else s) := by
  show onObject (stationOk x) _ = _
  rw [hx]
  rfl

theorem exec_overCurrentTrip {s : State} {x : Nat} (hx : stationOk x = true) : exec (.overCurrentTrip x) s =
    .next (if (s.station x).power then faultStation s x .powerFault .powerFault else s) := by
  show onObject (stationOk x) _ = _
  rw [hx]
  rfl

theorem exec_faceCheckFailure {s : State} {x : Nat} (hx : stationOk x = true) : exec (.faceCheckFailure x) s =
    .next (if (s.station x).state == .active then
      faultStation (s.taking (.faceCheckFailure x)) x .faceCheck .faceCheck else s.taking (.faceCheckFailure x)) := by
  show onObject (stationOk x) _ = _
  rw [hx]
  rfl

/-- An event that delivers nothing changes no delivery. -/
theorem changesOnly_undelivered {bs : List Block} {s t : State} (hd : t.deliveries = s.deliveries)
    (h : ChangesOnly (bs ++ [.deliveries]) s t) : ChangesOnly bs s t := fun b hb => by
  by_cases hbd : b = .deliveries
  · subst hbd
    exact hd
  · exact h b (by simp [hb, hbd])

section
variable {s : State} {x : Nat} (ht : TablesOk s) (hok : StationsOk s) (hx : stationOk x = true)
include ht hx

theorem stations_lt : x < s.field.stations.length := by
  rw [tables_stations ht]
  simpa [stationOk] using hx

theorem identRequest_row (hst : (s.station x).state = .identifying) :
    ∃ t, exec (.identRequest x) s = .next t ∧
      (s.field.exchange = none → (∀ y < x, (s.station y).identDue = false) →
        t.field.exchange = some { station := x, kind := .ident, carries := .nothing }) ∧
      (∀ e, s.field.exchange = some e → t.field.exchange = some e ∧
        t.station x = { s.station x with identDue := true }) ∧
      OthersStand s t x ∧ ChangesOnly [.field] s t := by
  have hexec := exec_identRequest hx hst
  have hself := setStation_self (stations_lt ht hx) { s.station x with identDue := true }
  have hothers := othersStand_setStation s x { s.station x with identDue := true }
  have hother : ∀ y, y ≠ x → (s.setStation x { s.station x with identDue := true }).station y = s.station y :=
    fun _ hy => State.setStation_station_ne _ _ _ _ hy
  have hbus := busMoved_grantBus (s.setStation x { s.station x with identDue := true })
  refine ⟨_, hexec, fun hfree hlow => ?_, fun e he => ?_, hbus.othersStand hothers,
    event_changesOnly [.stations, .field] hexec rfl nofun rfl⟩
  · refine grantBus_ident (by simpa [stationOk] using hx) hfree (by rw [hself]) (by rw [hself]; exact hst)
      fun y hy => ?_
    rw [hother y (Nat.ne_of_lt hy)]
    exact hlow y hy
  · have hstay : grantBus (s.setStation x { s.station x with identDue := true }) =
        s.setStation x { s.station x with identDue := true } := by
      have hex : (s.setStation x { s.station x with identDue := true }).field.exchange = some e := he
      unfold grantBus
      rw [hex]
    rw [hstay]
    exact ⟨he, hself⟩

theorem identTimeout_row (hst : (s.station x).state = .identifying) :
    ∃ t, exec (.identTimeout x) s = .next t ∧ StationIn t x .faulted (some .identTimeout) ∧
      OneNotice none x (.station .faulted .identTimeout (some .identTimeout)) s t ∧
      OthersStand s t x ∧ ChangesOnly [.ports, .field] s t := by
  have hexec := exec_identTimeout hx hst
  have hfault := faultStation_faulted (stations_lt ht hx) .identTimeout .identTimeout
  have hnp : (s.station x).state ≠ .powering := by rw [hst]; simp
  have hdeliv : (faultStation s x .identTimeout .identTimeout).deliveries = s.deliveries := by
    rw [hfault.deliveries, departing_other (by rw [hst]; simp), List.append_nil]
  exact ⟨_, hexec, hfault.stationIn, (hfault.told hnp).oneNotice, hfault.others hnp,
    changesOnly_undelivered hdeliv (event_changesOnly [.notices, .stations, .field, .deliveries] hexec rfl nofun rfl)⟩

include hok in
theorem identified_row (m : ModuleReport) (serial : Word) (hbus : onBus s x .ident = true)
    (hst : (s.station x).state = .identifying) (htype : moduleType m = imageType s.image x) :
    ∃ t, exec (.identificationReport x m serial) s = .next t ∧
      (t.station x).serial = some serial ∧ OthersStand s t x ∧
      ChangesOnly [.ports, .field, .deliveries] s t ∧
      StationIn t x .active none ∧ (t.station x).missed = 0 ∧
      t.deliveries = s.deliveries ++ entryEvents s x m ∧
      OneNotice none x (.station .active .identified none) s t := by
  have hlen := stations_lt ht hx
  have hcause := station_cause_none (hok.1 x (by simpa [stationOk] using hx)).1 (by rw [hst]; simp)
  have hexec := exec_identificationReport m serial hx (s := s)
  rw [if_pos (by rw [hbus, hst]; rfl), identify, if_pos htype] at hexec
  have hself := enterStation_station hlen { s.station x with
    serial := some serial, identDue := false, missed := 0, blankOwed := false } .active .identified
  have hothers := enterStation_others (s := s) (x := x) { s.station x with
    serial := some serial, identDue := false, missed := 0, blankOwed := false } .active .identified
  have htold := told_enterStation hlen { s.station x with
    serial := some serial, identDue := false, missed := 0, blankOwed := false } .active .identified
  have hdeliv : (enterStation s x { s.station x with serial := some serial, identDue := false, missed := 0, blankOwed := false }
    .active .identified).deliveries = s.deliveries := rfl
  have hchanges := event_changesOnly (bs := [.ports, .field, .deliveries]) [.notices, .stations, .field, .deliveries]
    hexec rfl nofun rfl
  refine ⟨_, hexec, ?_⟩
  dsimp only at hexec hself hothers htold hdeliv hchanges ⊢
  generalize enterStation s x _ _ _ = u at hself hothers htold hdeliv hchanges ⊢
  have hend := busMoved_endBus (u.deliver (entryEvents s x m))
  have hrecord := (hend.sent x (by rw [show (u.deliver _).station x = _ from hself]; simp [Station.entering])).trans hself
  rw [hcause] at htold
  refine ⟨congrArg Station.serial hrecord, hend.othersStand (othersStand_of_eq hothers), hchanges, ?_,
    congrArg Station.missed hrecord, hend.deliveries.trans (congrArg (· ++ entryEvents s x m) hdeliv),
    (hend.told (htold.after rfl)).oneNotice⟩
  unfold StationIn
  rw [hrecord]
  exact ⟨rfl, hcause, rfl, rfl⟩

theorem mistyped_row (m : ModuleReport) (serial : Word) (hbus : onBus s x .ident = true)
    (hst : (s.station x).state = .identifying) (htype : moduleType m ≠ imageType s.image x) :
    ∃ t, exec (.identificationReport x m serial) s = .next t ∧
      (t.station x).serial = some serial ∧ OthersStand s t x ∧
      ChangesOnly [.ports, .field, .deliveries] s t ∧
      StationIn t x .faulted (some .typeMismatch) ∧ t.deliveries = s.deliveries ∧
      OneNotice none x (.station .faulted .typeMismatch (some .typeMismatch)) s t := by
  have hlen := stations_lt ht hx
  have hexec := exec_identificationReport m serial hx (s := s)
  rw [if_pos (by rw [hbus, hst]; rfl), identify, if_neg htype] at hexec
  have hself := setStation_self hlen { s.station x with
    serial := some serial, identDue := false, missed := 0, blankOwed := false }
  have hothers := othersStand_setStation s x { s.station x with
    serial := some serial, identDue := false, missed := 0, blankOwed := false }
  have hfault := faultStation_faulted (s := s.setStation x { s.station x with
    serial := some serial, identDue := false, missed := 0, blankOwed := false }) (x := x) (by simpa using hlen)
    .typeMismatch .typeMismatch
  have hst' : ((s.setStation x { s.station x with
      serial := some serial, identDue := false, missed := 0, blankOwed := false }).station x).state = .identifying := by
    rw [hself]
    exact hst
  refine ⟨_, hexec, ?_, OthersStand.trans hothers (hfault.others (by rw [hst']; simp)),
    event_changesOnly [.notices, .stations, .field, .deliveries] hexec rfl nofun rfl, hfault.stationIn,
    ?_, ((hfault.told (by rw [hst']; simp)).before rfl rfl).oneNotice⟩
  · rw [hfault.record, hself]
    rfl
  · rw [hfault.deliveries, departing_other (by rw [hst']; simp), List.append_nil]
    rfl

theorem overCurrent_row (hpower : (s.station x).power = true) :
    ∃ t, exec (.overCurrentTrip x) s = .next t ∧ StationIn t x .faulted (some .powerFault) ∧
      t.deliveries = s.deliveries ++
        (if (s.station x).state = .active then departureEvents s x else []) ∧
      (∀ e, t.field.exchange = some e → e.station ≠ x) ∧
      ((s.station x).state ≠ .powering → OthersStand s t x) ∧ LinesKept s t ∧
      ChangesOnly [.ports, .field, .deliveries] s t := by
  have hexec := exec_overCurrentTrip hx (s := s)
  rw [if_pos hpower] at hexec
  have hfault := faultStation_faulted (stations_lt ht hx) .powerFault .powerFault
  refine ⟨_, hexec, hfault.stationIn, ?_, hfault.exchange, hfault.others,
    linesKept_of_leaves (leaves_faultStation s x .powerFault .powerFault),
    event_changesOnly [.notices, .stations, .field, .deliveries] hexec rfl nofun rfl⟩
  rw [hfault.deliveries]
  split
  · next hst => rw [departing_active hst]
  · next hst => rw [departing_other hst]

theorem faceCheck_row (hst : (s.station x).state = .active) :
    ∃ t, exec (.faceCheckFailure x) s = .next t ∧ StationIn t x .faulted (some .faceCheck) ∧
      t.deliveries = (s.taking (.faceCheckFailure x)).deliveries ++ departureEvents s x ∧
      OneNotice none x (.station .faulted .faceCheck (some .faceCheck)) s t ∧
      OthersStand s t x ∧ ChangesOnly [.ports, .field, .deliveries] s t := by
  have hexec := exec_faceCheckFailure hx (s := s)
  rw [if_pos (beq_iff_eq.2 hst)] at hexec
  have hfault := faultStation_faulted (s := s.taking (.faceCheckFailure x)) (stations_lt ht hx) .faceCheck .faceCheck
  have hst' : ((s.taking (.faceCheckFailure x)).station x).state = .active := hst
  have hnp : ((s.taking (.faceCheckFailure x)).station x).state ≠ .powering := by rw [hst']; simp
  refine ⟨_, hexec, hfault.stationIn, ?_, ((hfault.told hnp).before rfl rfl).oneNotice, hfault.others hnp,
    event_changesOnly [.notices, .stations, .field, .deliveries] hexec rfl nofun rfl⟩
  rw [hfault.deliveries, departing_active hst']
  rfl

end

/-- Settles O47. -/
theorem stationsIdentifyOrFault : Obligations.StationsIdentifyOrFault := by
  refine fun s x ht hok hx => ⟨?_, fun m serial => ?_, ?_, ?_⟩
  · split
    · next hst => exact ⟨identRequest_row ht hx hst, identTimeout_row ht hx hst⟩
    · next hst => exact exec_ident_idle hx hst
  · split
    · next h =>
      obtain ⟨hbus, hst⟩ := h
      by_cases htype : moduleType m = imageType s.image x
      · simp only [if_pos htype]
        exact identified_row ht hok hx m serial hbus hst htype
      · simp only [if_neg htype]
        exact mistyped_row ht hx m serial hbus hst htype
    · next h =>
      rw [exec_identificationReport m serial hx, if_neg (by simpa using h)]
  · split
    · next hpower => exact overCurrent_row ht hx hpower
    · next hpower => rw [exec_overCurrentTrip hx, if_neg hpower]
  · split
    · next hst => exact faceCheck_row ht hx hst
    · next hst => rw [exec_faceCheckFailure hx, if_neg fun h => hst (beq_iff_eq.1 h)]

end Sys2Proof.Machine

/-! PROOF. Polls: what the bus carries, poll rounds and their answers (R71, R150, R152, R153, R165); settles O48. -/

namespace Sys2Proof.Machine

set_option Elab.async false

open Sys2Proof

/-! ## What a poll carries (R165) -/

theorem imageAccepted_gateStations {img : Image} (h : imageAccepted img = true) :
    (img.gates.filterMap (·.station)).Nodup := by
  simp only [imageAccepted, gatesOk, Bool.and_eq_true] at h
  obtain ⟨⟨⟨⟨⟨⟨⟨⟨⟨-, ⟨-, hn⟩, -⟩, -⟩, -⟩, -⟩, -⟩, -⟩, -⟩, -⟩, -⟩ := h
  exact noRepeat_nodup hn

/-- A search of a range by a field that names `x` finds the one entry that has it. -/
theorem find?_range_of_unique {α : Type} [BEq α] [LawfulBEq α] {f : Nat → Option α} {n i : Nat} {x : α} (hi : i < n)
    (hx : f i = some x) (huniq : ∀ j < n, f j = some x → j = i) :
    (List.range n).find? (fun j => f j == some x) = some i := by
  refine List.find?_range_eq_some.2 ⟨by rw [hx]; exact beq_self_eq_true _, List.mem_range.2 hi, fun j hj => ?_⟩
  rw [Bool.not_eq_true', beq_eq_false_iff_ne]
  exact fun h => Nat.ne_of_lt hj (huniq j (hj.trans hi) h)

theorem find?_range_of_none {α : Type} [BEq α] [LawfulBEq α] {f : Nat → Option α} {n : Nat} {x : α}
    (hx : ∀ j < n, f j ≠ some x) : (List.range n).find? (fun j => f j == some x) = none :=
  List.find?_eq_none.2 fun j hj h => hx j (List.mem_range.1 hj) (beq_iff_eq.1 h)

theorem gateOfStation_of {img : Image} (h : imageAccepted img = true) {g x : Nat} (hg : g < 8)
    (hx : (imageGate img g).station = some x) : gateOfStation img x = some g :=
  find?_range_of_unique hg hx fun _ _ hj => filterMap_getD_inj rfl (imageAccepted_gateStations h) hj hx

theorem signOfBeacon_of {img : Image} (h : imageAccepted img = true) {n x : Nat} (hn : n < 24)
    (hx : (imageSign img n).beacon = some x) : signOfBeacon img x = some n :=
  find?_range_of_unique hn hx fun _ _ hj => filterMap_getD_inj rfl (imageAccepted_signs h).2 hj hx

theorem signOfTarget_of {s : State} {n x : Nat} (hn : n < 24) (hx : (s.out n).target = some x)
    (hlow : ∀ m < n, (s.out m).target ≠ some x) : signOfTarget s x = some n :=
  List.find?_range_eq_some.2 ⟨by rw [hx]; exact beq_self_eq_true _, List.mem_range.2 hn, fun m hm => by
    rw [Bool.not_eq_true', beq_eq_false_iff_ne]
    exact hlow m hm⟩

theorem gateCarriage_eq (s : State) (g : Nat) : gateCarriage s g =
    if (s.gate g).stopOwed then .stop g else if (s.gate g).driveOwed = none then .nothing else .drive g := by
  unfold gateCarriage
  cases (s.gate g).driveOwed with
  | none => rfl
  | some d => rfl

theorem pollCarries_carriageFor {s : State} (ht : TablesOk s) (x : Nat) : PollCarries s x (carriageFor s x) := by
  unfold PollCarries carriageFor
  cases imageType s.image x with
  | gate =>
    refine ⟨fun g hg hx => ?_, fun hno => ?_⟩
    · dsimp only
      rw [gateOfStation_of ht.1 hg hx]
      exact gateCarriage_eq s g
    · dsimp only
      rw [show gateOfStation s.image x = none from find?_range_of_none hno]
  | sign =>
    refine ⟨fun n hn hx hlow => ?_, fun hno => ?_⟩
    · dsimp only
      rw [signOfTarget_of hn hx hlow]
    · dsimp only
      rw [show signOfTarget s x = none from find?_range_of_none hno]
  | beacon =>
    refine ⟨fun n hn hx => ?_, fun hno => ?_⟩
    · dsimp only
      rw [signOfBeacon_of ht.1 hn hx]
    · dsimp only
      rw [show signOfBeacon s.image x = none from find?_range_of_none hno]
  | trip | unused => rfl

theorem quiesceCarriage_eq (img : Image) (x : Nat) : quiesceCarriage img x =
    if imageType img x = .sign then .blank else if imageType img x = .beacon then .darken else .nothing := by
  unfold quiesceCarriage
  cases imageType img x <;> rfl

/-! ## Poll rounds (R165) -/

/-- The exchange of a station in the round, by its state. -/
structure RoundExchange (s : State) (x : Nat) (e : BusExchange) : Prop where
  station : e.station = x
  kind : e.kind = if (s.station x).state = .quiescing then .quiesce else .poll
  active : (s.station x).state = .active → PollCarries s x e.carries
  lost : (s.station x).state = .lost → e.carries = .nothing
  quiescing : (s.station x).state = .quiescing → e.carries =
    if imageType s.image x = .sign then .blank else if imageType s.image x = .beacon then .darken else .nothing

theorem roundExchange_of_inRound {s : State} {x : Nat} (ht : TablesOk s) (hin : inRound (s.station x) = true) :
    ∃ e, roundExchange s x = some e ∧ RoundExchange s x e := by
  unfold roundExchange
  cases hst : (s.station x).state with
  | active =>
    exact ⟨_, rfl, rfl, by rw [hst]; rfl, fun _ => pollCarries_carriageFor ht x, fun h => by simp [hst] at h,
      fun h => by simp [hst] at h⟩
  | lost =>
    exact ⟨_, rfl, rfl, by rw [hst]; rfl, fun h => by simp [hst] at h, fun _ => rfl, fun h => by simp [hst] at h⟩
  | quiescing =>
    exact ⟨_, rfl, rfl, by rw [hst]; rfl, fun h => by simp [hst] at h, fun h => by simp [hst] at h,
      fun _ => quiesceCarriage_eq ..⟩
  | absent | powering | identifying | off | faulted => simp [inRound, hst] at hin

/-- The state of a poll round that has been counted, before the bus is granted. -/
def roundCounted (s : State) : State :=
  s.setField { s.field with
    stations := s.field.stations.map countLost,
    round := (List.range 32).filter fun x => inRound (s.station x),
    roundsDue := s.field.roundsDue - 1 }

theorem roundCounted_station (s : State) (x : Nat) : (roundCounted s).station x = countLost (s.station x) :=
  countLost_station s _ rfl x

/-- Counting changes no more of a record than the rounds a LOST station waits. -/
theorem countLost_rest (r : Station) : countLost r = { r with lostWait := (countLost r).lostWait } := by
  unfold countLost
  split <;> rfl

theorem countLost_lostWait {r : Station} (h : r.state = .lost) :
    (countLost r).lostWait = if r.lostWait ≤ 1 then 5 else r.lostWait - 1 := by
  unfold countLost
  rw [if_pos (beq_iff_eq.2 h)]

theorem roundCounted_identWaiting (s : State) : identWaiting (roundCounted s) = identWaiting s := by
  unfold identWaiting
  congr 1
  funext x
  rw [roundCounted_station, countLost_rest]

theorem roundCounted_roundExchange (s : State) (x : Nat) : roundExchange (roundCounted s) x = roundExchange s x := by
  have hrest := (roundCounted_station s x).trans (countLost_rest (s.station x))
  have hcarriage : carriageFor (roundCounted s) x = carriageFor s x := by
    unfold carriageFor
    rw [hrest]
    rfl
  unfold roundExchange
  rw [hcarriage, hrest]
  rfl

theorem grantBus_round {s : State} (hfree : s.field.exchange = none) (hident : identWaiting s = none) :
    (grantBus s).field.exchange = (nextOfRound s s.field.round).1 := by
  unfold grantBus
  rw [hfree, hident]
  rfl

/-- The first exchange of a round on the free bus is that of its lowest station. -/
theorem beginRound_exchange {s : State} {x : Nat} (ht : TablesOk s) (hfree : s.field.exchange = none)
    (hident : identWaiting s = none) (hx : (List.range 32).find? (fun y => inRound (s.station y)) = some x) :
    ∃ e, (beginRound s).field.exchange = some e ∧ RoundExchange s x e := by
  obtain ⟨e, hround, he⟩ := roundExchange_of_inRound ht (List.find?_some (p := fun y => inRound (s.station y)) hx)
  refine ⟨e, ?_, he⟩
  obtain ⟨rest, hrest⟩ : ∃ rest, (List.range 32).filter (fun y => inRound (s.station y)) = x :: rest := by
    rw [← List.head?_filter] at hx
    exact List.head?_eq_some_iff.1 hx
  have hex : (roundCounted s).field.exchange = none := hfree
  have hlist : (roundCounted s).field.round = x :: rest := hrest
  have hnext : (nextOfRound (roundCounted s) (x :: rest)).1 = some e := by
    rw [nextOfRound, roundCounted_roundExchange, hround]
  refine (grantBus_round hex ((roundCounted_identWaiting s).trans hident)).trans ?_
  rw [hlist]
  exact hnext

section
variable {s : State}

theorem exec_pollRound (s : State) :
    exec .pollRound s = .next (if s.field.roundsDue = 0 || roundRuns s then s else beginRound s) := rfl

theorem pollRound_row (ht : TablesOk s) (hdue : ¬(s.field.roundsDue = 0 ∨ roundRuns s = true)) :
    ∃ t, exec .pollRound s = .next t ∧ t.field.roundsDue = s.field.roundsDue - 1 ∧
      (∀ x, s.field.exchange = none → identWaiting s = none →
        (List.range 32).find? (fun y => inRound (s.station y)) = some x →
        ∃ e, t.field.exchange = some e ∧ e.station = x ∧
          e.kind = (if (s.station x).state = .quiescing then .quiesce else .poll) ∧
          ((s.station x).state = .active → PollCarries s x e.carries) ∧
          ((s.station x).state = .lost → e.carries = .nothing) ∧
          ((s.station x).state = .quiescing → e.carries =
            if imageType s.image x = .sign then .blank
            else if imageType s.image x = .beacon then .darken else .nothing)) ∧
      (∀ x < 32, (t.station x).state = (s.station x).state ∧
        ((s.station x).state = .lost → (t.station x).lostWait =
          if (s.station x).lostWait ≤ 1 then 5 else (s.station x).lostWait - 1)) ∧
      ChangesOnly [.field] s t := by
  have hexec := exec_pollRound s
  rw [if_neg (by simpa using hdue)] at hexec
  have hbus : BusMoved (roundCounted s) (beginRound s) := busMoved_grantBus _
  refine ⟨_, hexec, ?_, fun x hfree hident hx => ?_, fun x _ => ?_,
    event_changesOnly [.stations, .field] hexec rfl nofun rfl⟩
  · rw [hbus.field]
    rfl
  · obtain ⟨e, he, hstation, hkind, hactive, hlost, hquiescing⟩ := beginRound_exchange ht hfree hident hx
    exact ⟨e, he, hstation, hkind, hactive, hlost, hquiescing⟩
  · rw [hbus.station x, roundCounted_station]
    refine ⟨?_, fun hlost => countLost_lostWait hlost⟩
    rw [countLost_rest]

end

/-! ## What an answered exchange settles (R71, R150, R152, R153) -/

/-- What an exchange with station `x` that carried `c` leaves, once it is answered. -/
structure Carried (s t : State) (x : Nat) (c : Carriage) : Prop where
  station : t.station x =
    { s.station x with blankOwed := (s.station x).blankOwed && decide (c ≠ .blank) }
  others : ∀ y, y ≠ x → t.station y = s.station y
  gate : ∀ g < 8, t.gate g = { s.gate g with
    stopOwed := (s.gate g).stopOwed && decide (c ≠ .stop g),
    driveOwed := if c = .drive g then none else (s.gate g).driveOwed }
  out : ∀ n < 24, t.out n = { s.out n with
    carried := (s.out n).carried || decide (c = .face n),
    beaconOwed := (s.out n).beaconOwed && decide (c ≠ .pattern n),
    lamp1 := (t.out n).lamp1, lamp2 := (t.out n).lamp2 }
  lamps : c ≠ .darken → ∀ n < 24, (t.out n).lamp1 = (s.out n).lamp1 ∧ (t.out n).lamp2 = (s.out n).lamp2
  startLimit : t.gates.startLimit = s.gates.startLimit
  arbiter : t.arbiter = { s.arbiter with outputs := t.arbiter.outputs }
  ports : t.ports = s.ports
  deliveries : t.deliveries = s.deliveries

/-- An exchange that carried no order of a gate leaves every gate. -/
theorem gate_uncarried {c : Carriage} {g : Nat} (r : Gate) (hs : c ≠ .stop g) (hd : c ≠ .drive g) :
    r = { r with stopOwed := r.stopOwed && decide (c ≠ .stop g),
                 driveOwed := if c = .drive g then none else r.driveOwed } := by
  simp [hs, hd]

theorem out_uncarried {c : Carriage} {n : Nat} (o : SignOut) (hf : c ≠ .face n) (hp : c ≠ .pattern n) :
    o = { o with carried := o.carried || decide (c = .face n), beaconOwed := o.beaconOwed && decide (c ≠ .pattern n),
                 lamp1 := o.lamp1, lamp2 := o.lamp2 } := by
  simp [hf, hp]

theorem station_unblanked {c : Carriage} (r : Station) (h : c ≠ .blank) :
    r = { r with blankOwed := r.blankOwed && decide (c ≠ .blank) } := by
  simp [h]

theorem carried_gate {s : State} (ht : TablesOk s) (x : Nat) {c : Carriage} (g : Nat) {v : Gate}
    (hself : v = { s.gate g with stopOwed := (s.gate g).stopOwed && decide (c ≠ .stop g),
                                 driveOwed := if c = .drive g then none else (s.gate g).driveOwed })
    (hc : c = .stop g ∨ c = .drive g) : Carried s (s.setGate g v) x c where
  station := station_unblanked _ (by rcases hc with h | h <;> simp [h])
  others _ _ := rfl
  gate h hh := by
    by_cases hhg : h = g
    · subst hhg
      rw [State.setGate_gate_self _ _ _ (gates_sized ht (by simpa [gateOk] using hh))]
      exact hself
    · rw [State.setGate_gate_ne _ _ _ _ hhg]
      exact gate_uncarried _ (by rcases hc with h | h <;> simp [h, Ne.symm hhg])
        (by rcases hc with h | h <;> simp [h, Ne.symm hhg])
  out n _ := out_uncarried (s.out n) (by rcases hc with h | h <;> simp [h]) (by rcases hc with h | h <;> simp [h])
  lamps _ _ _ := ⟨rfl, rfl⟩
  startLimit := rfl
  arbiter := rfl
  ports := rfl
  deliveries := rfl

theorem carried_out {s : State} (ht : TablesOk s) (x : Nat) {c : Carriage} (n : Nat) {v : SignOut}
    (hself : v = { s.out n with carried := (s.out n).carried || decide (c = .face n),
                                beaconOwed := (s.out n).beaconOwed && decide (c ≠ .pattern n),
                                lamp1 := v.lamp1, lamp2 := v.lamp2 })
    (hlamps : c ≠ .darken → v.lamp1 = (s.out n).lamp1 ∧ v.lamp2 = (s.out n).lamp2)
    (hc : c = .face n ∨ c = .pattern n ∨ c = .darken) : Carried s (s.setOut n v) x c where
  station := station_unblanked _ (by rcases hc with h | h | h <;> simp [h])
  others _ _ := rfl
  gate g _ := gate_uncarried (s.gate g) (by rcases hc with h | h | h <;> simp [h])
    (by rcases hc with h | h | h <;> simp [h])
  out m hm := by
    by_cases hmn : m = n
    · subst hmn
      rw [setOut_out v ht hm]
      exact hself
    · rw [State.setOut_out_ne _ _ _ _ hmn]
      exact out_uncarried _ (by rcases hc with h | h | h <;> simp [h, Ne.symm hmn])
        (by rcases hc with h | h | h <;> simp [h, Ne.symm hmn])
  lamps hd m hm := by
    by_cases hmn : m = n
    · subst hmn
      rw [setOut_out v ht hm]
      exact hlamps hd
    · rw [State.setOut_out_ne _ _ _ _ hmn]
      exact ⟨rfl, rfl⟩
  startLimit := rfl
  arbiter := rfl
  ports := rfl
  deliveries := rfl

/-- What an exchange that carried neither an order nor a face nor a pattern leaves. -/
theorem carried_nothing (s : State) (x : Nat) {c : Carriage} (hc : c = .nothing ∨ c = .darken) : Carried s s x c where
  station := station_unblanked _ (by rcases hc with h | h <;> simp [h])
  others _ _ := rfl
  gate g _ := gate_uncarried (s.gate g) (by rcases hc with h | h <;> simp [h]) (by rcases hc with h | h <;> simp [h])
  out n _ := out_uncarried (s.out n) (by rcases hc with h | h <;> simp [h]) (by rcases hc with h | h <;> simp [h])
  lamps _ _ _ := ⟨rfl, rfl⟩
  startLimit := rfl
  arbiter := rfl
  ports := rfl
  deliveries := rfl

theorem carried_blank {s : State} {x : Nat} (hx : x < s.field.stations.length) :
    Carried s (carriedNow s x .blank) x .blank where
  station := by
    rw [show (carriedNow s x .blank).station x = { s.station x with blankOwed := false } from setStation_self hx _]
    simp
  others y hy := State.setStation_station_ne s x y { s.station x with blankOwed := false } hy
  gate g _ := gate_uncarried (s.gate g) nofun nofun
  out n _ := out_uncarried (s.out n) nofun nofun
  lamps _ _ _ := ⟨rfl, rfl⟩
  startLimit := rfl
  arbiter := rfl
  ports := rfl
  deliveries := rfl

theorem carried_carriedNow {s : State} {x : Nat} (ht : TablesOk s) (hx : x < s.field.stations.length) (c : Carriage) :
    Carried s (carriedNow s x c) x c := by
  cases c with
  | nothing => exact carried_nothing s x (.inl rfl)
  | stop g => exact carried_gate ht x g (by simp) (.inl rfl)
  | drive g => exact carried_gate ht x g (by simp) (.inr rfl)
  | face n => exact carried_out ht x n (by simp) (fun _ => ⟨rfl, rfl⟩) (.inl rfl)
  | blank => exact carried_blank hx
  | pattern n => exact carried_out ht x n (by simp) (fun _ => ⟨rfl, rfl⟩) (.inr (.inl rfl))
  | darken =>
    unfold carriedNow
    cases signOfBeacon s.image x with
    | none => exact carried_nothing s x (.inr rfl)
    | some n => exact carried_out ht x n (by simp) (fun h => absurd rfl h) (.inr (.inr rfl))

/-! ## Answers and missed polls (R165) -/

section
variable {s : State} {x : Nat}

theorem exec_pollAnswered (a : PollAnswer) (hx : stationOk x = true) (hbus : onBus s x .poll = true) :
    exec (.pollAnswered x a) s = .next (pollAnswer s x a) := by
  show onObject (stationOk x) _ = _
  rw [hx, if_pos hbus]
  rfl

theorem exec_pollUnanswered (hx : stationOk x = true) (hbus : onBus s x .poll = true)
    (hst : (s.station x).state = .active) : exec (.pollUnanswered x) s = .next (endBus (activeMisses s x)) := by
  show onObject (stationOk x) _ = _
  rw [hx, if_pos hbus, if_pos (beq_iff_eq.2 hst)]
  rfl

theorem exec_lostStationReply (hx : stationOk x = true) (hbus : onBus s x .poll = true)
    (hst : (s.station x).state = .lost) : exec (.lostStationReply x) s = .next (lostAnswers s x) := by
  show onObject (stationOk x) _ = _
  rw [hx, if_pos (by rw [hbus, hst]; rfl)]
  rfl

theorem pollAnswer_active {a : PollAnswer} (hst : (s.station x).state = .active)
    (htype : answerType a = imageType s.image x) : pollAnswer s x a = activeAnswers s x a := by
  unfold pollAnswer
  rw [hst]
  exact if_pos htype

theorem pollAnswer_lost {a : PollAnswer} (hst : (s.station x).state = .lost) :
    pollAnswer s x a = lostAnswers s x := by
  unfold pollAnswer
  rw [hst]

/-- A station that has come back or left is met by an end of its exchange, and its notice. -/
theorem endBus_entered {r : Station} {st : StationState} {cause : StationCause} (hx : x < s.field.stations.length)
    (hcause : r.cause = none) (l : List Instr) :
    let t := endBus ((enterStation s x r st cause).deliver l)
    StationIn t x st none ∧ t.station x = { r.entering st with identDue := (t.station x).identDue } ∧ t.deliveries = s.deliveries ++ l ∧ OthersStand s t x ∧
      Told [(x, .station st cause none)] s t := by
  have hself := enterStation_station hx r st cause
  have hothers := enterStation_others (s := s) (x := x) r st cause
  have htold := told_enterStation hx r st cause
  rw [hcause] at htold
  have hdeliv : (enterStation s x r st cause).deliveries = s.deliveries := rfl
  generalize enterStation s x r st cause = u at hself hothers htold hdeliv ⊢
  have hbus := busMoved_endBus (u.deliver l)
  have hin : StationIn (u.deliver l) x st none := by
    unfold StationIn
    rw [show (u.deliver l).station x = _ from hself]
    exact ⟨rfl, hcause, rfl, rfl⟩
  refine ⟨hbus.stationIn hin, ?_, hbus.deliveries.trans (congrArg (· ++ l) hdeliv),
    hbus.othersStand (othersStand_of_eq hothers), hbus.told (htold.after rfl)⟩
  rw [hbus.station x, show (u.deliver l).station x = _ from hself]

variable (ht : TablesOk s) (hx : stationOk x = true) (hbus : onBus s x .poll = true)
include ht hx hbus

theorem pollAnswered_row (a : PollAnswer) (hst : (s.station x).state = .active)
    (htype : answerType a = imageType s.image x) :
    ∃ t, exec (.pollAnswered x a) s = .next t ∧
      t.deliveries = s.deliveries ++ answerEvents s x a ∧
      t.station x = { s.station x with
        missed := 0, blankOwed := (s.station x).blankOwed && decide (carrying s ≠ .blank) } ∧
      (∀ g < 8, t.gate g = { s.gate g with
        stopOwed := (s.gate g).stopOwed && decide (carrying s ≠ .stop g),
        driveOwed := if carrying s = .drive g then none else (s.gate g).driveOwed }) ∧
      (∀ n < 24, t.out n = { s.out n with
        carried := (s.out n).carried || decide (carrying s = .face n),
        beaconOwed := (s.out n).beaconOwed && decide (carrying s ≠ .pattern n),
        lamp1 := (t.out n).lamp1, lamp2 := (t.out n).lamp2 } ∧
        (carrying s ≠ .darken → (t.out n).lamp1 = (s.out n).lamp1 ∧
          (t.out n).lamp2 = (s.out n).lamp2)) ∧
      t.gates.startLimit = s.gates.startLimit ∧
      t.arbiter = { s.arbiter with outputs := t.arbiter.outputs } ∧
      OthersStand s t x ∧ ChangesOnly [.gates, .arbiter, .field, .deliveries] s t := by
  have hlen := stations_lt ht hx
  have hexec := exec_pollAnswered a hx hbus
  rw [pollAnswer_active hst htype, activeAnswers] at hexec
  have hself := setStation_self hlen { s.station x with missed := 0 }
  have hothers : ∀ y, y ≠ x → (s.setStation x { s.station x with missed := 0 }).station y = s.station y :=
    fun y hy => State.setStation_station_ne _ _ _ _ hy
  have hc := carried_carriedNow (s := s.setStation x { s.station x with missed := 0 })
    ((leaves_setStation s x _).tablesOk ht) (by simpa using hlen) (carrying s)
  have hleaves := ((((leaves_setStation s x { s.station x with missed := 0 }).mono
    (l' := [.gates, .outputs, .stations, .field, .deliveries])).andThen
    (leaves_carriedNow _ x (carrying s))).andThen (leaves_deliver _ (answerEvents s x a))).andThen (leaves_endBus _)
  dsimp only at hexec
  generalize carriedNow (s.setStation x { s.station x with missed := 0 }) x (carrying s) = u at hexec hc hleaves
  have hend := busMoved_endBus (u.deliver (answerEvents s x a))
  have hgates : (endBus (u.deliver (answerEvents s x a))).gates = u.gates := (congrArg State.gates hend.beside :)
  have harbiter : (endBus (u.deliver (answerEvents s x a))).arbiter = u.arbiter :=
    (congrArg State.arbiter hend.beside :)
  have hstation : (u.deliver (answerEvents s x a)).station x = { s.station x with
      missed := 0, blankOwed := (s.station x).blankOwed && decide (carrying s ≠ .blank) } := by
    refine hc.station.trans ?_
    rw [hself]
  refine ⟨_, hexec, hend.deliveries.trans (congrArg (· ++ _) hc.deliveries),
    (hend.sent x (by rw [hstation, hst]; simp)).trans hstation, fun g hg => ?_, fun n hn => ?_,
    (congrArg (·.startLimit) hgates).trans hc.startLimit, ?_,
    hend.othersStand (othersStand_of_eq fun y hy => (hc.others y hy).trans (hothers y hy)),
    hleaves.changesOnly (by decide) (by decide)⟩
  · exact (congrArg (·.recs.getD g default) hgates).trans (hc.gate g hg)
  · have hout : (endBus (u.deliver (answerEvents s x a))).out n = u.out n :=
      congrArg (·.outputs.getD n default) harbiter
    rw [hout]
    exact ⟨hc.out n hn, fun hd => hc.lamps hd n hn⟩
  · rw [harbiter]
    exact hc.arbiter

theorem pollMissed_row (hst : (s.station x).state = .active) :
    ∃ t, exec (.pollUnanswered x) s = .next t ∧ OthersStand s t x ∧
      if (s.station x).missed < 2 then
        t.station x = { s.station x with missed := (s.station x).missed + 1 } ∧
        t.deliveries = s.deliveries ∧ ChangesOnly [.field] s t
      else
        StationIn t x .lost none ∧ (t.station x).missed = 0 ∧
        t.deliveries = s.deliveries ++ departureEvents s x ∧
        OneNotice none x (.station .lost .noReply none) s t ∧
        ChangesOnly [.ports, .field, .deliveries] s t := by
  have hlen := stations_lt ht hx
  have hexec := exec_pollUnanswered hx hbus hst
  by_cases hmiss : (s.station x).missed < 2
  · simp only [if_pos hmiss]
    rw [activeMisses, if_pos hmiss] at hexec
    have hself := setStation_self hlen { s.station x with missed := (s.station x).missed + 1 }
    have hend := busMoved_endBus (s.setStation x { s.station x with missed := (s.station x).missed + 1 })
    refine ⟨_, hexec, hend.othersStand (othersStand_setStation s x _),
      (hend.sent x (by rw [hself, hst]; simp)).trans hself, hend.deliveries, ?_⟩
    exact ((leaves_setStation s x _).andThen (leaves_endBus _)).changesOnly (by decide) (by decide)
  · simp only [if_neg hmiss]
    rw [activeMisses, if_neg hmiss] at hexec
    obtain ⟨hin, hrecord, hdeliv, hothers, htold⟩ := endBus_entered (s := s) (x := x)
      (r := { outOfService (s.station x) none with lostWait := 5 + s.field.roundsDue }) (st := .lost)
      (cause := .noReply) hlen rfl (departureEvents s x)
    exact ⟨_, hexec, hothers, hin, congrArg Station.missed hrecord, hdeliv, htold.oneNotice,
      event_changesOnly [.notices, .stations, .field, .deliveries] hexec rfl nofun rfl⟩

theorem lostAnswered_row (a : PollAnswer) (hst : (s.station x).state = .lost) (hok : StationsOk s) {c : Instr}
    (hc : c ∈ [Instr.lostStationReply x, Instr.pollAnswered x a]) :
    ∃ t, exec c s = .next t ∧ StationIn t x .identifying none ∧ OthersStand s t x ∧
      OneNotice none x (.station .identifying .reply none) s t ∧ ChangesOnly [.ports, .field] s t := by
  have hlen := stations_lt ht hx
  have hcause := station_cause_none (hok.1 x (by simpa [stationOk] using hx)).1 (by rw [hst]; simp)
  have hexec : exec c s = .next (lostAnswers s x) := by
    rcases List.mem_pair.1 hc with rfl | rfl
    · exact exec_lostStationReply hx hbus hst
    · exact (exec_pollAnswered a hx hbus).trans (congrArg _ (pollAnswer_lost hst))
  obtain ⟨hin, -, hdeliv, hothers, htold⟩ := endBus_entered (s := s) (x := x)
    (r := { s.station x with identDue := false, lostWait := 0 }) (st := .identifying) (cause := .reply) hlen hcause []
  have hsame : ∀ u : State, u.deliver [] = u := fun u => by rw [State.deliver, List.append_nil]
  rw [hsame] at hin hdeliv hothers htold
  exact ⟨_, hexec, hin, hothers, htold.oneNotice,
    changesOnly_undelivered (hdeliv.trans (List.append_nil _))
      ((leaves_lostAnswers s x).changesOnly (by decide) (by decide))⟩

end

/-- Settles O48. -/
theorem pollsCarryAndCountMisses : Obligations.PollsCarryAndCountMisses := by
  refine fun s ht hok => ⟨?_, fun x a hx hbus hst htype => pollAnswered_row ht hx hbus a hst htype,
    fun x hx hbus hst => pollMissed_row ht hx hbus hst,
    fun x a hx hbus hst c hc => lostAnswered_row ht hx hbus a hst hok hc⟩
  split
  · next hidle => rw [exec_pollRound, if_pos (by simpa using hidle)]
  · next hdue => exact pollRound_row ht hdue

end Sys2Proof.Machine

/-! PROOF. The operations of the owners of a station's role: they send no STATION notice (R86, R107), and what
they do is one whatever the ports hold. -/

namespace Sys2Proof.Machine

set_option Elab.async false

open Sys2Proof

/-! ## Ports that subscribe to STATION alone -/

/-- Every port that subscribes to STATION and to nothing else stands. -/
def Untold (s t : State) : Prop := ∀ q, (s.port q).subscription = 8#7 → t.port q = s.port q

theorem untold_refl (s : State) : Untold s s := fun _ _ => rfl

theorem Untold.trans {s t u : State} (h : Untold s t) (k : Untold t u) : Untold s u := fun q hq => by
  have ht := h q hq
  exact (k q (by rw [ht]; exact hq)).trans ht

theorem untold_of_ports {s t : State} (h : t.ports = s.ports) : Untold s t := fun q _ => by
  rw [State.port, h]
  rfl

/-- A notice of another kind does not reach such a port (R178). -/
theorem untold_notify (s : State) (i : Nat) {b : NoticeBody} (hb : b.bit ≠ 3) : Untold s (s.notify i b) := fun q hq => by
  have hbits : ∀ k < 7, k ≠ 3 → (8#7).getLsbD k = false := by decide
  have hlt : b.bit < 7 := by cases b <;> simp [NoticeBody.bit]
  have hbit := hbits b.bit hlt hb
  have hport := (told_notify s i b).port q
  rw [hport, withNotices_cons, withNotices_nil, hq]
  exact if_neg (by simp only [hbit]; simp)

theorem untold_foldl {α : Type} {f : State → α → State} (hf : ∀ s a, Untold s (f s a)) (l : List α) :
    ∀ s, Untold s (l.foldl f s) := by
  induction l with
  | nil => exact untold_refl
  | cons a l ih => exact fun s => (hf s a).trans (ih _)

theorem untold_ite {c : Prop} [Decidable c] {s t u : State} (ht : Untold s t) (hu : Untold s u) :
    Untold s (if c then t else u) := by
  split
  · exact ht
  · exact hu

theorem untold_gateEvent (s : State) (g : Nat) (m : GateMove) (cause : GateCause) : Untold s (gateEvent s g m cause) := by
  have hquiet : Untold s ((s.setGate g m.gate).recarry (m.replaces g)) :=
    untold_of_ports (State.recarry_ports (s.setGate g m.gate) (m.replaces g))
  refine untold_ite (hquiet.trans ?_) hquiet
  exact untold_notify (((s.setGate g m.gate).recarry (m.replaces g)).deliver (gateDelivery s g)) g
    (b := .gate m.gate.state cause m.gate.position m.gate.cause) nofun

theorem redecideSegment_ports (r : State × List Instr) (i : Nat) : (redecideSegment r i).1.ports = r.1.ports := by
  unfold redecideSegment
  dsimp only
  split <;> rfl

theorem redecide_ports (s : State) (z : Nat) : (redecide s z).ports = s.ports := by
  have hgen : ∀ (l : List Nat) (r : State × List Instr), (l.foldl redecideSegment r).1.ports = r.1.ports := by
    intro l
    induction l with
    | nil => exact fun _ => rfl
    | cons i l ih => exact fun r => (ih _).trans (redecideSegment_ports r i)
  exact hgen (threatened s z) (s, [])

theorem untold_zoneNotice (s : State) (z : Nat) (cause : ZoneCause) (l : Option (Nat × LineState)) (b : Option Nat) :
    Untold s (zoneNotice s z cause l b) := untold_notify s z nofun

theorem untold_tripZone (s : State) (z l : Nat) (st : LineState) : Untold s (tripZone s z l st) :=
  (untold_of_ports (redecide_ports ((s.setZone z { fire l (s.zone z) with state := .tripped }).deliver
    ((threatened s z).map fun i => Instr.detectorEvent i z)) z)).trans (untold_zoneNotice _ z .trip (some (l, st)) none)

theorem untold_handToZone (s : State) (z l : Nat) (st : LineState) : Untold s (handToZone s z l st) := by
  unfold handToZone
  refine untold_ite ?_ (untold_zoneNotice s z .line (some (l, st)) none)
  cases (s.zone z).state with
  | quiet | watch => exact untold_tripZone s z l st
  | tripped | work => exact untold_zoneNotice (s.setZone z (fire l (s.zone z))) z .line (some (l, st)) none
  | sweep => exact untold_zoneNotice s z .line (some (l, st)) none

theorem untold_lineEnters (s : State) (l : Nat) (st : LineState) : Untold s (lineEnters s l st) := by
  unfold lineEnters
  dsimp only
  split
  · exact untold_of_ports rfl
  · next z _ =>
    exact untold_handToZone (deriveDegraded (s.setLine l { state := st, pending := none, confirm := 0 }) z) z l st

theorem untold_lineReport (s : State) (l : Nat) (c : Condition) : Untold s (lineReport s l c) :=
  untold_ite (untold_ite (untold_lineEnters s l _) (untold_of_ports rfl)) (untold_of_ports rfl)

theorem untold_stationReport (s : State) (x : Nat) (r : TripReport) : Untold s (stationReport s x r) :=
  (untold_foldl (fun t l => untold_lineReport t l _) (stationLines s.image x) s).trans (untold_of_ports rfl)

theorem untold_tripLost (s : State) (x : Nat) : Untold s (tripLost s x) :=
  (untold_foldl (fun t l => untold_ite (untold_refl t) (untold_lineEnters t l _)) (stationLines s.image x) s).trans
    (untold_of_ports rfl)

theorem beaconEntered_ports (s : State) (x : Nat) : (beaconEntered s x).ports = s.ports := by
  unfold beaconEntered
  split <;> rfl

theorem beaconLeft_ports (s : State) (x : Nat) : (beaconLeft s x).ports = s.ports := by
  unfold beaconLeft
  split <;> rfl

theorem untold_takeRole (x : Nat) (s : State) (c : Instr) : Untold s (takeRole x s c) := by
  unfold takeRole
  split
  · exact untold_ite (untold_of_ports rfl) (untold_refl s)
  · exact untold_ite (untold_of_ports rfl) (untold_refl s)
  · exact untold_ite (untold_of_ports rfl) (untold_refl s)
  · exact untold_ite (untold_gateEvent (s.taking _) _ _ _) (untold_refl s)
  · exact untold_ite (untold_stationReport (s.taking _) x _) (untold_refl s)
  · exact untold_ite (untold_stationReport (s.taking _) x _) (untold_refl s)
  · exact untold_ite (untold_tripLost (s.taking _) x) (untold_refl s)
  · exact untold_ite (untold_of_ports (beaconEntered_ports (s.taking _) x)) (untold_refl s)
  · exact untold_ite (untold_of_ports (beaconLeft_ports (s.taking _) x)) (untold_refl s)
  · exact untold_refl s

theorem untold_roleTaken (s : State) (x : Nat) : Untold s (roleTaken s x) :=
  untold_foldl (untold_takeRole x) s.deliveries s

theorem untold_retargetAt (s : State) (n : Nat) (old new : Option Nat) : Untold s (retargetAt s n old new) := by
  rw [retargetAt_eq]
  have hports := (markedForBlank_beside ((s.setOut n (retargeted (s.out n) new)).recarry (Carriage.ofFace n))
    (leavesBlank s old new)).2.1
  exact (untold_of_ports (hports.trans (State.recarry_ports _ _))).trans (untold_notify _ n nofun)

/-- One waiting event at the sign arbiter: a retarget is taken, another waits on. -/
def retargetTaken (t : State) (c : Instr) : State :=
  match c with
  | .retarget n old new => retargetAt (t.taking c) n old new
  | _ => t

theorem takeRetargets_eq (s : State) : takeRetargets s = s.deliveries.foldl retargetTaken s := rfl

theorem untold_retargetTaken (t : State) (c : Instr) : Untold t (retargetTaken t c) := by
  unfold retargetTaken
  split
  · exact untold_retargetAt (t.taking _) _ _ _
  · exact untold_refl t

theorem untold_departAtOnce (s : State) (x : Nat) : Untold s (departAtOnce s x) := by
  unfold departAtOnce
  split
  · exact untold_foldl untold_retargetTaken (placementLeft s x).deliveries (placementLeft s x)
  · split
    · exact untold_gateEvent s _ _ _
    · exact untold_refl s
  · exact untold_tripLost s x
  · exact untold_of_ports (beaconLeft_ports s x)
  · exact untold_refl s

/-! ## States that differ at the ports -/

/-- Two states that agree on everything but the ports. -/
def Apart (s t : State) : Prop := ∃ ports, t = { s with ports := ports }

theorem apart_refl (s : State) : Apart s s := ⟨s.ports, rfl⟩

theorem apart_ite {c : Prop} [Decidable c] {s t s' t' : State} (h : Apart s s') (k : Apart t t') :
    Apart (if c then s else t) (if c then s' else t') := by
  split
  · exact h
  · exact k

section
variable {s t : State} (h : Apart s t)
include h

theorem Apart.taking (c : Instr) : Apart (s.taking c) (t.taking c) := by
  obtain ⟨ports, rfl⟩ := h
  exact ⟨ports, rfl⟩

theorem Apart.notify (i : Nat) (b : NoticeBody) : Apart (s.notify i b) (t.notify i b) := by
  obtain ⟨ports, rfl⟩ := h
  exact ⟨_, rfl⟩

theorem Apart.deliver (l : List Instr) : Apart (s.deliver l) (t.deliver l) := by
  obtain ⟨ports, rfl⟩ := h
  exact ⟨ports, rfl⟩

theorem Apart.setGate (g : Nat) (v : Gate) : Apart (s.setGate g v) (t.setGate g v) := by
  obtain ⟨ports, rfl⟩ := h
  exact ⟨ports, rfl⟩

theorem Apart.setZone (z : Nat) (v : Zone) : Apart (s.setZone z v) (t.setZone z v) := by
  obtain ⟨ports, rfl⟩ := h
  exact ⟨ports, rfl⟩

theorem Apart.setLine (l : Nat) (v : Line) : Apart (s.setLine l v) (t.setLine l v) := by
  obtain ⟨ports, rfl⟩ := h
  exact ⟨ports, rfl⟩

theorem Apart.recarry (p : Carriage → Bool) : Apart (s.recarry p) (t.recarry p) := by
  obtain ⟨ports, rfl⟩ := h
  unfold State.recarry
  show Apart (match s.field.exchange with
    | some e => _
    | none => _) (match s.field.exchange with
    | some e => _
    | none => _)
  cases s.field.exchange with
  | none => exact ⟨ports, rfl⟩
  | some e => exact apart_ite ⟨ports, rfl⟩ ⟨ports, rfl⟩

theorem Apart.gateEvent (g : Nat) (m : GateMove) (cause : GateCause) :
    Apart (Machine.gateEvent s g m cause) (Machine.gateEvent t g m cause) := by
  have hmoved := (h.setGate g m.gate).recarry (m.replaces g)
  have htold := (hmoved.deliver (gateDelivery s g)).notify g (.gate m.gate.state cause m.gate.position m.gate.cause)
  obtain ⟨ports, rfl⟩ := h
  exact apart_ite htold hmoved

theorem Apart.zoneNotice (z : Nat) (cause : ZoneCause) (l : Option (Nat × LineState)) (b : Option Nat) :
    Apart (Machine.zoneNotice s z cause l b) (Machine.zoneNotice t z cause l b) := by
  have htold := h.notify z (.zone (s.zone z).state cause (s.zone z).level (s.zone z).degraded l b)
  obtain ⟨ports, rfl⟩ := h
  exact htold

omit h in
theorem apart_redecideSegment {r r' : State × List Instr} (i : Nat) (hstate : Apart r.1 r'.1) (hlist : r'.2 = r.2) :
    Apart (redecideSegment r i).1 (redecideSegment r' i).1 ∧
      (redecideSegment r' i).2 = (redecideSegment r i).2 := by
  obtain ⟨s, l⟩ := r
  obtain ⟨t, l'⟩ := r'
  obtain ⟨ports, rfl⟩ := hstate
  obtain rfl : l' = l := hlist
  unfold redecideSegment
  dsimp only
  by_cases hd : s.shownZone i = decidingZone s i
  · rw [if_pos hd, if_pos (show State.shownZone { s with ports := ports } i = decidingZone { s with ports := ports } i from hd)]
    exact ⟨⟨ports, rfl⟩, rfl⟩
  · rw [if_neg hd, if_neg (show ¬State.shownZone { s with ports := ports } i = decidingZone { s with ports := ports } i from hd)]
    exact ⟨⟨ports, rfl⟩, rfl⟩

omit h in
theorem apart_foldl_redecideSegment (is : List Nat) : ∀ {r r' : State × List Instr}, Apart r.1 r'.1 → r'.2 = r.2 →
    Apart (is.foldl redecideSegment r).1 (is.foldl redecideSegment r').1 ∧
      (is.foldl redecideSegment r').2 = (is.foldl redecideSegment r).2 := by
  induction is with
  | nil => exact fun h k => ⟨h, k⟩
  | cons i is ih =>
    intro r r' h k
    obtain ⟨hstate, hlist⟩ := apart_redecideSegment i h k
    exact ih hstate hlist

theorem Apart.redecide (z : Nat) : Apart (Machine.redecide s z) (Machine.redecide t z) := by
  have hthreatened : threatened t z = threatened s z := by
    obtain ⟨ports, rfl⟩ := h
    rfl
  obtain ⟨hstate, hlist⟩ := apart_foldl_redecideSegment (r := (s, [])) (r' := (t, [])) (threatened s z) h rfl
  unfold Machine.redecide
  dsimp only
  rw [hthreatened, hlist]
  exact hstate.deliver _

theorem Apart.tripZone (z l : Nat) (st : LineState) : Apart (Machine.tripZone s z l st) (Machine.tripZone t z l st) := by
  have htripped := (((h.setZone z { fire l (s.zone z) with state := .tripped }).deliver
    ((threatened s z).map fun i => Instr.detectorEvent i z)).redecide z).zoneNotice z .trip (some (l, st)) none
  obtain ⟨ports, rfl⟩ := h
  exact htripped

theorem Apart.handToZone (z l : Nat) (st : LineState) :
    Apart (Machine.handToZone s z l st) (Machine.handToZone t z l st) := by
  have htrip := h.tripZone z l st
  have htell := h.zoneNotice z .line (some (l, st)) none
  have hjoin := (h.setZone z (fire l (s.zone z))).zoneNotice z .line (some (l, st)) none
  obtain ⟨ports, rfl⟩ := h
  unfold Machine.handToZone
  refine apart_ite (c := fires s z st = true) ?_ htell
  show Apart (match (s.zone z).state with
    | .quiet | .watch => _
    | .tripped | .work => _
    | .sweep => _) (match (s.zone z).state with
    | .quiet | .watch => _
    | .tripped | .work => _
    | .sweep => _)
  cases (s.zone z).state with
  | quiet | watch => exact htrip
  | tripped | work => exact hjoin
  | sweep => exact htell

theorem Apart.lineEnters (l : Nat) (st : LineState) : Apart (Machine.lineEnters s l st) (Machine.lineEnters t l st) := by
  have hline := h.setLine l { state := st, pending := none, confirm := 0 }
  have hderived := fun z => (hline.setZone z { (s.setLine l { state := st, pending := none, confirm := 0 }).zone z with
    degraded := degradedNow (s.setLine l { state := st, pending := none, confirm := 0 }) z }).handToZone z l st
  obtain ⟨ports, rfl⟩ := h
  unfold Machine.lineEnters
  dsimp only
  show Apart (match (imageLine s.image l).zone with
    | none => _
    | some z => _) (match (imageLine s.image l).zone with
    | none => _
    | some z => _)
  cases (imageLine s.image l).zone with
  | none => exact hline
  | some z => exact hderived z

theorem Apart.lineReport (l : Nat) (c : Condition) : Apart (Machine.lineReport s l c) (Machine.lineReport t l c) := by
  have henters := h.lineEnters l (stateOf c)
  have hset := fun v => h.setLine l v
  obtain ⟨ports, rfl⟩ := h
  exact apart_ite (apart_ite henters (hset _)) (hset _)

theorem Apart.lineLost (l : Nat) : Apart (Machine.lineLost s l) (Machine.lineLost t l) := by
  have henters := h.lineEnters l .unmonitored
  obtain ⟨ports, rfl⟩ := h
  exact apart_ite ⟨ports, rfl⟩ henters

omit h in
theorem apart_foldl {α : Type} {f : State → α → State} (hf : ∀ {s t : State} (a : α), Apart s t → Apart (f s a) (f t a))
    (l : List α) : ∀ {s t : State}, Apart s t → Apart (l.foldl f s) (l.foldl f t) := by
  induction l with
  | nil => exact fun h => h
  | cons a l ih => exact fun h => ih (hf a h)

theorem Apart.gathered {s' t' : State} (k : Apart s' t') : Apart (s.gathered s') (t.gathered t') := by
  obtain ⟨ports, rfl⟩ := h
  obtain ⟨ports', rfl⟩ := k
  exact ⟨ports', rfl⟩

theorem Apart.stationReport (x : Nat) (r : TripReport) :
    Apart (Machine.stationReport s x r) (Machine.stationReport t x r) := by
  have hfold := apart_foldl (fun l k => k.lineReport l (conditionAt r (inputOf s l))) (stationLines s.image x) h
  have hgathered := h.gathered hfold
  obtain ⟨ports, rfl⟩ := h
  exact hgathered

theorem Apart.tripLost (x : Nat) : Apart (Machine.tripLost s x) (Machine.tripLost t x) := by
  have hgathered := h.gathered (apart_foldl (fun l k => k.lineLost l) (stationLines s.image x) h)
  obtain ⟨ports, rfl⟩ := h
  exact hgathered

theorem Apart.beaconEntered (x : Nat) : Apart (Machine.beaconEntered s x) (Machine.beaconEntered t x) := by
  obtain ⟨ports, rfl⟩ := h
  unfold Machine.beaconEntered
  show Apart (match signOfBeacon s.image x with
    | some n => _
    | none => _) (match signOfBeacon s.image x with
    | some n => _
    | none => _)
  cases signOfBeacon s.image x with
  | none => exact ⟨ports, rfl⟩
  | some n => exact ⟨ports, rfl⟩

theorem Apart.beaconLeft (x : Nat) : Apart (Machine.beaconLeft s x) (Machine.beaconLeft t x) := by
  obtain ⟨ports, rfl⟩ := h
  unfold Machine.beaconLeft
  show Apart (match signOfBeacon s.image x with
    | some n => _
    | none => _) (match signOfBeacon s.image x with
    | some n => _
    | none => _)
  cases signOfBeacon s.image x with
  | none => exact ⟨ports, rfl⟩
  | some n => exact ⟨ports, rfl⟩

theorem Apart.placementLeft (x : Nat) : Apart (Machine.placementLeft s x) (Machine.placementLeft t x) := by
  obtain ⟨ports, rfl⟩ := h
  exact ⟨ports, rfl⟩

theorem Apart.placementEntered (x : Nat) : Apart (Machine.placementEntered s x) (Machine.placementEntered t x) := by
  obtain ⟨ports, rfl⟩ := h
  exact ⟨ports, rfl⟩

theorem Apart.gateRecorded (g : Nat) (r : GateReport) : Apart (Machine.gateRecorded s g r) (Machine.gateRecorded t g r) := by
  obtain ⟨ports, rfl⟩ := h
  exact ⟨ports, rfl⟩

theorem Apart.gateLost (g : Nat) : Apart (Machine.gateLost s g) (Machine.gateLost t g) := by
  have hevent := h.gateEvent g (lostMove (s.gate g)).1 (lostMove (s.gate g)).2
  obtain ⟨ports, rfl⟩ := h
  exact hevent

theorem Apart.takeRole (x : Nat) (c : Instr) : Apart (Machine.takeRole x s c) (Machine.takeRole x t c) := by
  have himg : t.image = s.image := by
    obtain ⟨ports, rfl⟩ := h
    rfl
  unfold Machine.takeRole
  rw [himg]
  split
  · exact apart_ite ((h.taking _).placementEntered x) h
  · exact apart_ite ((h.taking _).placementLeft x) h
  · exact apart_ite ((h.taking _).gateRecorded _ _) h
  · exact apart_ite ((h.taking _).gateLost _) h
  · exact apart_ite ((h.taking _).stationReport x _) h
  · exact apart_ite ((h.taking _).stationReport x _) h
  · exact apart_ite ((h.taking _).tripLost x) h
  · exact apart_ite ((h.taking _).beaconEntered x) h
  · exact apart_ite ((h.taking _).beaconLeft x) h
  · exact h

theorem Apart.roleTaken (x : Nat) : Apart (Machine.roleTaken s x) (Machine.roleTaken t x) := by
  have hfold := apart_foldl (fun c k => k.takeRole x c) s.deliveries h
  obtain ⟨ports, rfl⟩ := h
  exact hfold

end

end Sys2Proof.Machine

/-! PROOF. The departure of a station that is taken at once by the owner of its role (R9, R82, R91, R153, R168). -/

namespace Sys2Proof.Machine

set_option Elab.async false

open Sys2Proof

/-! ## The retargets that wait (R152) -/

theorem retargetAt_out {s : State} {n : Nat} (ht : TablesOk s) (hn : n < 24) (old new : Option Nat) :
    (retargetAt s n old new).out n = retargeted (s.out n) new := by
  have harb := (markedForBlank_beside ((s.setOut n (retargeted (s.out n) new)).recarry (Carriage.ofFace n))
    (leavesBlank s old new)).1
  have hout := (recarry_out (s.setOut n (retargeted (s.out n) new)) (Carriage.ofFace n) n).trans
    (setOut_out (retargeted (s.out n) new) ht hn)
  rw [retargetAt_eq]
  exact (congrArg (·.outputs.getD n default) harb).trans hout

theorem retargetAt_out_ne (s : State) {n m : Nat} (hm : m ≠ n) (old new : Option Nat) :
    (retargetAt s n old new).out m = s.out m := by
  have harb := (markedForBlank_beside ((s.setOut n (retargeted (s.out n) new)).recarry (Carriage.ofFace n))
    (leavesBlank s old new)).1
  have hout := (recarry_out (s.setOut n (retargeted (s.out n) new)) (Carriage.ofFace n) m).trans
    (State.setOut_out_ne s n m _ hm)
  rw [retargetAt_eq]
  exact (congrArg (·.outputs.getD m default) harb).trans hout

/-- A station that is not ACTIVE is not marked for blanking (R12). -/
theorem retargetAt_station {s : State} {x : Nat} (hx : s.panelUp x = false) (n : Nat) (old new : Option Nat) :
    (retargetAt s n old new).station x = s.station x := by
  have hother : leavesBlank s old new ≠ some x := fun h => by
    rw [(leavesBlank_iff.1 h).2.2.2] at hx
    cases hx
  have hkept : ((s.setOut n (retargeted (s.out n) new)).recarry (Carriage.ofFace n)).station x = s.station x := by
    rw [State.station, (signMoved_recarry (s.setOut n (retargeted (s.out n) new)) n (Carriage.ofFace n)).beside.field.field]
    rfl
  rw [retargetAt_eq, ← hkept]
  generalize (s.setOut n (retargeted (s.out n) new)).recarry (Carriage.ofFace n) = u
  cases hb : leavesBlank s old new with
  | none => rfl
  | some y =>
    have hxy : x ≠ y := fun h => hother (by rw [hb, h])
    exact State.setStation_station_ne u y x { u.station y with blankOwed := true } hxy

/-- A retarget event. -/
def isRetarget : Instr → Bool
  | .retarget .. => true
  | _ => false

theorem retargetAt_rest (s : State) (n : Nat) (old new : Option Nat) :
    (retargetAt s n old new).deliveries = s.deliveries ∧ (retargetAt s n old new).placement = s.placement := by
  have hleaves := leaves_retargetAt s n old new
  exact ⟨hleaves.kept .deliveries (by decide), hleaves.kept .placement (by decide)⟩

theorem retargetTaken_placement (t : State) (c : Instr) : (retargetTaken t c).placement = t.placement := by
  unfold retargetTaken
  split
  · exact (retargetAt_rest (t.taking _) _ _ _).2
  · rfl

theorem foldl_retargetTaken_placement (l : List Instr) (s : State) :
    (l.foldl retargetTaken s).placement = s.placement := by
  induction l generalizing s with
  | nil => rfl
  | cons c l ih => exact (ih _).trans (retargetTaken_placement s c)

theorem retargetTaken_deliveries (t : State) (c : Instr) :
    (retargetTaken t c).deliveries = if isRetarget c then t.deliveries.erase c else t.deliveries := by
  unfold retargetTaken
  split
  · exact (retargetAt_rest (t.taking _) _ _ _).1
  · next h =>
    cases c with
    | retarget n old new => exact absurd rfl (h n old new)
    | _ => rfl

theorem foldl_retargetTaken_count (l : List Instr) (s : State) (c : Instr) :
    (l.foldl retargetTaken s).deliveries.count c =
      s.deliveries.count c - if isRetarget c then l.count c else 0 := by
  induction l generalizing s with
  | nil => simp
  | cons d l ih =>
    rw [List.foldl_cons, ih, retargetTaken_deliveries, List.count_cons]
    by_cases hdc : d = c
    · subst hdc
      cases hd : isRetarget d
      · simp
      · simp only [if_true, List.count_erase_self, beq_self_eq_true]
        omega
    · have hbeq : (d == c) = false := beq_eq_false_iff_ne.2 hdc
      have herase : (t : List Instr) → (t.erase d).count c = t.count c := fun t => List.count_erase_of_ne fun h => hdc h.symm
      cases isRetarget d <;> simp [hbeq, herase]

/-- Every retarget that waits is taken, and no other event. -/
theorem takeRetargets_count (s : State) (c : Instr) :
    (takeRetargets s).deliveries.count c = if isRetarget c then 0 else s.deliveries.count c := by
  rw [takeRetargets_eq, foldl_retargetTaken_count]
  split
  · exact Nat.sub_self _
  · rfl

theorem foldl_retargetTaken_station {x : Nat} (l : List Instr) {s : State} (hx : s.panelUp x = false) :
    (l.foldl retargetTaken s).station x = s.station x := by
  induction l generalizing s with
  | nil => rfl
  | cons c l ih =>
    have hstation : (retargetTaken s c).station x = s.station x := by
      unfold retargetTaken
      split
      · exact retargetAt_station (s := s.taking _) hx _ _ _
      · rfl
    have hup : (retargetTaken s c).panelUp x = false := by
      rw [State.panelUp, retargetTaken_placement]
      exact hx
    exact (ih hup).trans hstation

theorem leaves_retargetTaken (t : State) (c : Instr) :
    Leaves [.notices, .outputs, .field, .deliveries] t (retargetTaken t c) := by
  unfold retargetTaken
  split
  · exact (leaves_taking t _).mono.andThen (leaves_retargetAt (t.taking _) _ _ _)
  · exact leaves_refl _ t

theorem foldl_retargetTaken_out_of_none {n : Nat} (l : List Instr) (hl : ∀ old new, Instr.retarget n old new ∉ l)
    (s : State) : (l.foldl retargetTaken s).out n = s.out n := by
  induction l generalizing s with
  | nil => rfl
  | cons c l ih =>
    have hout : (retargetTaken s c).out n = s.out n := by
      unfold retargetTaken
      split
      · next m old new =>
        have hmn : n ≠ m := fun h => hl old new (by rw [h]; exact List.mem_cons_self)
        exact retargetAt_out_ne (s.taking (.retarget m old new)) hmn old new
      · rfl
    exact (ih (fun old new h => hl old new (List.mem_cons_of_mem _ h)) _).trans hout

/-- The last retarget of a sign decides its target (R152). -/
theorem foldl_retargetTaken_out {n : Nat} {old new : Option Nat} {a b : List Instr} {s : State} (ht : TablesOk s)
    (hn : n < 24) (hb : ∀ old new, Instr.retarget n old new ∉ b) :
    ∃ o, ((a ++ .retarget n old new :: b).foldl retargetTaken s).out n = retargeted o new := by
  rw [List.foldl_append, List.foldl_cons]
  have htables : TablesOk (a.foldl retargetTaken s) := (leaves_foldl _ leaves_retargetTaken a s).tablesOk ht
  refine ⟨(a.foldl retargetTaken s).out n, (foldl_retargetTaken_out_of_none b hb _).trans ?_⟩
  exact retargetAt_out (s := (a.foldl retargetTaken s).taking (.retarget n old new)) htables hn old new

/-- A changed target is handed on once, behind the signs of lower index (R11). -/
theorem retargets_split {old new : Placement} {n : Nat} (hn : n < 24) (hne : targetIn old n ≠ targetIn new n) :
    ∃ a b, retargets old new = a ++ .retarget n (targetIn old n) (targetIn new n) :: b ∧
      ∀ y z, Instr.retarget n y z ∉ b := by
  obtain ⟨as, bs, hrange⟩ := List.append_of_mem (List.mem_range.2 hn)
  have hnodup : (as ++ n :: bs).Nodup := hrange ▸ List.nodup_range
  obtain ⟨-, hcons, -⟩ := List.nodup_append.1 hnodup
  have hhere := List.filterMap_cons_some (l := bs) (f := fun n => if targetIn old n = targetIn new n then none
    else some (Instr.retarget n (targetIn old n) (targetIn new n))) (if_neg hne)
  refine ⟨_, _, by rw [retargets, hrange, List.filterMap_append, hhere], fun y z h => ?_⟩
  obtain ⟨m, hm, hsome⟩ := List.mem_filterMap.1 h
  split at hsome
  · cases hsome
  · cases hsome
    exact (List.nodup_cons.1 hcons).1 hm

/-! ## A SIGN station departs (R9) -/

section
variable {u : State} {x : Nat} (ht : TablesOk u) (hp : PlacementOk u) (hx : x < 32)
include ht hp hx

theorem signDeparts_table :
    let t := takeRetargets (placementLeft u x)
    t.panelUp x = false ∧ (∀ y, y ≠ x → t.panelUp y = u.panelUp y) ∧
    t.placement.primaries = u.placement.primaries ∧
    (∀ n < 24, t.target n = if u.target n = some x then (freeStandby u n).filter (· != x) else u.target n) := by
  have hplacement : (takeRetargets (placementLeft u x)).placement = departed u.image u.placement x :=
    foldl_retargetTaken_placement ..
  obtain ⟨hprims, hup⟩ := departed_rest u.image u.placement x
  have hread := panelUp_set (placement_sized ht) hx false hup
  have hpanel : ∀ y, (takeRetargets (placementLeft u x)).panelUp y = upIn (departed u.image u.placement x) y := fun y => by
    rw [← hplacement]
    rfl
  refine ⟨(hpanel x).trans ((hread x).trans (if_pos rfl)), fun y hy => (hpanel y).trans ((hread y).trans (if_neg hy)),
    by rw [hplacement]; exact hprims, fun n hn => ?_⟩
  rw [freeStandby_eq, State.target, hplacement]
  exact departed_target (placement_sized ht) ((placementOk_iff u).1 hp) hx hn

theorem signDeparts_out {n : Nat} (hn : n < 24) (hnx : u.target n = some x) :
    let t := takeRetargets (placementLeft u x)
    (t.out n).target = t.target n ∧ (t.out n).carried = false ∧
      (t.out n).output = if (t.target n).isSome then .pending else .dark := by
  have hplacement : (takeRetargets (placementLeft u x)).placement = departed u.image u.placement x :=
    foldl_retargetTaken_placement ..
  have htarget : (takeRetargets (placementLeft u x)).target n = targetIn (departed u.image u.placement x) n := by
    rw [State.target, hplacement]
    rfl
  have hnx' : targetIn u.placement n = some x := hnx
  have hchanged : targetIn u.placement n ≠ targetIn (departed u.image u.placement x) n := by
    rw [departed_target (placement_sized ht) ((placementOk_iff u).1 hp) hx hn, if_pos hnx']
    intro h
    rw [hnx'] at h
    obtain ⟨-, hne⟩ := Option.filter_eq_some_iff.1 h.symm
    simp at hne
  obtain ⟨a, b, hsplit, hb⟩ := retargets_split hn hchanged
  have hdeliveries : (placementLeft u x).deliveries = (u.deliveries ++ a) ++
      .retarget n (targetIn u.placement n) (targetIn (departed u.image u.placement x) n) :: b := by
    rw [List.append_assoc, ← hsplit]
    rfl
  obtain ⟨o, ho⟩ := foldl_retargetTaken_out (a := u.deliveries ++ a) (s := placementLeft u x)
    (old := targetIn u.placement n) (new := targetIn (departed u.image u.placement x) n)
    ((leaves_placementLeft u x).tablesOk ht) hn hb
  rw [← hdeliveries, ← takeRetargets_eq] at ho
  dsimp only
  rw [ho, htarget]
  exact ⟨rfl, rfl, rfl⟩

omit hp in
/-- A station that departs is left without a mark for blanking. -/
theorem signDeparts_blank (hblank : (u.station x).blankOwed = false) :
    ((takeRetargets (placementLeft u x)).station x).blankOwed = false := by
  obtain ⟨-, hup⟩ := departed_rest u.image u.placement x
  have hdown : (placementLeft u x).panelUp x = false :=
    ((panelUp_set (placement_sized ht) hx false hup) x).trans (if_pos rfl)
  obtain ⟨-, hmarks⟩ := tableReplaced_replaceTable (tables_stations ht) (departed u.image u.placement x)
  rw [takeRetargets_eq, foldl_retargetTaken_station _ hdown]
  rw [show (placementLeft u x).station x = _ from hmarks x hx]
  dsimp only
  split
  · rfl
  · next h =>
    rw [if_neg fun h => ?_]
    · exact hblank
    · rw [show (replaceTable u (departed u.image u.placement x)).panelUp x = false from hdown] at h
      cases h.2

end

theorem signDeparts_deliveries (u : State) (x : Nat) :
    let t := takeRetargets (placementLeft u x)
    (∀ n a b, Instr.retarget n a b ∉ t.deliveries) ∧
    (∀ c, (∀ n a b, c ≠ .retarget n a b) → t.deliveries.count c = u.deliveries.count c) := by
  refine ⟨fun n a b h => ?_, fun c hc => ?_⟩
  · have hzero := takeRetargets_count (placementLeft u x) (.retarget n a b)
    exact absurd hzero (Nat.pos_iff_ne_zero.1 (List.count_pos_iff.2 h))
  · have hno : isRetarget c = false := by
      cases c with
      | retarget n a b => exact absurd rfl (hc n a b)
      | _ => rfl
    rw [takeRetargets_count, hno]
    have hcount : (retargets u.placement (departed u.image u.placement x)).count c = 0 :=
      List.count_eq_zero.2 fun h => by
        obtain ⟨m, -, hm⟩ := List.mem_filterMap.1 h
        split at hm
        · cases hm
        · exact hc _ _ _ (Option.some.inj hm).symm
    show (u.deliveries ++ retargets u.placement (departed u.image u.placement x)).count c = _
    rw [List.count_append, hcount, Nat.add_zero]

/-! ## A GATE station departs (R82) -/

theorem imageAccepted_gateFitted {img : Image} (h : imageAccepted img = true) {g x : Nat}
    (hx : (imageGate img g).station = some x) : (imageGate img g).segment.isSome = true := by
  simp only [imageAccepted, gatesOk, Bool.and_eq_true] at h
  obtain ⟨⟨⟨⟨⟨⟨⟨⟨⟨-, ⟨⟨⟨⟨hfit, -⟩, -⟩, -⟩, -⟩⟩, -⟩, -⟩, -⟩, -⟩, -⟩, -⟩, -⟩, -⟩ := h
  have hmem : imageGate img g ∈ img.gates := by
    unfold imageGate at hx ⊢
    by_cases hlt : g < img.gates.length
    · rw [← List.getElem_eq_getD (h := hlt)]
      exact List.getElem_mem hlt
    · rw [List.getD_eq_default _ _ (Nat.not_lt.1 hlt)] at hx
      cases hx
  have hsame := List.all_eq_true.1 hfit _ hmem
  rw [hx] at hsame
  exact beq_iff_eq.1 hsame

theorem gateOfStation_some {img : Image} {x g : Nat} (h : gateOfStation img x = some g) :
    g < 8 ∧ (imageGate img g).station = some x :=
  ⟨List.mem_range.1 (List.mem_of_find?_eq_some h), beq_iff_eq.1 (List.find?_some (p := fun g => (imageGate img g).station == some x) h)⟩

theorem gateDeparts {u : State} {x g : Nat} (ht : TablesOk u) (hg : GatesOk u)
    (hstation : gateOfStation u.image x = some g) (hrest : (u.gate g).moving = false) :
    let t := gateLost u g
    (t.gate g).stationUp = false ∧ (t.gate g).stopOwed = false ∧ (t.gate g).driveOwed = none ∧
    (t.gate g).timer = none ∧ (t.gate g).position = (u.gate g).position ∧
    (if (u.gate g).state = .fault then (t.gate g).state = .fault ∧ (t.gate g).cause = (u.gate g).cause
      else (t.gate g).state = .offline) ∧
    (∀ y, y ≠ g → t.gate y = u.gate y) ∧
    t.deliveries = u.deliveries ++
      (if (t.gate g).state ≠ (u.gate g).state then [.gateReportToSegment g] else []) := by
  obtain ⟨hlt, hof⟩ := gateOfStation_some hstation
  obtain ⟨hgate, -, hdeliveries, -, -⟩ := gateEvent_moved (lostMove (u.gate g)).1 (lostMove (u.gate g)).2
    (gates_sized ht (by simpa [gateOk] using hlt))
  have hself : (gateLost u g).gate g = (lostMove (u.gate g)).1.gate := (hgate g).trans (if_pos rfl)
  have hdelivery : gateDelivery u g = [.gateReportToSegment g] := if_pos (imageAccepted_gateFitted ht.1 hof)
  have hlost := lostMove_gate (hg g hlt)
  have hmanual : (lostMove (u.gate g)).1.gate.state ≠ .manual := by
    rw [hlost]
    dsimp only
    cases (u.gate g).state <;> simp
  have hdelivered : (gateLost u g).deliveries = u.deliveries ++
      (if ((gateLost u g).gate g).state ≠ (u.gate g).state then [.gateReportToSegment g] else []) := by
    refine hdeliveries.trans (congrArg (u.deliveries ++ ·) ?_)
    rw [hself, hdelivery]
    refine if_congr ?_ rfl rfl
    rw [gateChanged_iff]
    simp [GateChanged, hmanual]
  refine ⟨?_, ?_, ?_, ?_, ?_, ?_, fun y hy => (hgate y).trans (if_neg hy), hdelivered⟩
  all_goals
    rw [hself, hlost]
    dsimp only
    cases hst : (u.gate g).state with
    | lowering | raising | retreat => simp [Gate.moving, hst] at hrest
    | _ => simp

/-! ## A TRIP or a BEACON station departs (R91, R153) -/

theorem tripDeparts {u : State} (ht : TablesOk u) (hz : ZonesOk u) (x : Nat) :
    ZonesFollowLines u.deliveries (lineChanges u (.tripStationLost x)) u (tripLost u x) := by
  obtain ⟨zs, d, hfollowed, -⟩ := linesFollowed_foldl (s := u) ⟨ht, hz⟩
    (stationLines u.image x) (stationLines_nodup _ _) (fun l hl => (mem_stationLines.1 hl).1)
    fun l hl => lineLost_step (mem_stationLines.1 hl).1
  have hchanges : lineChanges u (.tripStationLost x) = (stationLines u.image x).filterMap fun l =>
      (if (u.line l).state = .unmonitored then none else some LineState.unmonitored).map fun st => (l, st) := by
    refine List.filterMap_congr fun l _ => ?_
    split <;> rfl
  rw [hchanges]
  exact hfollowed.zonesFollowLines (zonesSound_tripLost x ⟨ht, hz⟩).2

theorem beaconDeparts {u : State} (ht : TablesOk u) (x : Nat) :
    (beaconLeft u x).deliveries = u.deliveries ∧ ∀ n < 24, (beaconLeft u x).out n =
      if signOfBeacon u.image x = some n then
        { u.out n with beaconDriven := false, beaconOwed := false, lamp1 := false, lamp2 := false }
      else u.out n := by
  unfold beaconLeft
  cases hb : signOfBeacon u.image x with
  | none => exact ⟨rfl, fun n _ => rfl⟩
  | some m =>
    refine ⟨rfl, fun n hn => ?_⟩
    by_cases hmn : m = n
    · subst hmn
      rw [if_pos rfl]
      exact setOut_out _ ht hn
    · rw [if_neg fun h => hmn (Option.some.inj h)]
      exact State.setOut_out_ne _ _ _ _ fun h => hmn h.symm

end Sys2Proof.Machine

/-! PROOF. The attention button, STATION OFF and RESTART, and the quiescing exchange (R168–R170); settles O49. -/

namespace Sys2Proof.Machine

set_option Elab.async false

open Sys2Proof

/-! ## A station that enters QUIESCING (R168) -/

/-- Two records that agree but for the mark for blanking. -/
theorem station_of_unmarked {q r : Station} (h : q.unmarked = r.unmarked) : q = { r with blankOwed := q.blankOwed } := by
  have hrest : { q.unmarked with blankOwed := q.blankOwed } = { r.unmarked with blankOwed := q.blankOwed } := by rw [h]
  exact hrest

theorem recarry_station (s : State) (p : Carriage → Bool) (y : Nat) : (s.recarry p).station y = s.station y := by
  rw [State.station, (busRecarried_recarry s p).field]
  rfl

theorem gateLost_station (s : State) (g y : Nat) : (gateLost s g).station y = s.station y := by
  have h := recarry_station (s.setGate g (lostMove (s.gate g)).1.gate) ((lostMove (s.gate g)).1.replaces g) y
  unfold gateLost gateEvent
  dsimp only
  split
  · exact h
  · exact h

theorem setGate_gate_cases (s : State) (g : Nat) (v : Gate) (k : Nat) :
    (s.setGate g v).gate k = s.gate k ∨ k = g ∧ (s.setGate g v).gate k = v := by
  by_cases hk : k = g
  · subst hk
    by_cases hlt : k < s.gates.recs.length
    · exact .inr ⟨rfl, State.setGate_gate_self s k v hlt⟩
    · exact .inl (by simp [State.gate, List.set_eq_of_length_le (Nat.not_lt.1 hlt)])
  · exact .inl (State.setGate_gate_ne s g k v hk)

theorem lostMove_rests (g : Gate) : (lostMove g).1.gate.moving = false := by
  unfold lostMove
  cases hst : g.state <;> simp [Gate.moving, GateMove.still, faultWith, restIn, noOrders, hst]

theorem gate_of_gates {s t : State} (h : t.gates = s.gates) (g : Nat) : t.gate g = s.gate g := by
  rw [State.gate, h]
  rfl

/-- A gate that is not in motion stays so as the owners take what waits. -/
theorem resting_keptByOwners (g x : Nat) : KeptByOwners (fun s => (s.gate g).moving = false) [.gates] x where
  areas := by decide
  frame := fun _ _ h _ hs => by rw [gate_of_gates (h .gates (by simp))]; exact hs
  left := fun s hs => by rw [gate_of_gates ((leaves_placementLeft s x).kept .gates (by decide))]; exact hs
  entered := fun s hs => by rw [gate_of_gates ((leaves_placementEntered s x).kept .gates (by decide))]; exact hs
  recorded := fun s k r hs => by
    rcases setGate_gate_cases s k (identified (s.gate k) r) g with h | ⟨rfl, h⟩
    · rw [gateRecorded, h]; exact hs
    · rw [gateRecorded, h]; exact hs
  lost := fun s k hs => by
    have hgates := gate_of_gates (gateEvent_gates s k (lostMove (s.gate k)).1 (lostMove (s.gate k)).2) g
    rcases setGate_gate_cases s k (lostMove (s.gate k)).1.gate g with h | ⟨rfl, h⟩
    · rw [gateLost, hgates, h]; exact hs
    · rw [gateLost, hgates, h]; exact lostMove_rests _
  report := fun s r hs => by rw [gate_of_gates ((leaves_stationReport s x r).kept .gates (by decide))]; exact hs
  tripLost := fun s hs => by rw [gate_of_gates ((leaves_tripLost s x).kept .gates (by decide))]; exact hs

/-- A state in which a station that drives no gate in motion departs. -/
structure Departing (u : State) (x : Nat) : Prop where
  tables : TablesOk u
  placement : PlacementOk u
  zones : ZonesOk u
  gates : GatesOk u
  resting : ∀ g, gateOfStation u.image x = some g → (u.gate g).moving = false

theorem drivesMoving_false {s : State} {x : Nat} (h : drivesMoving s x = false) {g : Nat}
    (hg : gateOfStation s.image x = some g) : (s.gate g).moving = false := by
  rw [drivesMoving, hg] at h
  exact h

theorem departing_roleTaken {s : State} {x : Nat} (hx : x < 32) (ht : TablesOk s) (hp : PlacementOk s)
    (hz : ZonesOk s) (hg : GatesOk s) (hm : drivesMoving s x = false) : Departing (roleTaken s x) x where
  tables := (leaves_roleTaken s x).tablesOk ht
  placement := ((placementSound_keptByOwners hx).roleTaken s ⟨ht, hp⟩).2
  zones := ((zonesSound_keptByOwners x).roleTaken s ⟨ht, hz⟩).2
  gates := (gatesOk_keptByOwners x).roleTaken s hg
  resting g hof := (resting_keptByOwners g x).roleTaken s
    (drivesMoving_false hm (by rw [← (leaves_roleTaken s x).image]; exact hof))

theorem Departing.enters {u : State} {x : Nat} (h : Departing u x) (r : Station) (st : StationState)
    (cause : StationCause) : Departing (enterStation u x r st cause) x where
  tables := (leaves_enterStation u x r st cause).tablesOk h.tables
  placement := h.placement
  zones := h.zones
  gates := h.gates
  resting := h.resting

/-- The mark for blanking of a station that departs is not set again. -/
theorem departAtOnce_blank {u : State} {x : Nat} (h : Departing u x) (hx : x < 32)
    (hblank : (u.station x).blankOwed = false) : ((departAtOnce u x).station x).blankOwed = false := by
  unfold departAtOnce
  split
  · exact signDeparts_blank h.tables hx hblank
  · split
    · rw [gateLost_station]; exact hblank
    · exact hblank
  · rw [State.station, (leaves_tripLost u x).kept .field (by decide)]; exact hblank
  · rw [State.station, (leaves_beaconLeft u x).kept .field (by decide)]; exact hblank
  · exact hblank

/-- What a departure that is taken at once does in the station's role (R9, R82, R91, R153). -/
def RoleLeft (u t : State) (x : Nat) : Prop :=
  match imageType u.image x with
    | .sign =>
      t.panelUp x = false ∧ (∀ y, y ≠ x → t.panelUp y = u.panelUp y) ∧
      t.placement.primaries = u.placement.primaries ∧
      (∀ n < 24, t.target n =
        if u.target n = some x then (freeStandby u n).filter (· != x) else u.target n) ∧
      (∀ n < 24, u.target n = some x → (t.out n).target = t.target n ∧ (t.out n).carried = false ∧
        (t.out n).output = if (t.target n).isSome then .pending else .dark) ∧
      (∀ n a b, Instr.retarget n a b ∉ t.deliveries) ∧
      (∀ c, (∀ n a b, c ≠ .retarget n a b) → t.deliveries.count c = u.deliveries.count c)
    | .gate => ∀ g, gateOfStation u.image x = some g →
      (t.gate g).stationUp = false ∧ (t.gate g).stopOwed = false ∧ (t.gate g).driveOwed = none ∧
      (t.gate g).timer = none ∧ (t.gate g).position = (u.gate g).position ∧
      (if (u.gate g).state = .fault then (t.gate g).state = .fault ∧ (t.gate g).cause = (u.gate g).cause
      else (t.gate g).state = .offline) ∧
      (∀ y, y ≠ g → t.gate y = u.gate y) ∧
      t.deliveries = u.deliveries ++
        (if (t.gate g).state ≠ (u.gate g).state then [.gateReportToSegment g] else [])
    | .trip =>
      (∀ l < 24, t.line l =
        if l ∈ stationLines u.image x ∧ (u.line l).state ≠ .unmonitored then
          { state := .unmonitored, pending := none, confirm := 0 }
        else u.line l) ∧
      ZonesFollowLines u.deliveries (lineChanges u (.tripStationLost x)) u t
    | .beacon => t.deliveries = u.deliveries ∧ ∀ n < 24, t.out n =
      if signOfBeacon u.image x = some n then
        { u.out n with beaconDriven := false, beaconOwed := false, lamp1 := false, lamp2 := false }
      else u.out n
    | .unused => True

theorem roleLeft_departAtOnce {u : State} {x : Nat} (h : Departing u x) (hx : x < 32) :
    RoleLeft u (departAtOnce u x) x := by
  unfold RoleLeft departAtOnce
  cases imageType u.image x with
  | sign =>
    obtain ⟨hdown, hup, hprims, htarget⟩ := signDeparts_table h.tables h.placement hx
    obtain ⟨hnone, hcount⟩ := signDeparts_deliveries u x
    exact ⟨hdown, hup, hprims, htarget, fun n hn hnx => signDeparts_out h.tables h.placement hx hn hnx, hnone, hcount⟩
  | gate =>
    intro g hof
    dsimp only
    rw [hof]
    exact gateDeparts h.tables h.gates hof (h.resting g hof)
  | trip => exact ⟨fun l _ => tripLost_line h.tables x l, tripDeparts h.tables h.zones x⟩
  | beacon => exact beaconDeparts h.tables x
  | unused => trivial

/-- A departure reads neither the ports nor the station's record. -/
theorem RoleLeft.entered {u t : State} {x : Nat} {r : Station} {st : StationState} {cause : StationCause}
    (h : RoleLeft (enterStation u x r st cause) t x) : RoleLeft u t x := h

theorem leaves_quiesced (s : State) (x : Nat) (cause : StationCause) :
    Leaves quiesceAreas s (quiesceStation (roleTaken s x) x cause) :=
  (leaves_roleTaken s x).mono.trans (leaves_quiesceStation ..)

theorem quiesced_row {s : State} {x : Nat} (cause : StationCause) (ht : TablesOk s) (hok : StationsOk s)
    (hp : PlacementOk s) (hz : ZonesOk s) (hg : GatesOk s) (hx : stationOk x = true)
    (hst : (s.station x).state = .active) (hm : drivesMoving s x = false) :
    Quiesced s (roleTaken s x) (quiesceStation (roleTaken s x) x cause) x := by
  have hlt : x < 32 := by simpa [stationOk] using hx
  have hu := leaves_roleTaken s x
  have himg := hu.image
  have hunmarked := fun y => station_unmarked (hu.kept .stations (by decide)) y
  have hdep := departing_roleTaken hlt ht hp hz hg hm
  have hlines := linesKept_of_leaves (leaves_quiesced s x cause)
  have hchanges : ChangesOnly [.ports, .gates, .zones, .arbiter, .placement, .field, .deliveries] s
      (quiesceStation (roleTaken s x) x cause) := (leaves_quiesced s x cause).changesOnly (by decide) (by decide)
  unfold quiesceStation at hlines hchanges ⊢
  generalize roleTaken s x = u at himg hunmarked hdep hlines hchanges ⊢
  have hnone : (s.station x).cause = none := station_cause_none (hok.1 x hlt).1 (by rw [hst]; simp)
  have hcause : (u.station x).cause = none := (congrArg Station.cause (hunmarked x)).trans hnone
  have hself := enterStation_station (s := u) (x := x) (stations_lt hdep.tables hx)
    { u.station x with quiesceTries := 0, blankOwed := false } .quiescing cause
  have hothers := enterStation_others (s := u) (x := x)
    { u.station x with quiesceTries := 0, blankOwed := false } .quiescing cause
  have hdepv := hdep.enters { u.station x with quiesceTries := 0, blankOwed := false } .quiescing cause
  have hblank := departAtOnce_blank hdepv hlt (by rw [hself]; rfl)
  have hrole := (roleLeft_departAtOnce hdepv hlt).entered
  have hmarks := fun y => station_unmarked ((leaves_departAtOnce (enterStation u x
    { u.station x with quiesceTries := 0, blankOwed := false } .quiescing cause) x).kept .stations (by decide)) y
  generalize departAtOnce (enterStation u x { u.station x with quiesceTries := 0, blankOwed := false } .quiescing cause)
    x = t at hlines hchanges hblank hrole hmarks ⊢
  have hrecord := hmarks x
  rw [hself] at hrecord
  refine ⟨⟨congrArg Station.state hrecord, (congrArg Station.cause hrecord).trans hcause, congrArg Station.power hrecord,
    congrArg Station.indicator hrecord⟩, congrArg Station.quiesceTries hrecord, hblank, fun y hy => ?_, ?_, hlines, hchanges⟩
  · refine station_of_unmarked ((hmarks y).trans ?_)
    rw [hothers y hy]
    exact hunmarked y
  · rw [← himg]
    exact hrole

theorem quiesced_told {s : State} {x : Nat} (cause : StationCause) (ht : TablesOk s) (hok : StationsOk s)
    (hx : stationOk x = true) (hst : (s.station x).state = .active) :
    SoleStationNotice x (.station .quiescing cause none) s (quiesceStation (roleTaken s x) x cause) := by
  intro q _ hsub
  have hu := leaves_roleTaken s x
  have hstands := untold_roleTaken s x q hsub
  have hseconds : (roleTaken s x).clock.seconds = s.clock.seconds := congrArg Clock.seconds (hu.kept .clock (by decide))
  have hnone : (s.station x).cause = none :=
    station_cause_none (hok.1 x (by simpa [stationOk] using hx)).1 (by rw [hst]; simp)
  have hcause : ((roleTaken s x).station x).cause = none :=
    (congrArg Station.cause (station_unmarked (hu.kept .stations (by decide)) x)).trans hnone
  have htold := told_enterStation (stations_lt (hu.tablesOk ht) hx)
    { (roleTaken s x).station x with quiesceTries := 0, blankOwed := false } .quiescing cause
  unfold quiesceStation
  generalize roleTaken s x = u at hstands hseconds hcause htold ⊢
  have hport := htold.port q
  have hrest := (withNotices_rest u [(x, .station .quiescing cause (u.station x).cause)] (u.port q)).2.2.1
  dsimp only at hport
  rw [← hport] at hrest
  have hdeparts := untold_departAtOnce (enterStation u x
    { u.station x with quiesceTries := 0, blankOwed := false } .quiescing cause) x q (by rw [hrest, hstands]; exact hsub)
  dsimp only at hdeparts hport ⊢
  rw [hdeparts, hport, withNotices_cons, withNotices_nil, hcause, hseconds, hstands, hsub,
    if_pos (show (8#7 : BitVec 7).getLsbD (x, NoticeBody.station .quiescing cause none).2.bit = true from
      (by decide : (8#7 : BitVec 7).getLsbD 3 = true))]
  exact ⟨rfl, rfl⟩

/-! ## The attention button (R168) -/

theorem exec_attentionButton {s : State} {x : Nat} (hx : stationOk x = true) :
    exec (.attentionButton x) s = .next (press s x) := by
  show onObject (stationOk x) _ = _
  rw [hx]
  rfl

theorem refusedPress_row {s : State} {x : Nat} (ht : TablesOk s) (hok : StationsOk s) (hx : stationOk x = true)
    (hst : (s.station x).state = .active) (hm : drivesMoving s x = true) :
    ∃ t, exec (.attentionButton x) s = .next t ∧
      t.station x = { s.station x with indicator := .blink } ∧
      (∀ y, y ≠ x → t.station y = s.station y) ∧
      OneNotice none x (.station .active .attentionRefused none) s t ∧
      ChangesOnly [.ports, .field] s t := by
  have hexec := exec_attentionButton hx (s := s)
  rw [press, hst] at hexec
  dsimp only at hexec
  rw [if_pos hm] at hexec
  have hself := setStation_self (stations_lt ht hx) { s.station x with indicator := .blink }
  have hcause := station_cause_none (hok.1 x (by simpa [stationOk] using hx)).1 (by rw [hst]; simp)
  have htold : Told [(x, .station (s.station x).state .attentionRefused (s.station x).cause)] s
      (stationNotice (s.setStation x { s.station x with indicator := .blink }) x .attentionRefused) := by
    have hnotice := told_notify (s.setStation x { s.station x with indicator := .blink }) x (.station
      ((s.setStation x { s.station x with indicator := .blink }).station x).state .attentionRefused
      ((s.setStation x { s.station x with indicator := .blink }).station x).cause)
    have hbefore := hnotice.before (s := s) rfl rfl
    rw [stationNotice]
    rw [hself] at hbefore ⊢
    exact hbefore
  rw [hst, hcause] at htold
  exact ⟨_, hexec, hself, fun y hy => State.setStation_station_ne s x y { s.station x with indicator := .blink } hy,
    htold.oneNotice, ((leaves_setStation s x _).mono.andThen (leaves_stationNotice _ x .attentionRefused)
      (l' := [.notices, .stations, .field])).changesOnly (by decide) (by decide)⟩

/-- What a station that is powered leaves (R163, R168, R170). -/
theorem powerStation_row {s : State} {x : Nat} (ht : TablesOk s) (hx : stationOk x = true) (cause : StationCause) :
    StationIn (powerStation s x cause) x .powering none ∧
      (∀ y, y ≠ x → (powerStation s x cause).station y = s.station y) ∧
      Told [(x, .station .powering cause none)] s (powerStation s x cause) ∧
      (powerStation s x cause).deliveries = s.deliveries := by
  have hlen := stations_lt ht hx
  refine ⟨?_, enterStation_others _ _ _, told_enterStation hlen { s.station x with cause := none } .powering cause, rfl⟩
  unfold StationIn powerStation
  rw [enterStation_station hlen]
  exact ⟨rfl, rfl, rfl, rfl⟩

theorem powerStation_changes (s : State) (x : Nat) (cause : StationCause) :
    ChangesOnly [.ports, .field] s (powerStation s x cause) :=
  changesOnly_undelivered rfl ((leaves_powerStation s x cause).changesOnly (by decide) (by decide))

/-- What an answered exchange that carried the darkening leaves of the lamps (R153). -/
theorem darkened_out {s : State} (ht : TablesOk s) (x : Nat) {n : Nat} (hn : n < 24) :
    (carriedNow s x .darken).out n = if signOfBeacon s.image x = some n then
      { s.out n with lamp1 := false, lamp2 := false } else s.out n := by
  unfold carriedNow
  dsimp only
  cases signOfBeacon s.image x with
  | none => rfl
  | some m =>
    by_cases hmn : m = n
    · subst hmn
      rw [if_pos rfl]
      exact setOut_out { s.out m with lamp1 := false, lamp2 := false } ht hn
    · rw [if_neg fun h => hmn (Option.some.inj h)]
      exact State.setOut_out_ne s m n { s.out m with lamp1 := false, lamp2 := false } fun h => hmn h.symm

theorem leaves_darkened (s : State) (x : Nat) : Leaves [.outputs] s (carriedNow s x .darken) := by
  unfold carriedNow
  dsimp only
  split
  · exact leaves_setOut ..
  · exact leaves_refl _ s

section
variable {s : State} {x : Nat} (ht : TablesOk s) (hok : StationsOk s) (hx : stationOk x = true)
include ht hok hx

theorem press_row (hp : PlacementOk s) (hz : ZonesOk s) (hg : GatesOk s) : (match (s.station x).state with
      | .active =>
        if drivesMoving s x then
          ∃ t, exec (.attentionButton x) s = .next t ∧
            t.station x = { s.station x with indicator := .blink } ∧
            (∀ y, y ≠ x → t.station y = s.station y) ∧
            OneNotice none x (.station .active .attentionRefused none) s t ∧
            ChangesOnly [.ports, .field] s t
        else ∃ t, exec (.attentionButton x) s = .next t ∧ Quiesced s (roleTaken s x) t x ∧
          SoleStationNotice x (.station .quiescing .attention none) s t ∧
          (∀ q < 4, (t.port q).intake = (s.port q).intake ∧ (t.port q).owed = (s.port q).owed)
      | .off => ∃ t, exec (.attentionButton x) s = .next t ∧ StationIn t x .powering none ∧
          (∀ y, y ≠ x → t.station y = s.station y) ∧
          OneNotice none x (.station .powering .attention none) s t ∧ ChangesOnly [.ports, .field] s t
      | .absent | .powering | .identifying | .lost | .quiescing | .faulted =>
        exec (.attentionButton x) s = .next s) := by
  have hexec := exec_attentionButton hx (s := s)
  cases hst : (s.station x).state with
  | active =>
    by_cases hm : drivesMoving s x = true
    · simp only [if_pos hm]
      exact refusedPress_row ht hok hx hst hm
    · simp only [if_neg hm]
      rw [press, hst] at hexec
      dsimp only at hexec
      rw [if_neg hm] at hexec
      have hlines := (leaves_quiesced s x .attention).kept .lines (by decide)
      exact ⟨_, hexec, quiesced_row .attention ht hok hp hz hg hx hst (by simpa using hm),
        quiesced_told .attention ht hok hx hst, fun q _ => ⟨(hlines q).intake, (hlines q).owed⟩⟩
  | off =>
    rw [press, hst] at hexec
    obtain ⟨hin, hothers, htold, -⟩ := powerStation_row ht hx .attention
    exact ⟨_, hexec, hin, hothers, htold.oneNotice, powerStation_changes s x .attention⟩
  | absent | powering | identifying | lost | quiescing | faulted =>
    rw [press, hst] at hexec
    exact hexec

omit hok in
theorem refusalBlinkEnd_row : if (s.station x).state = .active then
      ∃ t, exec (.refusalBlinkEnd x) s = .next t ∧
        t.station x = { s.station x with indicator := .steady } ∧
        (∀ y, y ≠ x → t.station y = s.station y) ∧ ChangesOnly [.field] s t
    else exec (.refusalBlinkEnd x) s = .next s := by
  have hexec : exec (.refusalBlinkEnd x) s = .next (if (s.station x).state == .active then
      s.setStation x { s.station x with indicator := .steady } else s) := by
    show onObject (stationOk x) _ = _
    rw [hx]
    rfl
  split
  · next hst =>
    rw [if_pos (beq_iff_eq.2 hst)] at hexec
    exact ⟨_, hexec, setStation_self (stations_lt ht hx) _,
      fun y hy => State.setStation_station_ne s x y { s.station x with indicator := .steady } hy,
      event_changesOnly [.stations, .field] hexec rfl nofun rfl⟩
  · next hst => rw [hexec, if_neg fun h => hst (beq_iff_eq.1 h)]

/-! ## The quiescing exchange (R168) -/

omit ht hok in
theorem switchOff_row {u : State} (hu : TablesOk u) (hcause : (u.station x).cause = none) :
    StationIn (switchOff u x) x .off none ∧
      (switchOff u x).station x =
        { (u.station x).entering .off with identDue := ((switchOff u x).station x).identDue } ∧
      OthersStand u (switchOff u x) x ∧ Told [(x, .station .off .quiesced none)] u (switchOff u x) ∧
      (switchOff u x).deliveries = u.deliveries := by
  have hsame : (enterStation u x (u.station x) .off .quiesced).deliver [] = enterStation u x (u.station x) .off .quiesced := by
    rw [State.deliver, List.append_nil]
  obtain ⟨hin, hrecord, hdeliv, hothers, htold⟩ := endBus_entered (s := u) (x := x) (st := .off) (cause := .quiesced)
    (stations_lt hu hx) hcause []
  rw [hsame] at hin hrecord hdeliv hothers htold
  exact ⟨hin, hrecord, hothers, htold, hdeliv.trans (List.append_nil _)⟩

omit ht hok in
theorem exec_quiescingExchange :
    exec (.quiescingExchangeAnswered x) s = .next (if onBus s x .quiesce && (s.station x).state == .quiescing then
      switchOff (carriedNow s x (carrying s)) x else s) ∧
    exec (.quiescingExchangeUnanswered x) s = .next (if onBus s x .quiesce && (s.station x).state == .quiescing then
      quiesceMisses s x else s) := by
  constructor
  · show onObject (stationOk x) _ = _
    rw [hx]
    rfl
  · show onObject (stationOk x) _ = _
    rw [hx]
    rfl

omit hok in
/-- What an answered exchange settles by what it carried, and the station's entry to OFF. -/
theorem quiesceAnswered_changes {l : List Area} (c : Carriage) (hc : Leaves l s (carriedNow s x c)) {bs : List Block}
    (hcause : ((carriedNow s x c).station x).cause = none)
    (hdeliv : (carriedNow s x c).deliveries = s.deliveries)
    (hb : ∀ a ∈ l ++ stationAreas, a.block ∈ bs ++ [Block.deliveries]) (hl : Area.tables ∉ l ++ stationAreas) :
    ChangesOnly bs s (switchOff (carriedNow s x c) x) := by
  obtain ⟨-, -, -, -, hoff⟩ := switchOff_row hx ((leaves_carriedNow s x c).tablesOk ht) hcause
  refine changesOnly_undelivered (hoff.trans hdeliv) (Leaves.changesOnly (l := l ++ stationAreas) ?_ hb hl)
  exact hc.mono (fun a ha => List.mem_append_left _ ha) |>.trans
    ((leaves_switchOff _ x).mono fun a ha => List.mem_append_right _ ha)

theorem quiesceAnswered_row (hbus : onBus s x .quiesce = true ∧ (s.station x).state = .quiescing) :
    ∃ t, exec (.quiescingExchangeAnswered x) s = .next t ∧ StationIn t x .off none ∧
      OthersStand s t x ∧ OneNotice none x (.station .off .quiesced none) s t ∧
      (carrying s = .blank → (t.station x).blankOwed = false) ∧
      (carrying s = .nothing ∨ carrying s = .blank → ChangesOnly [.ports, .field] s t) ∧
      (carrying s = .darken →
        (∀ n < 24, t.out n = if signOfBeacon s.image x = some n then
          { s.out n with lamp1 := false, lamp2 := false } else s.out n) ∧
        t.arbiter.demands = s.arbiter.demands ∧ ChangesOnly [.ports, .arbiter, .field] s t) ∧
      ChangesOnly [.ports, .gates, .arbiter, .field] s t := by
  obtain ⟨hon, hst⟩ := hbus
  have hexec := (exec_quiescingExchange hx (s := s)).1
  rw [if_pos (by rw [hon, hst]; rfl)] at hexec
  have hcarried := carried_carriedNow ht (stations_lt ht hx) (carrying s)
  have hleaves := leaves_carriedNow s x (carrying s)
  have hnone : (s.station x).cause = none :=
    station_cause_none (hok.1 x (by simpa [stationOk] using hx)).1 (by rw [hst]; simp)
  have hcause : ((carriedNow s x (carrying s)).station x).cause = none := by rw [hcarried.station]; exact hnone
  obtain ⟨hin, hrecord, hothers, htold, hdeliv⟩ := switchOff_row hx (hleaves.tablesOk ht) hcause
  have hseconds : (carriedNow s x (carrying s)).clock.seconds = s.clock.seconds :=
    congrArg Clock.seconds (hleaves.kept .clock (by decide))
  have harbiter : (switchOff (carriedNow s x (carrying s)) x).arbiter = (carriedNow s x (carrying s)).arbiter :=
    ((leaves_switchOff (carriedNow s x (carrying s)) x).changesOnly (bs := [.ports, .field, .deliveries])
      (by decide) (by decide)) .arbiter (by decide)
  refine ⟨_, hexec, hin, OthersStand.trans (othersStand_of_eq hcarried.others) hothers,
    (htold.before hcarried.ports hseconds).oneNotice, fun hc => ?_, fun hc => ?_, fun hc => ⟨fun n hn => ?_, ?_, ?_⟩,
    quiesceAnswered_changes ht hx _ hleaves hcause hcarried.deliveries (by decide) (by decide)⟩
  · rw [hrecord, hcarried.station, hc]
    simp [Station.entering]
  · have hfield : Leaves [.stations, .field] s (carriedNow s x (carrying s)) := by
      rcases hc with h | h
      · rw [h]; exact leaves_refl _ s
      · rw [h]; exact leaves_setStation s x { s.station x with blankOwed := false }
    exact quiesceAnswered_changes ht hx _ hfield hcause hcarried.deliveries (by decide) (by decide)
  · refine (congrArg (·.outputs.getD n default) harbiter).trans ?_
    show (carriedNow s x (carrying s)).out n = _
    rw [hc]
    exact darkened_out ht x hn
  · rw [harbiter, hcarried.arbiter]
  · have hdark : Leaves [.outputs] s (carriedNow s x (carrying s)) := by
      rw [hc]
      exact leaves_darkened s x
    exact quiesceAnswered_changes ht hx _ hdark hcause hcarried.deliveries (by decide) (by decide)

theorem quiesceUnanswered_row (hbus : onBus s x .quiesce = true ∧ (s.station x).state = .quiescing) :
    ∃ t, exec (.quiescingExchangeUnanswered x) s = .next t ∧ OthersStand s t x ∧
      ChangesOnly [.ports, .field] s t ∧
      if (s.station x).quiesceTries < 2 then
        t.station x = { s.station x with quiesceTries := (s.station x).quiesceTries + 1 } ∧ NoNotice s t
      else StationIn t x .off none ∧ OneNotice none x (.station .off .quiesced none) s t := by
  obtain ⟨hon, hst⟩ := hbus
  have hexec := (exec_quiescingExchange hx (s := s)).2
  rw [if_pos (by rw [hon, hst]; rfl)] at hexec
  by_cases htries : (s.station x).quiesceTries < 2
  · simp only [if_pos htries]
    rw [quiesceMisses, if_pos htries] at hexec
    have hself := setStation_self (stations_lt ht hx) { s.station x with quiesceTries := (s.station x).quiesceTries + 1 }
    have hend := busMoved_endBus (s.setStation x { s.station x with quiesceTries := (s.station x).quiesceTries + 1 })
    exact ⟨_, hexec, hend.othersStand (othersStand_setStation s x _),
      ((leaves_setStation s x _).andThen (leaves_endBus _)).changesOnly (by decide) (by decide),
      (hend.sent x (by rw [hself, hst]; simp)).trans hself, (hend.told (told_of_ports rfl)).noNotice⟩
  · simp only [if_neg htries]
    rw [quiesceMisses, if_neg htries] at hexec
    have hnone : (s.station x).cause = none :=
      station_cause_none (hok.1 x (by simpa [stationOk] using hx)).1 (by rw [hst]; simp)
    obtain ⟨hin, -, hothers, htold, hdeliv⟩ := switchOff_row hx ht hnone
    exact ⟨_, hexec, hothers, changesOnly_undelivered hdeliv ((leaves_switchOff s x).changesOnly (by decide) (by decide)),
      hin, htold.oneNotice⟩

end

/-! ## STATION OFF and STATION RESTART (R169, R170) -/

/-- What an operation that leaves every line makes of the ports, once its command is answered. -/
theorem outcome_lines {α : Type} {c : Command α} {s u : State} {p : Nat} {a : α} {code : Result} {data : List Byte}
    (hrun : c.run (popFrame s p) p a = { code, data, state := u }) (hkept : Area.lines.kept (popFrame s p) u)
    (hs : p < s.ports.length) (hu : p < u.ports.length) :
    Replied p c.kind code data s (outcome c s p a) ∧ LinesKept s (outcome c s p a) := by
  have hself := hkept p
  rw [popFrame_port_self hs] at hself
  rw [outcome_eq hrun]
  refine ⟨⟨?_, ?_, fun q _ hqp => ?_⟩, fun q _ => ?_⟩
  · rw [owe_port _ hu]
    exact hself.intake
  · rw [owe_port _ hu]
    exact congrArg (· ++ _) hself.owed
  · rw [owe_port_ne _ hqp]
    have hq := hkept q
    rw [popFrame_port_ne hqp] at hq
    exact ⟨hq.intake, hq.owed⟩
  · by_cases hqp : q = p
    · subst hqp
      rw [owe_port _ hu]
      exact ⟨hself.assembly, hself.crcErrors, hself.subscription, hself.lastSent⟩
    · rw [owe_port_ne _ hqp]
      have hq := hkept q
      rw [popFrame_port_ne hqp] at hq
      exact ⟨hq.assembly, hq.crcErrors, hq.subscription, hq.lastSent⟩

/-- A sole notice stands whether or not the command's frame has left, and its reply is owed. -/
theorem SoleStationNotice.answered {s u : State} {p x : Nat} {b : NoticeBody} (h : SoleStationNotice x b (popFrame s p) u)
    (hs : p < s.ports.length) (hu : p < u.ports.length) (r : Reply) : SoleStationNotice x b s (u.owe p r) := by
  intro q hq hsub
  by_cases hqp : q = p
  · subst hqp
    have hport := popFrame_port_self hs
    have hq' := h q hq (by rw [hport]; exact hsub)
    rw [hport, pushNotice_intake] at hq'
    rw [owe_port _ hu]
    exact hq'
  · have hport := popFrame_port_ne (s := s) hqp
    have hq' := h q hq (by rw [hport]; exact hsub)
    rw [hport] at hq'
    rw [owe_port_ne _ hqp]
    exact hq'

theorem apart_popFrame (s : State) (p : Nat) : Apart s (popFrame s p) := ⟨_, rfl⟩

/-- What a station in QUIESCING has left is one whatever the ports hold. -/
theorem Quiesced.apart {s s' u u' t t' : State} {x : Nat} (h : Quiesced s' u' t' x) (hs : Apart s s') (hu : Apart u u')
    (ht : Apart t' t) (hlines : LinesKept s t)
    (hchanges : ChangesOnly [.ports, .gates, .zones, .arbiter, .placement, .field, .deliveries] s t) :
    Quiesced s u t x := by
  obtain ⟨ports, rfl⟩ := hs
  obtain ⟨ports', rfl⟩ := hu
  obtain ⟨ports'', rfl⟩ := ht
  obtain ⟨hin, htries, hblank, hothers, hrole, -, -⟩ := h
  exact ⟨hin, htries, hblank, hothers, hrole, hlines, hchanges⟩

theorem runStationOff_active {s : State} {p x : Nat} (hst : (s.station x).state = .active)
    (hm : drivesMoving s x = false) : runStationOff s p x =
      { code := .done, data := [5#8], state := quiesceStation (roleTaken s x) x .stationOff } :=
  if_neg (by rw [hst, hm]; decide)

theorem runStationOff_refused {s : State} {p x : Nat} (h : ¬((s.station x).state = .active ∧ drivesMoving s x = false)) :
    runStationOff s p x = refuse s .state :=
  if_pos (by
    rw [Bool.or_eq_true, bne_iff_ne]
    by_cases hst : (s.station x).state = .active
    · exact .inr (by simpa [hst] using h)
    · exact .inl hst)

theorem runStationRestart_powered {s : State} {p x : Nat} (h : (s.station x).state = .off ∨ (s.station x).state = .faulted) :
    runStationRestart s p x = { code := .done, data := [1#8], state := powerStation s x .stationRestart } :=
  if_pos (by simpa using h)

theorem runStationRestart_refused {s : State} {p x : Nat}
    (h : ¬((s.station x).state = .off ∨ (s.station x).state = .faulted)) :
    runStationRestart s p x = refuse s .state := if_neg (by simpa using h)

section
variable {s : State} {p x : Nat} (ht : TablesOk s) (hx : stationOk x = true)
include ht hx

theorem stationOff_row (hok : StationsOk s) (hp : PlacementOk s) (hz : ZonesOk s) (hg : GatesOk s)
    (hacc : Accepted stationOffCommand s p x) :
    if (s.station x).state = .active ∧ drivesMoving s x = false then
      ∃ t, exec (.stationOff p) s = .next t ∧ Quiesced s (roleTaken s x) t x ∧
        SoleStationNotice x (.station .quiescing .stationOff none) s t ∧
        Replied p .stationOff .done [5#8] s t
    else exec (.stationOff p) s = .next (answered s p .stationOff .state []) := by
  have hexec : exec (.stationOff p) s = .next (outcome stationOffCommand s p x) :=
    exec_accepted rfl (fun _ _ => ⟨rfl, rfl, rfl⟩) hacc
  split
  · next h =>
    obtain ⟨hst, hm⟩ := h
    have hrun : stationOffCommand.run (popFrame s p) p x = _ := runStationOff_active (s := popFrame s p) (p := p) hst hm
    have htables : TablesOk (popFrame s p) := (leaves_popFrame s p).tablesOk ht
    have hleaves := leaves_quiesced (popFrame s p) x .stationOff
    have hu : p < (quiesceStation (roleTaken (popFrame s p) x) x .stationOff).ports.length :=
      by rw [tables_ports (hleaves.tablesOk htables)]; exact accepted_port_lt hacc
    have hs := accepted_lt ht hacc
    obtain ⟨hreply, hlines⟩ := outcome_lines hrun (hleaves.kept .lines (by decide)) hs hu
    have hchanges : ChangesOnly [.ports, .gates, .zones, .arbiter, .placement, .field, .deliveries] s
        (outcome stationOffCommand s p x) :=
      outcome_changesOnly ((leaves_run .stationOff (popFrame s p) p x).changesOnly (by decide) (by decide)) (by decide)
    have hquiesced := quiesced_row (s := popFrame s p) .stationOff htables hok hp hz hg hx hst hm
    have hsole := quiesced_told (s := popFrame s p) .stationOff htables hok hx hst
    have heq := outcome_eq hrun
    refine ⟨_, hexec, ?_, ?_, hreply⟩
    · refine Quiesced.apart hquiesced (apart_popFrame s p) ((apart_popFrame s p).roleTaken x) ?_ hlines hchanges
      rw [heq]
      exact ⟨_, rfl⟩
    · rw [heq]
      exact SoleStationNotice.answered hsole hs hu _
  · next h =>
    rw [hexec, outcome_answered (runStationOff_refused (s := popFrame s p) (p := p) h)]
    rfl

theorem stationRestart_row (hacc : Accepted stationRestartCommand s p x) :
    if (s.station x).state = .off ∨ (s.station x).state = .faulted then
      ∃ t, exec (.stationRestart p) s = .next t ∧ StationIn t x .powering none ∧
        (∀ y, y ≠ x → t.station y = s.station y) ∧
        OneNotice none x (.station .powering .stationRestart none) s t ∧
        Replied p .stationRestart .done [1#8] s t ∧ ChangesOnly [.ports, .field] s t
    else exec (.stationRestart p) s = .next (answered s p .stationRestart .state []) := by
  have hexec : exec (.stationRestart p) s = .next (outcome stationRestartCommand s p x) :=
    exec_accepted rfl (fun _ _ => ⟨rfl, rfl, rfl⟩) hacc
  split
  · next h =>
    have hrun : stationRestartCommand.run (popFrame s p) p x = _ :=
      runStationRestart_powered (s := popFrame s p) (p := p) h
    obtain ⟨hin, hothers, htold, -⟩ := powerStation_row (s := popFrame s p) ((leaves_popFrame s p).tablesOk ht) hx
      .stationRestart
    obtain ⟨hnotices, hreply, -⟩ := outcome_told hrun htold (accepted_lt ht hacc)
    have heq := outcome_eq hrun
    have hchanges : ChangesOnly [.ports, .field] (popFrame s p) (stationRestartCommand.run (popFrame s p) p x).state := by
      rw [hrun]
      exact powerStation_changes (popFrame s p) x .stationRestart
    refine ⟨_, hexec, ?_, ?_, oneNotice_of_noticesSent hnotices, hreply, outcome_changesOnly hchanges (by decide)⟩
    · rw [heq]
      exact hin
    · rw [heq]
      exact hothers
  · next h =>
    rw [hexec, outcome_answered (runStationRestart_refused (s := popFrame s p) (p := p) h)]
    rfl

end

/-- Settles O49. -/
theorem stationsQuiesceAndRestart : Obligations.StationsQuiesceAndRestart := by
  refine fun s x ht hok hp hz hg hx => ⟨press_row ht hok hx hp hz hg, refusalBlinkEnd_row ht hx, ?_,
    fun p hacc => stationOff_row ht hx hok hp hz hg hacc, fun p hacc => stationRestart_row ht hx hacc⟩
  obtain ⟨hanswered, hunanswered⟩ := exec_quiescingExchange hx (s := s)
  split
  · next h => exact ⟨quiesceAnswered_row ht hok hx h, quiesceUnanswered_row ht hok hx h⟩
  · next h =>
    have hno : ¬(onBus s x .quiesce && (s.station x).state == .quiescing) = true := by simpa using h
    rw [hanswered, hunanswered, if_neg hno, if_neg hno]
    exact ⟨rfl, rfl⟩

end Sys2Proof.Machine
